-- ==== Sys2Proof/Word.lean ====
section
/-! DEFINITION. Words of the Rosua block and the sparse table used for every numbered group of units. -/

namespace Sys2Proof

/-- One byte. -/
abbrev Byte := BitVec 8
/-- A 32-bit register or parameter word (R8, R347). -/
abbrev Word := BitVec 32
/-- A 64-bit value (R5). -/
abbrev DWord := BitVec 64

/-- A sparse table: pairs of index and value, indices strictly rising. What an index that is not
listed holds is the default that the reader names. -/
abbrev Tab (α : Type) := List (Nat × α)

end Sys2Proof
end

