-- ==== Sys2Proof/Syntax.lean ====
section
/-! DEFINITION. The commands the block takes: packets on its ports, register accesses, and the events
of its pins, engines and timers. -/

namespace Sys2Proof

/-- A command packet as it arrives on a port (R347): ports 0-15 are the A-port functions, 16 the
S-port, 17 the M-port and 18 the C-port. -/
structure Pkt where
  /-- Port it arrived on. -/
  port : Nat
  /-- Header word 1 bits [11:0]. -/
  tag : Nat
  /-- Header word 1 bits [31:16]. -/
  seq : Nat
  /-- Header word 0 bit [28]. -/
  seqChk : Bool
  /-- Header word 2. -/
  scope : Word
  /-- Parameter words. -/
  params : List Word
  /-- Birton link it arrived on, for the C-port (R407). -/
  link : Nat
  /-- Class the master claims, for the C-port (R367). -/
  claimed : Nat
  deriving DecidableEq, Repr

/-- Leader kinds of a Heel (R298). -/
inductive LeaderKind where
  | none | genlock | input | head | master
  deriving DecidableEq, Repr

/-- Registers whose high half a read of the low half latches (R443). -/
inductive LatchSrc where
  | devTime
  | fcFirst (rec : Nat)
  deriving DecidableEq, Repr

/-- AUX reply codes (R392). -/
inductive AuxCode where
  | ack | nack | defer | timeout
  deriving DecidableEq, Repr

/-- Outcomes of one request of a DMA channel (R452). -/
inductive DmaResp where
  | ok | denied | poisoned | unmapped | retired | uncorrectable | parity | unsupported | aborted
  | timeout | bridge
  deriving DecidableEq, Repr

/-- A timing found in a sink's description (R228). -/
structure SinkMode where
  rate : Nat
  wa : Nat
  htot : Nat
  hss : Nat
  hsw : Nat
  ha : Nat
  vtot : Nat
  vss : Nat
  vsw : Nat
  hpos : Bool
  vpos : Bool
  /-- Needs DSC, 4:2:0, 4:2:2 or interlace, so it never enters the list. -/
  unsupported : Bool
  tile : Bool
  origin : Nat
  deriving DecidableEq, Repr

/-- What discovery reads from a sink (R225). -/
structure SinkDesc where
  /-- Rates the sink and every LTTPR support, Mbit/s per lane. -/
  rates : List Nat
  maxLanes : Nat
  spread : Bool
  mstCap : Bool
  /-- Paths of sink ports found through branch devices. -/
  paths : List Nat
  lttprs : Nat
  /-- False when the base E-EDID block was discarded. -/
  baseOk : Bool
  /-- Depths stated; empty when none. -/
  depths : List Nat
  /-- Sample rates, in Hz, of 2-channel LPCM descriptors. -/
  audioRates : List Nat
  testCrc : Bool
  /-- Timings, the preferred one first. -/
  modes : List SinkMode
  /-- Tile arrangement: 0 left and right, 1 top and bottom, with the bezel gap in pixels. -/
  tiled : Option (Nat × Nat)
  deriving DecidableEq, Repr

/-- A memory request reaching a region controller (R410). -/
structure MemReqIn where
  addr : Nat
  write : Bool
  data : List Byte
  len : Nat
  cls : Nat
  master : Nat
  urg : Nat
  deadline : Option Nat
  layer : Option Nat
  head : Option Nat
  deriving DecidableEq, Repr

/-- One received pixel: three components at the stream's depth. -/
structure Pix where
  c0 : Nat
  c1 : Nat
  c2 : Nat
  deriving DecidableEq, Repr

/-- A received input frame as measured (R256). -/
structure InFrame where
  rate : Nat
  wa : Nat
  htot : Nat
  ha : Nat
  vtot : Nat
  encoding : Nat
  depth : Nat
  colorimetry : Nat
  interlaced : Bool
  /-- Every active line had the length its MSA states. -/
  linesOk : Bool
  /-- The line periods agree within 1 %. -/
  steady : Bool
  linePs : Nat
  framePs : Nat
  deriving DecidableEq, Repr

/-- Items of a Birton identity frame (R529). -/
structure Ident where
  pkg : Nat
  strapMaster : Bool
  part : Nat
  serial : DWord
  role : Nat
  hops : Nat
  /-- Master or acting master it knows, 8 for none. -/
  master : Nat
  gen : Nat
  deriving DecidableEq, Repr

/-- The commands of the block: one constructor for each row of the opcode table. -/
inductive Instr where
  /-- DEV_IDENTIFY (R379). -/
  | devIdentify (p : Pkt)
  /-- DEV_CAPS (R380). -/
  | devCaps (p : Pkt)
  /-- DEV_EVENTS (R378). -/
  | devEvents (p : Pkt)
  /-- DEV_TIME (R378). -/
  | devTime (p : Pkt)
  /-- DEV_NOP (R378). -/
  | devNop (p : Pkt)
  /-- DEV_REGREAD (R381). -/
  | devRegread (p : Pkt)
  /-- DEV_REGWRITE (R381). -/
  | devRegwrite (p : Pkt)
  /-- PWR_SET (R510). -/
  | pwrSet (p : Pkt)
  /-- PWR_WAKE (R382). -/
  | pwrWake (p : Pkt)
  /-- PWR_READ (R382). -/
  | pwrRead (p : Pkt)
  /-- CLK_SEED (R285). -/
  | clkSeed (p : Pkt)
  /-- CLK_REGION (R294). -/
  | clkRegion (p : Pkt)
  /-- CLK_HEEL (R299). -/
  | clkHeel (p : Pkt)
  /-- CLK_GENLOCK (R304). -/
  | clkGenlock (p : Pkt)
  /-- CLK_REFLOST (R462). -/
  | clkReflost (p : Pkt)
  /-- CLK_READ (R384). -/
  | clkRead (p : Pkt)
  /-- MEM_RATE (R332). -/
  | memRate (p : Pkt)
  /-- MEM_ROWPROT (R328). -/
  | memRowprot (p : Pkt)
  /-- MEM_ERRLOG (R338). -/
  | memErrlog (p : Pkt)
  /-- MEM_READ (R385). -/
  | memRead (p : Pkt)
  /-- ACC_WINDOW (R316). -/
  | accWindow (p : Pkt)
  /-- ACC_TABLE (R413). -/
  | accTable (p : Pkt)
  /-- ACC_READ (R386). -/
  | accRead (p : Pkt)
  /-- CANVAS_WINDOW (R46). -/
  | canvasWindow (p : Pkt)
  /-- CANVAS_READ (R387). -/
  | canvasRead (p : Pkt)
  /-- LAYER_PLACE (R56). -/
  | layerPlace (p : Pkt)
  /-- LAYER_REMOVE (R153). -/
  | layerRemove (p : Pkt)
  /-- LAYER_SOURCE (R85). -/
  | layerSource (p : Pkt)
  /-- LAYER_FLIP (R148). -/
  | layerFlip (p : Pkt)
  /-- LAYER_SCALE (R98). -/
  | layerScale (p : Pkt)
  /-- LAYER_COLOUR (R114). -/
  | layerColour (p : Pkt)
  /-- LAYER_FILL (R133). -/
  | layerFill (p : Pkt)
  /-- LAYER_POLICY (R152). -/
  | layerPolicy (p : Pkt)
  /-- LAYER_PALETTE (R91). -/
  | layerPalette (p : Pkt)
  /-- LAYER_COEFSET (R99). -/
  | layerCoefset (p : Pkt)
  /-- LAYER_EOTFTABLE (R123). -/
  | layerEotftable (p : Pkt)
  /-- LAYER_TONETABLE (R127). -/
  | layerTonetable (p : Pkt)
  /-- LAYER_READ (R388). -/
  | layerRead (p : Pkt)
  /-- HEAD_PLACE (R49). -/
  | headPlace (p : Pkt)
  /-- HEAD_TIMING (R391). -/
  | headTiming (p : Pkt)
  /-- HEAD_BIND (R237). -/
  | headBind (p : Pkt)
  /-- HEAD_GROUP (R75). -/
  | headGroup (p : Pkt)
  /-- HEAD_PAIR (R78). -/
  | headPair (p : Pkt)
  /-- HEAD_COLOUR (R115). -/
  | headColour (p : Pkt)
  /-- HEAD_COMMIT (R144). -/
  | headCommit (p : Pkt)
  /-- HEAD_POLICY (R172). -/
  | headPolicy (p : Pkt)
  /-- HEAD_READ (R390). -/
  | headRead (p : Pkt)
  /-- LINK_CONFIG (R220). -/
  | linkConfig (p : Pkt)
  /-- LINK_TRAIN (R234). -/
  | linkTrain (p : Pkt)
  /-- LINK_AUX (R245). -/
  | linkAux (p : Pkt)
  /-- LINK_AUTOSTART (R244). -/
  | linkAutostart (p : Pkt)
  /-- LINK_READ (R392). -/
  | linkRead (p : Pkt)
  /-- INPUT_CONFIG (R248). -/
  | inputConfig (p : Pkt)
  /-- INPUT_EDID (R247). -/
  | inputEdid (p : Pkt)
  /-- INPUT_CAPTURE (R250). -/
  | inputCapture (p : Pkt)
  /-- INPUT_BIND (R254). -/
  | inputBind (p : Pkt)
  /-- INPUT_AUDIO (R266). -/
  | inputAudio (p : Pkt)
  /-- INPUT_STATUS (R393). -/
  | inputStatus (p : Pkt)
  /-- AUDIO_CONFIG (R268). -/
  | audioConfig (p : Pkt)
  /-- AUDIO_ROUTE (R275). -/
  | audioRoute (p : Pkt)
  /-- AUDIO_MUTE (R276). -/
  | audioMute (p : Pkt)
  /-- AUDIO_STATUS (R394). -/
  | audioStatus (p : Pkt)
  /-- MANTEL_AREA (R179). -/
  | mantelArea (p : Pkt)
  /-- MANTEL_ATLAS (R185). -/
  | mantelAtlas (p : Pkt)
  /-- MANTEL_PALETTE (R187). -/
  | mantelPalette (p : Pkt)
  /-- MANTEL_BACKDROP (R187). -/
  | mantelBackdrop (p : Pkt)
  /-- MANTEL_SPRITES (R189). -/
  | mantelSprites (p : Pkt)
  /-- MANTEL_COMMIT (R195). -/
  | mantelCommit (p : Pkt)
  /-- MANTEL_ARM (R197). -/
  | mantelArm (p : Pkt)
  /-- MANTEL_STORE (R216). -/
  | mantelStore (p : Pkt)
  /-- MANTEL_READ (R395). -/
  | mantelRead (p : Pkt)
  /-- CTM_WRITE (R194). -/
  | ctmWrite (p : Pkt)
  /-- CTM_FILL (R194). -/
  | ctmFill (p : Pkt)
  /-- CTM_READ (R194). -/
  | ctmRead (p : Pkt)
  /-- VERIFY_EXPECT (R206). -/
  | verifyExpect (p : Pkt)
  /-- VERIFY_REACT (R210). -/
  | verifyReact (p : Pkt)
  /-- VERIFY_RELEASE (R213). -/
  | verifyRelease (p : Pkt)
  /-- VERIFY_TILES (R204). -/
  | verifyTiles (p : Pkt)
  /-- VERIFY_ECHO (R214). -/
  | verifyEcho (p : Pkt)
  /-- VERIFY_SAFEFILL (R212). -/
  | verifySafefill (p : Pkt)
  /-- VERIFY_READ (R397). -/
  | verifyRead (p : Pkt)
  /-- FAULT_READ (R398). -/
  | faultRead (p : Pkt)
  /-- FAULT_CLEAR (R398). -/
  | faultClear (p : Pkt)
  /-- FAULT_REACT (R398). -/
  | faultReact (p : Pkt)
  /-- FAULT_BARK (R398). -/
  | faultBark (p : Pkt)
  /-- FAULT_INJECT (R476). -/
  | faultInject (p : Pkt)
  /-- IRQ_ROUTE (R467). -/
  | irqRoute (p : Pkt)
  /-- IRQ_MASK (R399). -/
  | irqMask (p : Pkt)
  /-- IRQ_HOLDOFF (R468). -/
  | irqHoldoff (p : Pkt)
  /-- IRQ_READ (R398). -/
  | irqRead (p : Pkt)
  /-- DMA_OWN (R444). -/
  | dmaOwn (p : Pkt)
  /-- DMA_SETUP (R400). -/
  | dmaSetup (p : Pkt)
  /-- DMA_TOKEN (R156). -/
  | dmaToken (p : Pkt)
  /-- DMA_PAUSE (R453). -/
  | dmaPause (p : Pkt)
  /-- DMA_READ (R400). -/
  | dmaRead (p : Pkt)
  /-- TELEM_READ (R502). -/
  | telemRead (p : Pkt)
  /-- TELEM_PUSH (R503). -/
  | telemPush (p : Pkt)
  /-- TELEM_LIMIT (R401). -/
  | telemLimit (p : Pkt)
  /-- WEAR_ORBIT (R501). -/
  | wearOrbit (p : Pkt)
  /-- WEAR_CAP (R500). -/
  | wearCap (p : Pkt)
  /-- WEAR_READ (R499). -/
  | wearRead (p : Pkt)
  /-- REPAIR_LEDGER (R482). -/
  | repairLedger (p : Pkt)
  /-- REPAIR_RETIRE (R402). -/
  | repairRetire (p : Pkt)
  /-- REPAIR_CLEAR (R402). -/
  | repairClear (p : Pkt)
  /-- CASC_CEILING (R368). -/
  | cascCeiling (p : Pkt)
  /-- CASC_DEPUTY (R547). -/
  | cascDeputy (p : Pkt)
  /-- CASC_READ (R549). -/
  | cascRead (p : Pkt)
  /-- SVC_EXIT (R510). -/
  | svcExit (p : Pkt)
  /-- SVC_BIST (R402). -/
  | svcBist (p : Pkt)
  /-- SVC_CLKOBS (R402). -/
  | svcClkobs (p : Pkt)
  /-- SVC_MEMREAD (R402). -/
  | svcMemread (p : Pkt)
  /-- SEND (R363). -/
  | send (bytes : List Byte)
  /-- SEND_QUAD (R363). -/
  | sendQuad (bytes : List Byte)
  /-- RECEIVE (R365). -/
  | receive (clocked : Nat)
  /-- RECEIVE_QUAD (R365). -/
  | receiveQuad (clocked : Nat)
  /-- STATUS (R364). -/
  | status
  /-- S_PORT_INVALID_INSTRUCTION (R363). -/
  | sPortInvalidInstruction (code : Byte)
  /-- SVC_PACKET (R366). -/
  | svcPacket (bytes : List Byte)
  /-- IDCODE (R563). -/
  | idcode
  /-- BYPASS (R563). -/
  | bypass (bits : List Bool)
  /-- EXTEST (R563). -/
  | extest (drive : List Bool)
  /-- SQ_TAIL (R360). -/
  | sqTail (fn unit : Nat) (hostRing : List Byte)
  /-- CQ_HEAD (R361). -/
  | cqHead (fn unit : Nat)
  /-- RING_CTRL_WRITE (R426). -/
  | ringCtrlWrite (path fn : Nat) (val : Word)
  /-- IRQ_ACK (R428). -/
  | irqAck (fn vec : Nat)
  /-- FUNCTION_LEVEL_RESET (R362). -/
  | functionLevelReset (fn : Nat)
  /-- VF_DISABLE (R362). -/
  | vfDisable (keep : Nat)
  /-- PCIE_LINK_DOWN (R362). -/
  | pcieLinkDown
  /-- BUS_MASTER_ENABLE_CLEAR (R362). -/
  | busMasterEnableClear (fn : Nat)
  /-- BUS_MASTER_ENABLE_SET (R362). -/
  | busMasterEnableSet (fn : Nat)
  /-- BAR2_READ (R420). -/
  | bar2Read (fn off len : Nat)
  /-- BAR2_WRITE (R420). -/
  | bar2Write (fn off : Nat) (data : List Byte)
  /-- REGISTER_WRITE (R8). -/
  | registerWrite (fn off be : Nat) (val : DWord)
  /-- CFG_LOCK_LOCK (R436). -/
  | cfgLockLock (path die : Nat) (val : Word)
  /-- IA_ADDR_WRITE (R438). -/
  | iaAddrWrite (path die : Nat) (val : Word)
  /-- IA_DATA_READ (R438). -/
  | iaDataRead (path die : Nat)
  /-- IA_DATA_WRITE (R438). -/
  | iaDataWrite (path die : Nat) (val : Word)
  /-- INDIRECT_READ_TIMEOUT (R438). -/
  | indirectReadTimeout (path die : Nat)
  /-- INDIRECT_WRITE_COMPLETE (R438). -/
  | indirectWriteComplete (die : Nat)
  /-- COMPLEMENT_PAIR_OPEN (R434). -/
  | complementPairOpen (path die off : Nat) (val : Word)
  /-- COMPLEMENT_PAIR_TIMEOUT (R434). -/
  | complementPairTimeout (master die : Nat)
  /-- FAULT_REACT_PAIR (R432). -/
  | faultReactPair (path die i : Nat) (val comp : Word)
  /-- BARK_WIDTH_PAIR (R432). -/
  | barkWidthPair (path die : Nat) (val comp : Word)
  /-- ERR_REL (R433). -/
  | errRel (path : Nat) (val comp : Word)
  /-- IRQ_TARGET_WRITE (R430). -/
  | irqTargetWrite (path die i : Nat) (val : Word)
  /-- IRQ_MASK_REGISTER_WRITE (R430). -/
  | irqMaskRegisterWrite (path die n : Nat) (val : Word)
  /-- FC_STICKY_CLEAR (R431). -/
  | fcStickyClear (path rec : Nat) (hi : Bool) (val : Word)
  /-- ACC_ERR_READ (R423). -/
  | accErrRead (path die : Nat)
  /-- FN_STAT_READ (R425). -/
  | fnStatRead (path fn : Nat)
  /-- DEV_TIME_LO_READ (R443). -/
  | devTimeLoRead (path die : Nat)
  /-- FC_FIRST_TIME_LO_READ (R443). -/
  | fcFirstTimeLoRead (path rec : Nat)
  /-- LATCHED_HIGH_READ (R443). -/
  | latchedHighRead (path : Nat) (src : LatchSrc)
  /-- DMA_DOORBELL (R450). -/
  | dmaDoorbell (path ch : Nat) (val : Word)
  /-- DMA_CHAIN_WRITE (R440). -/
  | dmaChainWrite (path ch : Nat) (hi : Bool) (val : Word)
  /-- DMA_CTRL_PAUSE (R450). -/
  | dmaCtrlPause (path ch : Nat)
  /-- DMA_CTRL_RESUME (R450). -/
  | dmaCtrlResume (path ch : Nat)
  /-- DMA_IRQ_CLEAR (R451). -/
  | dmaIrqClear (path ch : Nat) (val : Word)
  /-- CV_CTRL_START (R457). -/
  | cvCtrlStart (path unit : Nat) (val : Word)
  /-- CV_DATA_WRITE (R458). -/
  | cvDataWrite (path unit be : Nat) (val : Word)
  /-- CV_RESULT_READ (R458). -/
  | cvResultRead (path unit : Nat)
  /-- CV_BYTE_PROCESSED (R458). -/
  | cvByteProcessed (unit : Nat)
  /-- HEAD_COMMIT_LINE (R146). -/
  | headCommitLine (h : Nat)
  /-- VERTICAL_BLANKING_START (R145). -/
  | verticalBlankingStart (h : Nat)
  /-- END_OF_LAST_ACTIVE_LINE (R207). -/
  | endOfLastActiveLine (h : Nat)
  /-- HEAD_LINE_START (R212). -/
  | headLineStart (h line : Nat)
  /-- UNDERRUN (R171). -/
  | underrun (h line col : Nat)
  /-- LE_FETCH_WINDOW (R159). -/
  | leFetchWindow (h line : Nat)
  /-- ECHO_CRC_READ_COMPLETE (R215). -/
  | echoCrcReadComplete (h count : Nat) (crcR crcG crcB : Nat)
  /-- MEMORY_REQUEST_ARRIVAL (R410). -/
  | memoryRequestArrival (r : MemReqIn)
  /-- COMMAND_SLOT (R321). -/
  | commandSlot (pc : Nat)
  /-- MEMORY_READ_COMPLETE (R336). -/
  | memoryReadComplete (id : Nat) (flips : List (Nat × BitVec 72))
  /-- RE_HOMING_COMPLETE (R344). -/
  | reHomingComplete (g : Nat)
  /-- CA_PARITY_ERROR (R337). -/
  | caParityError (pc : Nat) (repeatOk : Bool)
  /-- REFRESH_INTERVAL (R326). -/
  | refreshInterval (pc bank : Nat)
  /-- REFRESH_WINDOW_END (R327). -/
  | refreshWindowEnd (g : Nat)
  /-- ROW_IDLE_TIMEOUT (R322). -/
  | rowIdleTimeout (pc bank : Nat)
  /-- URGENCY_RECOMPUTE (R324). -/
  | urgencyRecompute (g : Nat)
  /-- UNRESERVED_AGE_TIMEOUT (R325). -/
  | unreservedAgeTimeout (g : Nat)
  /-- WRITE_BUFFER_OVERFLOW (R325). -/
  | writeBufferOverflow (src : Nat)
  /-- RETRAIN_STEP_DUE (R331). -/
  | retrainStepDue (pc : Nat)
  /-- RETRAIN_STEP_SKIP (R331). -/
  | retrainStepSkip (pc : Nat)
  /-- RETRAIN_STEP_COMPLETE (R331). -/
  | retrainStepComplete (pc : Nat) (pass : Bool)
  /-- SELF_REFRESH_IDLE_ENTRY (R335). -/
  | selfRefreshIdleEntry (pc : Nat)
  /-- TRAINING_CACHE_WRITE (R330). -/
  | trainingCacheWrite (band : Nat)
  /-- MEMORY_CORE_LOCKED (R332). -/
  | memoryCoreLocked (die : Nat)
  /-- RATE_CHANGE_VERIFIED (R333). -/
  | rateChangeVerified (die : Nat) (failed : Option Nat)
  /-- REFCLK_WATCHDOG_COUNT (R282). -/
  | refclkWatchdogCount (count : Nat)
  /-- LOCK_WINDOW_END (R286). -/
  | lockWindowEnd (synth count : Nat)
  /-- PARKED_SYNTH_WAKE (R287). -/
  | parkedSynthWake (synth count : Nat)
  /-- RAMP_UPDATE (R292). -/
  | rampUpdate (synth : Nat)
  /-- PIXEL_LOCK_RETURN_TIMEOUT (R297). -/
  | pixelLockReturnTimeout (h : Nat)
  /-- CLOCK_SWITCH_FAULT (R291). -/
  | clockSwitchFault (synth : Nat)
  /-- LEADER_EVENT (R300). -/
  | leaderEvent (follower : Nat) (t : Nat) (err : Int)
  /-- LEADER_LOST (R305). -/
  | leaderLost (kind : LeaderKind) (idx : Nat)
  /-- GENLOCK_EDGE (R304). -/
  | genlockEdge (rising : Bool) (t : Nat)
  /-- GENLOCK_LOST (R304). -/
  | genlockLost
  /-- LINK_PLUG (R222). -/
  | linkPlug (l : Nat)
  /-- LINK_UNPLUG (R222). -/
  | linkUnplug (l : Nat)
  /-- IRQ_HPD (R235). -/
  | irqHpd (l : Nat) (lanesLocked : Bool) (topo : Option (List Nat))
  /-- HPD_GLITCH (R222). -/
  | hpdGlitch (l : Nat)
  /-- LINK_TRAINING_SLOT_FREE (R224). -/
  | linkTrainingSlotFree (die : Nat)
  /-- AUX_TRANSACTION_REPLY (R226). -/
  | auxTransactionReply (l : Nat) (code : AuxCode) (data : List Byte)
  /-- AUX_REPLY_TIMEOUT (R226). -/
  | auxReplyTimeout (l : Nat)
  /-- DISCOVERY_RESTART_TIMER (R226). -/
  | discoveryRestartTimer (l : Nat)
  /-- DISCOVERY_COMPLETE (R225). -/
  | discoveryComplete (l : Nat) (sink : SinkDesc)
  /-- TRAINING_ATTEMPT_END (R233). -/
  | trainingAttemptEnd (l : Nat) (ok : Bool) (phase : Nat)
  /-- TRAINING_ATTEMPT_TIMEOUT (R233). -/
  | trainingAttemptTimeout (l : Nat) (phase : Nat)
  /-- LINK_FAILED_RETRY (R223). -/
  | linkFailedRetry (l : Nat)
  /-- LINK_LOCK_LOSS (R235). -/
  | linkLockLoss (l : Nat)
  /-- INPUT_SOURCE_TRAINING (R248). -/
  | inputSourceTraining (v rate lanes : Nat)
  /-- INPUT_SYMBOL_LOCK_LOSS (R257). -/
  | inputSymbolLockLoss (v : Nat)
  /-- INPUT_LINE_TIMEOUT (R257). -/
  | inputLineTimeout (v : Nat)
  /-- INPUT_LINE_END (R257). -/
  | inputLineEnd (v line : Nat) (periodPs : Nat) (pixels : List Pix)
  /-- INPUT_FRAME_END (R256). -/
  | inputFrameEnd (v : Nat) (f : InFrame)
  /-- CAPTURE_FRAME_COMPLETE (R253). -/
  | captureFrameComplete (v : Nat)
  /-- INPUT_NOSIGNAL_TIMEOUT (R259). -/
  | inputNosignalTimeout (v : Nat)
  /-- INPUT_EDID_HPD_TIMER (R247). -/
  | inputEdidHpdTimer (v : Nat)
  /-- INPUT_AUDIO_STOP (R267). -/
  | inputAudioStop (v : Nat)
  /-- AUDIO_WS_PERIOD (R272). -/
  | audioWsPeriod (src : Nat) (ticks : Nat) (ch1 ch2 : List Bool)
  /-- AUDIO_WINDOW_END (R271). -/
  | audioWindowEnd (src edges ticks minTicks maxTicks : Nat)
  /-- AUDIO_WS_TIMEOUT (R272). -/
  | audioWsTimeout (src : Nat)
  /-- AUDIO_PARTIAL_BLOCK_TIMER (R274). -/
  | audioPartialBlockTimer (src : Nat)
  /-- AUDIO_CHANGE_TIMEOUT (R276). -/
  | audioChangeTimeout (h ch : Nat)
  /-- FAULT_DETECTED (R470). -/
  | faultDetected (rec bit : Nat) (syn : Word) (holds : Bool)
  /-- BLOCK_RESET_COMPLETE (R473). -/
  | blockResetComplete (rec : Nat) (passed : Bool)
  /-- BARK_PULSE_ELAPSED (R478). -/
  | barkPulseElapsed
  /-- IRQ_DELIVERY (R464). -/
  | irqDelivery
  /-- HOLDOFF_EXPIRY (R468). -/
  | holdoffExpiry (group : Nat)
  /-- BUREAU_IRQ_ACK (R465). -/
  | bureauIrqAck (die core : Nat)
  /-- MANTEL_PAIR_MISCOMPARE (R184). -/
  | mantelPairMiscompare (c : Nat)
  /-- MANTEL_PAIR_TEST_COMPLETE (R184). -/
  | mantelPairTestComplete (c : Nat) (pass : Bool)
  /-- MANTEL_AREA_COPY_COMPLETE (R179). -/
  | mantelAreaCopyComplete
  /-- MANTEL_SEAL_COMPLETE (R216). -/
  | mantelSealComplete
  /-- LUT_IMAGE_READ_COMPLETE (R136). -/
  | lutImageReadComplete (c : Nat)
  /-- CLUSTER_WAKE (R27). -/
  | clusterWake (c : Nat)
  /-- REGION_POWER_GATE (R514). -/
  | regionPowerGate (g : Nat)
  /-- DMA_DESCRIPTOR_FETCHED (R448). -/
  | dmaDescriptorFetched (ch : Nat) (host : List Byte)
  /-- DMA_REQUEST_RESPONSE (R452). -/
  | dmaRequestResponse (ch : Nat) (resp : DmaResp) (srcHost dstHost : List Byte)
  /-- DMA_RETRY_TIMER (R452). -/
  | dmaRetryTimer (ch : Nat)
  /-- DMA_DESCRIPTOR_COMPLETE (R451). -/
  | dmaDescriptorComplete (ch : Nat)
  /-- DMA_LINK_REREAD_RESULT (R454). -/
  | dmaLinkRereadResult (ch : Nat) (hostLink : DWord)
  /-- DMA_DRAIN_COMPLETE (R453). -/
  | dmaDrainComplete (ch : Nat)
  /-- DMA_OWNER_STOP_COMPLETE (R446). -/
  | dmaOwnerStopComplete (ch : Nat)
  /-- KENNEL_ROTATION_DUE (R483). -/
  | kennelRotationDue (c : Nat)
  /-- HANDOVER_COMPARE_RESULT (R484). -/
  | handoverCompareResult (c : Nat) (agree : Bool)
  /-- KENNEL_LOGIC_TEST_COMPLETE (R485). -/
  | kennelLogicTestComplete (c : Nat) (pass : Bool)
  /-- LE_FAULT_DETECTED (R488). -/
  | leFaultDetected (c slot : Nat)
  /-- KENNEL_TAKEOVER_COMPLETE (R488). -/
  | kennelTakeoverComplete (c us : Nat)
  /-- LE_SHORT_TEST_COMPLETE (R488). -/
  | leShortTestComplete (c slot : Nat) (pass : Bool)
  /-- MIGRATION_SYNTH_LOCKED (R492). -/
  | migrationSynthLocked (h : Nat)
  /-- MIGRATION_LINK_SWITCH (R492). -/
  | migrationLinkSwitch (h : Nat)
  /-- LEDGER_WRITE_COMPLETE (R481). -/
  | ledgerWriteComplete
  /-- BUREAU_FAILOVER (R494). -/
  | bureauFailover (die : Nat)
  /-- BUREAU_PAIR_SELFTEST_COMPLETE (R494). -/
  | bureauPairSelftestComplete (die : Nat) (pass : Bool)
  /-- HOUND_SCRUB_READ (R497). -/
  | houndScrubRead (addr : Nat) (flips : List (Nat × BitVec 72))
  /-- CALIBRATION_TICK (R498). -/
  | calibrationTick (readings : List (Nat × Int)) (symErrs : List (Nat × Nat))
  /-- WEAR_UPDATE_TICK (R499). -/
  | wearUpdateTick
  /-- WEAR_ORBIT_STEP (R501). -/
  | wearOrbitStep (h : Nat)
  /-- TELEM_PUSH_PERIOD (R503). -/
  | telemPushPeriod
  /-- TELEM_SENSOR_READING (R401). -/
  | telemSensorReading (rail : Bool) (idx : Nat) (val : Int)
  /-- THERMAL_TRIP (R569). -/
  | thermalTrip
  /-- THERMAL_TRIP_RELEASE (R569). -/
  | thermalTripRelease
  /-- WAKE_EVENT (R512). -/
  | wakeEvent (bit : Nat)
  /-- POWER_TRANSITION_COMPLETE (R510). -/
  | powerTransitionComplete
  /-- AO_IO_RAILS_GOOD (R555). -/
  | aoIoRailsGood
  /-- POR_RELEASE (R556). -/
  | porRelease
  /-- AO_IO_RAIL_LOSS (R556). -/
  | aoIoRailLoss
  /-- RAIL_OUT_OF_RANGE (R556). -/
  | railOutOfRange (rail : Nat)
  /-- SWITCHED_RAIL_TIMEOUT (R556). -/
  | switchedRailTimeout
  /-- RESET_N_PULSE (R557). -/
  | resetNPulse (ns : Nat)
  /-- AO_BOOT_DONE (R481). -/
  | aoBootDone (ledgerCrcOk : Bool)
  /-- REFERENCE_LOCK_DONE (R281). -/
  | referenceLockDone
  /-- BUREAU_BOOT_DONE (R515). -/
  | bureauBootDone (patchOk : Bool)
  /-- HBM_INIT_DONE (R515). -/
  | hbmInitDone (fullTrain : Bool) (failedPcs : List Nat)
  /-- MANTEL_LOAD_DONE (R217). -/
  | mantelLoadDone
  /-- WARM_START_STEP_DONE (R519). -/
  | warmStartStepDone
  /-- BIRTON_PARTNER_PATTERNS (R527). -/
  | birtonPartnerPatterns (b : Nat)
  /-- BIRTON_CANDIDATE_END (R528). -/
  | birtonCandidateEnd (b : Nat) (ok : Bool)
  /-- BIRTON_IDENT_FRAME (R529). -/
  | birtonIdentFrame (b : Nat) (id : Ident)
  /-- BIRTON_FRAME_RECEIVED (R524). -/
  | birtonFrameReceived (b : Nat) (words : List (BitVec 72))
  /-- BIRTON_NAK_RECEIVED (R525). -/
  | birtonNakReceived (b seq : Nat)
  /-- BIRTON_LOCK_LOSS (R527). -/
  | birtonLockLoss (b : Nat)
  /-- BIRTON_DOWN_RETRY (R527). -/
  | birtonDownRetry (b : Nat)
  /-- BIRTON_CONFLICT_TIMEOUT (R527). -/
  | birtonConflictTimeout (b : Nat)
  /-- CABLE_DELAY_ECHO (R528). -/
  | cableDelayEcho (b halfNs : Nat)
  /-- TIMING_FRAME_SEND (R537). -/
  | timingFrameSend (group : Nat)
  /-- TIMING_FRAME_RECEIVED (R537). -/
  | timingFrameReceived (b group count halfNs : Nat)
  /-- TIMING_CLASS_LOST (R538). -/
  | timingClassLost
  /-- FOLLOWER_LEFT (R544). -/
  | followerLeft (pkg : Nat)
  /-- MASTER_LOST (R546). -/
  | masterLost
  /-- DEPUTY_TAKEOVER (R547). -/
  | deputyTakeover
  /-- MASTERSHIP_HANDBACK (R548). -/
  | mastershipHandback
  /-- MIRROR_WRITE_RECEIVED (R534). -/
  | mirrorWriteReceived (b addr : Nat) (data : List Byte)
  /-- MIRROR_ACK_RECEIVED (R535). -/
  | mirrorAckReceived (pkg layer : Nat) (denied : Bool)
  /-- LINE_STREAM_FRAME (R541). -/
  | lineStreamFrame (h line first : Nat) (words : List DWord)
  /-- COMPOSITE_LINE_MISSING (R543). -/
  | compositeLineMissing (h line : Nat)
  /-- ADMISSION_COMPLETE (R160). -/
  | admissionComplete
  /-- UNKNOWN_OPCODE (R377). -/
  | unknownOpcode (port : Nat) (bytes : List Byte)
  /-- SUP_EN_DROP (R555). -/
  | supEnDrop
  /-- LAST_SUPPLY_IN_REGULATION (R515). -/
  | lastSupplyInRegulation
  /-- PCIE_LINK_UP (R345). -/
  | pcieLinkUp
  /-- VF_ENABLE (R345). -/
  | vfEnable (n : Nat)
  /-- MSI_X_TARGET_WAKE (R466). -/
  | msiXTargetWake (fn : Nat) (vec : Option Nat)
  deriving DecidableEq, Repr

end Sys2Proof
end

