-- ==== Sys2Proof/Config.lean ====
section
/-! DEFINITION. Values that the spec leaves open. Each is a constant without a body, so a claim holds
whatever they are. -/

namespace Sys2Proof.Config

/-- What a byte of undefined memory content reads as, by generation of the undefined range and
address (R185, R319, R343, R449; assumption 7). -/
opaque freeByte : Nat → Nat → Byte

/-- Whether the check bytes of a word of undefined content disagree (R319; assumption 7). -/
opaque freeErr : Nat → Nat → Bool

/-- A two-way outcome that the spec leaves open, by the state's counter of free values
(R557; assumption 7). -/
opaque freeBool : Nat → Bool

/-- A word that the spec leaves open, by the state's counter of free values (assumption 7). -/
opaque freeWord : Nat → Word

/-- Whether another package has a head part of a layer, by the state's counter of free values and 8 times the layer plus
the package: its heads are not known here (R66; assumption 83). -/
opaque headPart : Nat → Nat → Bool

/-- Whether another package has a window that admits the mirror writer at a layer's buffers, by the same
(R66; assumption 83). -/
opaque mirrorWindow : Nat → Nat → Bool

/-- Whether what another package holds of R539's conditions lets it pair with a head here, by the state's counter of free
values and the head (R539; assumption 7). -/
opaque peerReady : Nat → Nat → Bool

/-- The sensors that a thermal sensor is cross-checked with (R498; assumption 7). -/
opaque sensorNeighbours : Nat → List Nat

/-- One component fed into a DisplayPort test CRC, whose definition is the standard's: the accumulator
after it (R215; assumption 7). -/
opaque testCrc : Nat → Nat → Nat

end Sys2Proof.Config
end

