-- ==== Sys2Proof/Machine/StVideo.lean ====
section
/-! DEFINITION. State of layers and heads. A field's default is its value at reset. -/

namespace Sys2Proof.Machine

/-- Requested or applied placement of a layer (R56). -/
structure Place where
  /-- Source rectangle x origin (R56). -/
  srcX : Nat := 0
  /-- Source rectangle y origin (R56). -/
  srcY : Nat := 0
  /-- Source rectangle width (R56). DESIGN CHOICE: no reset value is given (assumption 3). -/
  srcW : Nat := 1
  /-- Source rectangle height (R56). DESIGN CHOICE: no reset value is given (assumption 3). -/
  srcH : Nat := 1
  /-- Destination origin x (R56). -/
  dstX : Int := 0
  /-- Destination origin y (R56). -/
  dstY : Int := 0
  /-- Destination width (R56). DESIGN CHOICE: no reset value is given (assumption 3). -/
  dstW : Nat := 1
  /-- Destination height (R56). DESIGN CHOICE: no reset value is given (assumption 3). -/
  dstH : Nat := 1
  /-- Stacking level 0-15 (R56). -/
  z : Nat := 0
  /-- Orientation 0-3 for 0, 90, 180, 270 degrees (R56). -/
  orient : Nat := 0
  /-- Mirror (R56). -/
  mirror : Bool := false
  deriving DecidableEq, Repr

/-- Source description of a layer (R85, R575). -/
structure Source where
  /-- Format code of R89 (R575). -/
  format : Nat := 0
  /-- Layout: false LINEAR, true TILED (R575). -/
  tiled : Bool := false
  /-- Buffer width in pixels (R575). -/
  width : Nat := 65536
  /-- Buffer height in pixels (R575). -/
  height : Nat := 65536
  /-- Stride of each plane in bytes (R575). -/
  strides : List Nat := [262144]
  /-- Base address of each plane; none before a source or flip names them (R85). -/
  bases : List Nat := []
  deriving DecidableEq, Repr

/-- Scaler settings of a layer (R98). -/
structure Scale where
  /-- Requested vertical taps 6, 4 or 2 (R388). -/
  taps : Nat := 6
  /-- Horizontal coefficient set (R388). -/
  hset : Nat := 1
  /-- Vertical coefficient set (R388). -/
  vset : Nat := 1
  /-- Chroma mode: false REPLICATE, true INTERPOLATE (R97). -/
  interp : Bool := true
  /-- Horizontal siting: false CO_SITED, true CENTRED (R97). -/
  hCentred : Bool := false
  /-- Vertical siting (R97). -/
  vCentred : Bool := true
  deriving DecidableEq, Repr

/-- Colour settings of a layer (R114). -/
structure Colour where
  /-- 0 BT.601, 1 BT.709, 2 BT.2020, 3 CUSTOM (R114). -/
  matrix : Nat := 1
  /-- Range: false LIMITED, true FULL (R114). -/
  full : Bool := false
  /-- Custom YCbCr coefficients s3.14 (R114). -/
  coeffs : List Int := [16384,0,0,0,16384,0,0,0,16384]
  /-- Custom YCbCr offsets (R114). -/
  offsets : List Nat := [0,0,0]
  /-- 0 PQ, 1 HLG, 2 SRGB, 3 BT1886, 4 LINEAR, 5 TABLE (R114). -/
  transfer : Nat := 2
  /-- EOTF table slot (R114). -/
  eotfSlot : Nat := 0
  /-- 0 BT.709, 1 BT.2020, 2 P3-D65, 3 CUSTOM (R114). -/
  primaries : Nat := 0
  /-- Custom gamut matrix s3.14 (R114). -/
  gamut : List Int := [16384,0,0,0,16384,0,0,0,16384]
  /-- 0 OFF, 1 EETF, 2 MAXRGB, 3 LUMA (R114). -/
  tone : Nat := 0
  /-- Tone table slot (R114). -/
  toneSlot : Nat := 0
  /-- Mastering peak cd/m2 (R114). -/
  lm : Nat := 1000
  /-- Knee k in u2.14 (R114). -/
  knee : Nat := 24576
  /-- 0 NONE, 1 STRAIGHT, 2 PREMULTIPLIED (R114). -/
  alphaMode : Nat := 1
  /-- Global alpha (R114). -/
  ga : Nat := 65535
  deriving DecidableEq, Repr

/-- A fill colour in the layer's format family (R133). -/
structure Fill where
  /-- Component 0 (R133). -/
  c0 : Nat := 0
  /-- Component 1 (R133). -/
  c1 : Nat := 0
  /-- Component 2 (R133). -/
  c2 : Nat := 0
  /-- Alpha (R133). -/
  a : Nat := 65535
  deriving DecidableEq, Repr

/-- What a flip, or a first copy, waits for in one holder (R67). -/
structure Holder where
  /-- Package (R66). -/
  pkg : Nat := 0
  /-- Mirror writes of the layer still to be acknowledged (R67). -/
  left : Nat := 0
  /-- The flip has been forwarded (R67). -/
  sent : Bool := false
  /-- The holder denied one of the writes (R419). -/
  denied : Bool := false
  deriving DecidableEq, Repr

/-- One queued or current flip (R147). -/
structure Flip where
  /-- Flip ID (R147). -/
  id : Nat := 0
  /-- Epoch (R147). -/
  epoch : Nat := 0
  /-- Plane base addresses (R147). -/
  bases : List Nat := []
  /-- Wait token and target count (R147). -/
  token : Option (Nat × Nat) := none
  /-- Dynamic metadata Lm and k (R131). -/
  dynMeta : Option (Nat × Nat) := none
  /-- Port that issued the flip (R150). -/
  issuer : Nat := 0
  /-- Frames missed so far (R151). -/
  missed : Nat := 0
  /-- Capture count stamped on a ring buffer (R95). -/
  capStamp : Nat := 0
  /-- Buffer of the capture ring that a ring selection shows (R254). The model's own field (assumption 4). -/
  ring : Option Nat := none
  /-- Holders that have not yet received the flip (R67). -/
  pendingHolders : List Holder := []
  /-- 0 not looked at, 1 its planes have joined the mirror set, 2 its waits are counted (R535). The model's own field (assumption 4). -/
  mirrored : Nat := 0
  /-- Place of the flip in the order in which the layer's flips were selected (R149). The model's own field (assumption 4). -/
  serial : Nat := 0
  deriving DecidableEq, Repr

/-- A selected flip whose SHOWN completion is outstanding (R150). -/
structure Showing where
  /-- The flip (R150). -/
  flip : Flip := {}
  /-- Heads that have not yet completed a frame showing it (R150). -/
  heads : List Nat := []
  /-- Frame sequence number of the lead head's first frame (R150). -/
  leadSeq : Nat := 0
  deriving DecidableEq, Repr

/-- One of the 1,024 layers, pending configuration (R56). -/
structure Layer where
  /-- Placement LAYER.PLACE requested; none when not placed (R107). -/
  requested : Option Place := none
  /-- Placement applied (R107). -/
  applied : Place := {}
  /-- Applied vertical taps after reduction (R105). -/
  taps : Nat := 6
  /-- Applied source width Ws' (R105). DESIGN CHOICE: no reset value is given (assumption 3). -/
  cutW : Nat := 1
  /-- Applied source height Hs' (R105). DESIGN CHOICE: no reset value is given (assumption 3). -/
  cutH : Nat := 1
  /-- Source description (R575). -/
  source : Source := {}
  /-- A LAYER.SOURCE has been received since reset or removal (R575). -/
  sourced : Bool := false
  /-- Scaler settings (R98). -/
  scale : Scale := {}
  /-- Colour settings (R114). -/
  colour : Colour := {}
  /-- Fill colour (R133). -/
  fill : Fill := {}
  /-- Not-ready policy: 0 KEEP, 1 FILL, 2 HIDE (R152). -/
  policy : Nat := 0
  /-- Flip queue, oldest first (R148). -/
  queue : List Flip := []
  /-- Current flip (buffer) (R149). -/
  current : Option Flip := none
  /-- Selected flips awaiting SHOWN (R150). -/
  showing : List Showing := []
  /-- A deferred flip waits (policy in force) (R152). -/
  late : Bool := false
  /-- LAYER.REWRITE posted for the buffer in force (R95). -/
  rewritten : Bool := false
  /-- INPUT.BIND: 0 NONE, 1 RING, 2 DIRECT (R254). -/
  bindMode : Nat := 0
  /-- Bound input (R254). -/
  bindInput : Nat := 0
  /-- Own no-signal fill used (R259). -/
  bindOwn : Bool := false
  /-- Own no-signal fill (R259). -/
  bindFill : Fill := {}
  /-- Port that sent INPUT.BIND (R404). -/
  bindIssuer : Nat := 0
  /-- The no-signal fill is in force (R259). -/
  nosignal : Bool := false
  /-- Direct-path offset in 0.5 ns units (R262). -/
  delta : Int := 0
  /-- Other packages that hold a copy, on a master (R66). -/
  holders : List Nat := []
  /-- Placement for which the holders were decided (R68). The model's own field (assumption 4). -/
  heldFor : Option Place := none
  /-- Holders whose first copy is incomplete (R68). -/
  copying : List Holder := []
  /-- Bases of the last 8 shown flips, latest first (R534). -/
  recent : List (List Nat) := []
  /-- Planes in the mirror set: base and bytes (R534). -/
  mirrorSet : List (Nat × Nat) := []
  /-- Captured buffers of a ring on their way to the holders, oldest first (R535). -/
  ringQ : List Flip := []
  /-- The master flips the layer, on a follower (R65). -/
  shared : Bool := false
  /-- Flips of the layer selected so far (R149). The model's own field (assumption 4). -/
  selections : Nat := 0
  /-- Dynamic metadata in force: Lm and k (R131). -/
  dyn : Option (Nat × Nat) := none
  deriving DecidableEq, Repr

/-- Colour settings of a head (R115). -/
structure HeadColour where
  /-- 0 SRGB, 1 BT1886, 2 PQ, 3 HLG (R115). -/
  oetf : Nat := 0
  /-- 0 BT.709, 1 BT.2020, 2 P3-D65 (R115). -/
  primaries : Nat := 0
  /-- Reference white cd/m2 (R115). -/
  lr : Nat := 203
  /-- Target peak cd/m2 (R115). -/
  lt : Nat := 203
  /-- Requested bit depth (R115). -/
  depth : Nat := 8
  /-- 0 OFF, 1 ORDERED, 2 DIFFUSION (R115). -/
  dither : Nat := 1
  /-- Packing: false RGB, true YCBCR444 (R115). -/
  ycc : Bool := false
  /-- Output matrix (R115). -/
  matrix : Nat := 1
  /-- Output range: false LIMITED (R115). -/
  full : Bool := false
  /-- Background colour u4.20 (R115). -/
  bg : List Nat := [0,0,0]
  /-- Calibration LUT on (R115). -/
  lutOn : Bool := false
  /-- Calibration LUT image address (R115). -/
  lutAddr : Nat := 0
  deriving DecidableEq, Repr

/-- A panel mode (R391). -/
structure Mode where
  /-- Pixel rate in Hz (R391). -/
  rate : Nat := 0
  /-- Active width (R391). -/
  wa : Nat := 0
  /-- Total pixels per line (R391). -/
  htot : Nat := 0
  /-- Horizontal sync start (R391). -/
  hss : Nat := 0
  /-- Horizontal sync width (R391). -/
  hsw : Nat := 0
  /-- Active height (R391). -/
  ha : Nat := 0
  /-- Total lines (R391). -/
  vtot : Nat := 0
  /-- Vertical sync start (R391). -/
  vss : Nat := 0
  /-- Vertical sync width (R391). -/
  vsw : Nat := 0
  /-- Horizontal polarity positive (R391). -/
  hpos : Bool := false
  /-- Vertical polarity positive (R391). -/
  vpos : Bool := false
  /-- Index in the joint mode list when taken from it (R231). -/
  listed : Option Nat := none
  deriving DecidableEq, Repr

/-- Binding of a head (R237). -/
structure Bind where
  /-- Link, or 255 for none (R390). -/
  link : Nat := 255
  /-- Form MST (R237). -/
  mst : Bool := false
  /-- MST path word (R390). -/
  path : Nat := 0
  /-- The binding is held (R238). -/
  held : Bool := false
  deriving DecidableEq, Repr

/-- What a head's frame uses of one layer (R146). -/
structure FrozenLayer where
  /-- Layer ID (R146). -/
  id : Nat := 0
  /-- The layer's configuration at the commit line (R146). -/
  cfg : Layer := {}
  /-- Buffer shown (R149). -/
  bases : List Nat := []
  /-- Flip ID (or capture stamp word) of the buffer shown (R95). -/
  flip : Nat := 0
  /-- What is shown: 0 buffer, 1 fill, 2 nothing, 3 direct feed, 4 no-signal fill (R152). -/
  shows : Nat := 0
  /-- Mastering peak in force (R131). -/
  lm : Nat := 1000
  /-- Knee in force (R131). -/
  knee : Nat := 24576
  /-- Palette in force (indexed layers) (R91). -/
  palette : Tab Nat := []
  /-- Serial of the flip shown (R149). The model's own field (assumption 4). -/
  serial : Nat := 0
  deriving DecidableEq, Repr

/-- Configuration frozen at a commit line (R146). -/
structure Frozen where
  /-- Viewport origin x (R146). -/
  ox : Nat := 0
  /-- Viewport origin y (R146). -/
  oy : Nat := 0
  /-- Orientation (R146). -/
  orient : Nat := 0
  /-- Mirror (R146). -/
  mirror : Bool := false
  /-- Head colour settings (R146). -/
  colour : HeadColour := {}
  /-- Ordinary layers bottom to top (R60). -/
  layers : List FrozenLayer := []
  /-- Loaded coefficient sets in force (R99). -/
  coefSets : Tab (List Int) := []
  /-- EOTF tables in force (R116). -/
  eotf : Tab (List Nat) := []
  /-- Tone tables in force (R116). -/
  tone : Tab (List Nat) := []
  /-- Armed in this frame (R197). -/
  armed : Bool := false
  /-- Mantel version shown (R196). -/
  version : Nat := 0
  /-- Mantel buffer set shown (R196). -/
  buf : Nat := 0
  /-- The sealed CTM changes are seen (R196). -/
  overlay : Bool := false
  /-- Frame sequence number (R199). -/
  seq : Nat := 0
  /-- Luminance cap in force (R500). -/
  cap : Nat := 0
  /-- 0 no deep pair, 1 its owner Hp, 2 its partner Hq (R539). -/
  deepRole : Nat := 0
  deriving DecidableEq, Repr

/-- One pixel handed to the Blender (R132). -/
structure LePix where
  /-- Premultiplied colour u4.20 (R132). -/
  p : List Nat := [0,0,0]
  /-- Effective alpha (R132). -/
  a : Nat := 0
  deriving DecidableEq, Repr

/-- One fetched and processed layer line of a head (R159). -/
structure LeLine where
  /-- Layer ID (R159). -/
  layer : Nat := 0
  /-- Panel line (R159). -/
  line : Nat := 0
  /-- One entry per panel pixel; none where the layer does not cover (R132). -/
  px : List (Option LePix) := []
  /-- Panel columns whose data are withheld or late (R171). -/
  missing : List Nat := []
  deriving DecidableEq, Repr

/-- One pixel of the line being sent: Blender output and what the Mantel Engines compose (R183). -/
structure LinePix where
  /-- Blender output u4.20; none where it was not supplied (R134). -/
  acc : Option (List Nat) := none
  /-- Tile class (R193). -/
  cls : Nat := 0
  /-- Verification group (R192). -/
  group : Nat := 0
  /-- Canvas tile x (R202). -/
  tx : Nat := 0
  /-- Canvas tile y (R202). -/
  ty : Nat := 0
  /-- Canvas x (R51). -/
  cx : Nat := 0
  /-- Canvas y (R51). -/
  cy : Nat := 0
  /-- The tile's CTM entry is unreadable in both copies (R182). -/
  bad : Bool := false
  /-- Backdrop colour of a class-1 tile, reduced (R198). -/
  b : List Nat := []
  /-- Reduced palette alpha (R198). -/
  alpha : Nat := 0
  /-- Reduced palette colour (R198). -/
  m : List Nat := [0,0,0]
  deriving DecidableEq, Repr

/-- Signature of one tile in progress (R202). -/
structure Tile where
  /-- Canvas tile x (R202). -/
  tx : Nat := 0
  /-- Canvas tile y (R202). -/
  ty : Nat := 0
  /-- Verification group (R203). -/
  group : Nat := 0
  /-- CRC state (R202). -/
  crc : Nat := 0
  /-- Panel scan position of the last pixel fed (R203). -/
  last : Nat := 0
  /-- Pixels fed (R202). -/
  count : Nat := 0
  /-- Tile cut by the viewport (R208). -/
  cut : Bool := false
  deriving DecidableEq, Repr

/-- An occupied place of the reference store (R205). -/
structure RefEnt where
  /-- Group (R205). -/
  group : Nat := 0
  /-- Sequence number (R205). -/
  q : Nat := 0
  /-- Version (R205). -/
  ver : Nat := 0
  /-- Place 0-7 in the group's 8 entries (R205). -/
  slot : Nat := 0
  deriving DecidableEq, Repr

/-- A verification reaction setting (R210). -/
structure React where
  /-- Consecutive frames (R210). -/
  threshold : Nat := 1
  /-- 0 NONE, 1 IRQ, 2 URGENT (R210). -/
  notify : Nat := 0
  /-- ERR_PIN (R210). -/
  errPin : Bool := false
  /-- 0 NONE, 1 SAFE_FILL, 2 BLANK (R210). -/
  action : Nat := 0
  deriving DecidableEq, Repr

/-- A migration in progress, held at the old head (R492). -/
structure Migration where
  /-- Target slot; none when orphaned (R492). -/
  target : Option Nat := none
  /-- Target synthesizer locked (R492). -/
  locked : Bool := false
  /-- Time of detection (R492). -/
  since : Nat := 0
  deriving DecidableEq, Repr

/-- One of the 128 heads (R49). -/
structure Head where
  /-- Origin x applied (R49). DESIGN CHOICE: no reset value is given (assumption 3). -/
  ox : Nat := 0
  /-- Origin y applied (R49). DESIGN CHOICE: no reset value is given (assumption 3). -/
  oy : Nat := 0
  /-- Orientation (R49). DESIGN CHOICE: no reset value is given (assumption 3). -/
  orient : Nat := 0
  /-- Mirror (R49). DESIGN CHOICE: no reset value is given (assumption 3). -/
  mirror : Bool := false
  /-- Applied mode; none when never set (R54). -/
  mode : Option Mode := none
  /-- Mode waiting for vertical blanking or lock (R295). -/
  pendingMode : Option Mode := none
  /-- Pixel rate set by the wall group, Hz as a fraction (R75). -/
  groupRate : Option (Nat × Nat) := none
  /-- Binding in force (R237). -/
  bind : Bind := {}
  /-- Binding for the next vertical blanking (R237). -/
  pendingBind : Option Bind := none
  /-- Wall group or 255 (R74). -/
  group : Nat := 255
  /-- Aligned member of its group (R76). -/
  aligned : Bool := false
  /-- Pair partner and arrangement (0 left-right, 1 top-bottom) (R78). -/
  pair : Option (Nat × Nat) := none
  /-- Deep partner: 128 x package + head (R539). -/
  deep : Option Nat := none
  /-- This head is Hp of its deep pair (R539). -/
  deepOwner : Bool := false
  /-- Colour settings, pending (R115). -/
  colour : HeadColour := {}
  /-- Applied depth (R230). -/
  depth : Nat := 8
  /-- Depth for the next vertical blanking (R230). -/
  pendingDepth : Option Nat := none
  /-- Commit distance c, as set (R144). -/
  commit : Nat := 4
  /-- Commit distance in force (R145). -/
  commitNow : Nat := 4
  /-- Underrun policy: 0 REPEAT, 1 COLOUR (R172). -/
  policy : Nat := 0
  /-- Underrun colour (R172). -/
  urColour : List Nat := [0,0,0]
  /-- Timing runs (R574). -/
  running : Bool := false
  /-- The stream is being sent on the trained link (R242). -/
  streaming : Bool := false
  /-- Frame sequence number (R199). -/
  seq : Nat := 0
  /-- Configuration of the current frame (R146). -/
  frozen : Option Frozen := none
  /-- Configuration frozen at the commit line, until its frame begins (R146). -/
  coming : Option Frozen := none
  /-- CTM cache: entries fetched in this frame; none where unreadable in both copies (R27). -/
  ctmCache : Tab (Option Nat) := []
  /-- The line being sent (R171). -/
  lineNow : List LinePix := []
  /-- Underrun policy in force on the line (R172). -/
  linePolicy : Nat := 0
  /-- Underrun colour in force on the line (R172). -/
  lineColour : List Nat := [0,0,0]
  /-- Between the first active line and the end of the last (R199). -/
  inFrame : Bool := false
  /-- Current active line (R212). -/
  line : Nat := 0
  /-- Active lines of this frame sent over a trained link (R207). -/
  sentLines : Nat := 0
  /-- Layer lines held ready for the Blender (R104). -/
  leLines : List LeLine := []
  /-- 64-bit words of each composite line received for a deep pair (R542). -/
  composite : Tab (List Nat) := []
  /-- Blender output of the head's previous line (R488). -/
  outLine : List (List Nat) := []
  /-- Packed pixels of the line last emitted (R202). -/
  packed : List (List Nat) := []
  /-- Last ordinary pixel emitted from real data this frame (R172). -/
  lastReal : Option (List Nat) := none
  /-- Diffusion errors by 4 x scan position + component (R139). -/
  dither : Tab Int := []
  /-- Tile signatures of this frame (R202). -/
  tiles : List Tile := []
  /-- Line and column of the underrun in progress (R171). -/
  urLine : Option (Nat × Nat) := none
  /-- First line affected this frame (R174). -/
  urFirst : Option Nat := none
  /-- Lines substituted this frame (R174). -/
  urLines : Nat := 0
  /-- Pixels substituted this frame (R174). -/
  urPixels : Nat := 0
  /-- Fault source of the underrun (R174). -/
  urSource : Nat := 0
  /-- CTM fault flag of this frame (R182). -/
  ctmFault : Bool := false
  /-- Content fault flag of this frame (R182). -/
  contentFault : Bool := false
  /-- Groups composed in a pair test window (R184). -/
  testGroups : List Nat := []
  /-- Test CRC (48 bits) of the last frames with their sequence number (R215). -/
  testCrcs : List (Nat × Nat) := []
  /-- Test CRC accumulators of the current frame (R215). -/
  crcAcc : List Nat := [0,0,0]
  /-- Armed (R197). -/
  armed : Bool := false
  /-- Arming for the next commit line (R197). -/
  pendingArm : Option Bool := none
  /-- Switched to the version most recently sealed (R196). -/
  switched : Bool := true
  /-- Engine-held sprite list (R182). -/
  heldSprites : Tab Nat := []
  /-- Engine-held list length (R182). -/
  heldCount : Nat := 0
  /-- Engine-held palettes (R182). -/
  heldPalette : Tab Nat := []
  /-- Engine-held backdrop and fault colours (R182). -/
  heldBackdrop : Tab Nat := []
  /-- Occupied reference places (R205). -/
  refs : List RefEnt := []
  /-- Reaction settings by result kind; defaults of R210 (R210). -/
  reacts : Tab React := []
  /-- Consecutive-frame counters (R211). -/
  counters : List Nat := [0,0,0,0,0]
  /-- Reaction has run for the present count (R211). -/
  fired : List Bool := [false,false,false,false,false]
  /-- Head action in force (R212). -/
  action : Nat := 0
  /-- Head action armed for the next line (R212). -/
  pendingAction : Option Nat := none
  /-- Released; normal picture from the next commit line (R213). -/
  releasing : Bool := false
  /-- Safe colour (R212). -/
  safe : List Nat := [2048,2048,2048]
  /-- Groups asked for by VERIFY.TILES (R204). -/
  tilesReq : List Nat := []
  /-- Echo enabled (R214). -/
  echo : Bool := false
  /-- 0 OFF, 1 MATCH, 2 MISMATCH, 3 UNAVAILABLE (R208). -/
  echoResult : Nat := 0
  /-- Frame sequence number the echo result refers to (R208). -/
  echoSeq : Nat := 0
  /-- Last TEST_CRC_COUNT seen (R215). -/
  echoCount : Nat := 0
  /-- Frames since the count changed (R215). -/
  echoIdle : Nat := 0
  /-- LUT store; entries that differ from the identity image (R136). -/
  lut : Tab Nat := []
  /-- Image read complete, waiting for the commit line (R136). -/
  staged : Option (Tab Nat) := none
  /-- Orphaned (R493). -/
  orphan : Bool := false
  /-- This index was vacated by a migration and replies FAULTED (R22). -/
  moved : Bool := false
  /-- Migration in progress (R492). -/
  migration : Option Migration := none
  /-- LE slots whose output is withheld (R488). -/
  withheld : List Nat := []
  /-- Routed source: 0-3, 16-31 or 255 (R275). -/
  audioSrc : Nat := 255
  /-- Source whose samples each channel carries (R277). -/
  audioCh : List Nat := [255,255]
  /-- Per channel: change kind (0 mute, 1 unmute, 2 mute of a route change, 3 its unmute) and deadline (R276). -/
  audioWait : List (Option (Nat × Nat)) := [none,none]
  /-- Muted channels (R276). -/
  audioMuted : List Bool := [false,false]
  /-- Channels carrying zero samples by a route state (R277). -/
  audioSilent : List Bool := [true,true]
  /-- Previous sample of each channel (R276). -/
  audioPrev : List Int := [0,0]
  /-- Samples last sent on the stream (R275). -/
  audioOut : List Int := [0,0]
  /-- Port that sent the change of each channel (R404). -/
  audioIssuer : List Nat := [0,0]
  /-- Orbit amplitude (R501). -/
  orbitA : Nat := 0
  /-- Orbit period in s (R501). DESIGN CHOICE: no reset value is given (assumption 3). -/
  orbitP : Nat := 1
  /-- Orbit offset x (R501). -/
  orbitDx : Int := 0
  /-- Orbit offset y (R501). -/
  orbitDy : Int := 0
  /-- A step waits for the commit line (R501). -/
  orbitStep : Bool := false
  /-- Orbit suspended (R218). -/
  orbitOff : Bool := false
  /-- Luminance cap (R500). -/
  cap : Nat := 0
  /-- Luminance accumulators (R499). -/
  lum : Tab Nat := []
  /-- Dwell accumulators (R499). -/
  dwell : Tab Nat := []
  /-- Luminance sum and pixel count per block of the frame (R499). -/
  frameLum : Tab (Nat × Nat) := []
  /-- Luminance sum and pixel count per block of the last whole frame (R499). -/
  meanLum : Tab (Nat × Nat) := []
  /-- Blender output of the frame by block, as one number (R499). -/
  frameSig : Tab Nat := []
  /-- The same of the previous frame (R499). -/
  prevSig : Tab Nat := []
  /-- SLACK bins (R502). -/
  slack : Tab Nat := []
  /-- Least slack in ns (R502). -/
  slackMin : Int := 0
  /-- LINK.AUTOSTART enabled (non-volatile) (R244). DESIGN CHOICE: no reset value is given (assumption 3). -/
  autoEn : Bool := false
  /-- Stored binding (non-volatile) (R244). DESIGN CHOICE: no reset value is given (assumption 3). -/
  autoBind : Bind := {}
  /-- 0 PREFERRED, 1 EXPLICIT (non-volatile) (R244). DESIGN CHOICE: no reset value is given (assumption 3). -/
  autoRule : Nat := 0
  /-- Stored explicit timing (non-volatile) (R244). DESIGN CHOICE: no reset value is given (assumption 3). -/
  autoMode : Mode := {}
  /-- The new mode needs a re-lock; the stream waits (R295). -/
  relock : Bool := false
  /-- Resync of the next vertical blanking (R306). -/
  stretch : Option Int := none
  /-- The present vertical blanking is stretched or shrunk (R306). -/
  stretching : Bool := false
  /-- Pixels by which the present vertical blanking is longer, or shorter if negative (R306). -/
  stretchPx : Int := 0
  /-- LUT image read in progress: address, master (R136). -/
  lutBusy : Option (Nat × Nat) := none
  /-- Port of the HEAD.COLOUR that named the image (R136). -/
  lutIssuer : Nat := 0
  deriving DecidableEq, Repr

end Sys2Proof.Machine
end

