-- ==== Sys2Proof/Machine/StIo.lean ====
section
/-! DEFINITION. State of links, video inputs and audio. A field's default is its value at reset. -/

namespace Sys2Proof.Machine

/-- An entry of a joint mode list (R228). -/
structure ModeEntry where
  /-- Timing (R228). -/
  mode : Mode := {}
  /-- Largest depth carried (R228). -/
  depth : Nat := 8
  /-- E-EDID or DisplayID origin word (R228). -/
  origin : Nat := 0
  /-- Tile entry for a tiled pair (R228). -/
  tile : Bool := false
  deriving DecidableEq, Repr

/-- A training candidate (R232). -/
structure Cand where
  /-- Mbit/s per lane (R232). -/
  rate : Nat := 0
  /-- Lanes (R232). -/
  lanes : Nat := 0
  deriving DecidableEq, Repr

/-- One of the 96 output links (R223). -/
structure Link where
  /-- HPD level as classified (R222). DESIGN CHOICE: no reset value is given (assumption 3). -/
  hpd : Bool := false
  /-- Enabled by LINK.CONFIG (reset state ABSENT) (R223). -/
  enabled : Bool := true
  /-- 0 DISABLED, 1 ABSENT, 2 DISCOVER, 3 TRAIN, 4 ACTIVE, 5 RECOVER, 6 FAILED (R223). -/
  state : Nat := 1
  /-- Waits for a free place (R224). -/
  waiting : Bool := false
  /-- State that failed: 2 discovery, 3 training (R223). -/
  failedIn : Nat := 0
  /-- EDP mode (R220). DESIGN CHOICE: no reset value is given (assumption 3). -/
  edp : Bool := false
  /-- Largest rate allowed, Mbit/s (R220). DESIGN CHOICE: no reset value is given (assumption 3). -/
  maxRate : Nat := 20000
  /-- Largest lane count (R220). DESIGN CHOICE: no reset value is given (assumption 3). -/
  maxLanes : Nat := 4
  /-- Down-spread used (R220). DESIGN CHOICE: no reset value is given (assumption 3). -/
  spread : Bool := true
  /-- What discovery found (R225). -/
  sink : Option SinkDesc := none
  /-- Joint mode list (R228). -/
  modes : List ModeEntry := []
  /-- The link has produced a list (R231). -/
  everListed : Bool := false
  /-- Candidates still to try, the one being tried first (R232). -/
  cands : List Cand := []
  /-- Trained configuration (R233). -/
  trained : Option Cand := none
  /-- Configuration stored in the always-on domain (R519). -/
  stored : Option Cand := none
  /-- Timeouts of the present AUX transaction (R226). -/
  auxTries : Nat := 0
  /-- Defers of the present AUX transaction (R226). -/
  auxDefers : Nat := 0
  /-- Discovery has been restarted once (R226). -/
  restarted : Bool := false
  /-- LINK.AUX in progress: port, tag, operation (R245). -/
  auxWait : Option (Nat × Nat × Nat) := none
  /-- The training runs for a LINK.TRAIN (R234). -/
  retrainCmd : Bool := false
  /-- A retrain changes rate or lanes: stream stops at frame end (R234). -/
  retrainAll : Bool := false
  /-- Training failures since start (R392). -/
  attempts : Nat := 0
  /-- HPD glitches (R222). -/
  glitches : Nat := 0
  /-- Retrainings since start (R502). -/
  retrains : Nat := 0
  /-- Sink symbol errors, two 16-bit halves (R502). -/
  symErrs : Nat := 0
  /-- An IRQ_HPD arrived during an attempt (R235). -/
  irqLate : Bool := false
  /-- The link runs in MST (R237). -/
  mst : Bool := false
  /-- Sink DPCD bytes written by the host or the device (R245). -/
  dpcd : Tab Nat := []
  /-- Discovery waits for its restart (R226). -/
  restartDue : Bool := false
  deriving DecidableEq, Repr

/-- One of the 16 video inputs (R246). -/
structure Input where
  /-- Enabled (R248). DESIGN CHOICE: no reset value is given (assumption 3). -/
  enabled : Bool := false
  /-- HPD level driven (R248). -/
  hpd : Bool := false
  /-- Trained configuration of the source (R248). -/
  trained : Option Cand := none
  /-- IRQ_HPD pulses sent (R248). -/
  irqPulses : Nat := 0
  /-- E-EDID bytes loaded; empty for the reset image (R247). -/
  edid : List Nat := []
  /-- 0 NONE, 1 ACQUIRED, 2 LOST, 3 RATE, 4 FORMAT, 5 NOSIGNAL, 6 GLITCH, 7 TRAINFAIL (R257). -/
  state : Nat := 0
  /-- 0 NONE, 1 FORMAT, 2 OVERSIZE, 3 SIZE (R248). -/
  reason : Nat := 0
  /-- The stream is acquired (R256). -/
  acquired : Bool := false
  /-- Consecutive good frames (R256). -/
  good : Nat := 0
  /-- Established line period (R256). -/
  linePs : Nat := 0
  /-- Established frame period (R256). -/
  framePs : Nat := 0
  /-- Line period of the first good frame (R256). -/
  sumLine : Nat := 0
  /-- Frame period of the first good frame (R256). -/
  sumFrame : Nat := 0
  /-- Consecutive frames off the established period (R257). -/
  rateCnt : Nat := 0
  /-- Timing of the stream (R256). -/
  msa : Mode := {}
  /-- 0 RGB, 1 YCbCr 4:4:4, 2 4:2:2, 3 4:2:0 (R256). -/
  encoding : Nat := 0
  /-- Stream depth (R256). DESIGN CHOICE: no reset value is given (assumption 3). -/
  depth : Nat := 8
  /-- Colorimetry word (R256). -/
  colorimetry : Nat := 0
  /-- Glitch count (R257). -/
  glitches : Nat := 0
  /-- Time GLITCH was last posted (R257). -/
  glitchAt : Option Nat := none
  /-- Capture on (R250). -/
  capOn : Bool := false
  /-- Capture format (R250). -/
  capFormat : Nat := 0
  /-- Layout (R250). -/
  capTiled : Bool := false
  /-- Expected width (R250). DESIGN CHOICE: no reset value is given (assumption 3). -/
  capW : Nat := 64
  /-- Expected height (R250). DESIGN CHOICE: no reset value is given (assumption 3). -/
  capH : Nat := 64
  /-- Base addresses, plane by plane, per buffer (R250). -/
  bufs : List (List Nat) := []
  /-- Strides (R250). -/
  capStrides : List Nat := []
  /-- Wait token (R250). -/
  capToken : Option Nat := none
  /-- Declared F_max (R250). DESIGN CHOICE: no reset value is given (assumption 3). -/
  fmax : Nat := 1
  /-- No-signal timeout in ms (R250). -/
  timeout : Nat := 200
  /-- Capture count (R253). -/
  capCount : Nat := 0
  /-- Dropped frames (R253). -/
  dropped : Nat := 0
  /-- Per buffer: count and time of its frame (R253). -/
  stamps : Tab (Nat × Nat) := []
  /-- Buffer being written (R253). -/
  writeBuf : Nat := 0
  /-- The frame in progress is being written (R253). -/
  writing : Bool := false
  /-- Time from the start of the previous captured frame to that of the present one (R253). -/
  sinceStart : Option Nat := none
  /-- Start of the present frame (R253). -/
  frameStart : Nat := 0
  /-- Newest complete buffer (R254). -/
  newest : Option Nat := none
  /-- (buffer, layer) in use (R255). -/
  inUse : List (Nat × Nat) := []
  /-- Time LOST or held (R259). -/
  lostAt : Option Nat := none
  /-- Lines delivered to a direct LE (R96). -/
  directLine : Tab (List Nat) := []
  deriving DecidableEq, Repr

/-- An audio port AUD0-3 (keys 0-3) or input audio (keys 16-31) (R268). -/
structure Audio where
  /-- Enable (R268). -/
  enabled : Bool := false
  /-- Frame format: false I2S (R268). -/
  leftJust : Bool := false
  /-- Slot width (R268). -/
  slot : Nat := 32
  /-- Sample width (R268). -/
  width : Nat := 24
  /-- Packing: false PACK3 (R268). -/
  pack4 : Bool := false
  /-- Ring base address (R268). DESIGN CHOICE: no reset value is given (assumption 3). -/
  base : Nat := 0
  /-- Ring size (R268). -/
  size : Nat := 65536
  /-- Zero-crossing timeout in ms (R268). -/
  zc : Nat := 5
  /-- Acquired (R271). -/
  acquired : Bool := false
  /-- Last AUDIO.STATE: 0 none, 1 ACQUIRED, 2 STOPPED, 3 RANGE (R404). -/
  state : Nat := 0
  /-- Reported rate in mHz (R271). -/
  rate : Nat := 0
  /-- Nearest standard rate in Hz (R271). -/
  nearest : Nat := 0
  /-- Off-standard flag (R271). -/
  offStd : Bool := false
  /-- Periods of the reference window (R271). -/
  refEdges : Nat := 1
  /-- Reference ticks of those periods (R271). -/
  refTicks : Nat := 0
  /-- Previous samples (R272). -/
  prev : List Int := [0,0]
  /-- Write offset (R274). -/
  offset : Nat := 0
  /-- Frames written (R274). -/
  frames : Nat := 0
  /-- Glitches (R272). -/
  glitches : Nat := 0
  /-- Slot errors (R270). -/
  slotErrs : Nat := 0
  /-- Dropped writes (R274). -/
  denied : Nat := 0
  /-- Bytes of the block not yet full (R274). -/
  block : List Byte := []
  /-- Arrival of the block's first byte (R274). -/
  blockAt : Option Nat := none
  /-- Ring offset of the block's first byte (R274). -/
  blockOff : Nat := 0
  /-- Frames formed but not wholly written (R274). -/
  framePend : Nat := 0
  deriving DecidableEq, Repr

end Sys2Proof.Machine
end

