-- ==== Sys2Proof/Machine/StSys.lean ====
section
/-! DEFINITION. State of clocks, memory, access tables and the Mantel layer. A field's default is its value at reset. -/

namespace Sys2Proof.Machine

/-- A ramp in progress (R292). -/
structure Ramp where
  /-- Start frequency (R292). -/
  f0 : Nat := 0
  /-- Target frequency (R292). -/
  f1 : Nat := 0
  /-- Slope (R292). -/
  slope : Nat := 1
  /-- Acceleration time (R292). -/
  ta : Nat := 0
  /-- Slope at the start of the profile (R293). -/
  s0 : Int := 0
  /-- Microseconds run (R292). -/
  us : Nat := 0
  deriving DecidableEq, Repr

/-- One of the 140 synthesizers (R283). -/
structure Synth where
  /-- Target output frequency (R284). -/
  target : Nat := 0
  /-- N in force (R308). -/
  n : Nat := 0
  /-- F in force (R308). -/
  frac : Nat := 0
  /-- P in force (R308). -/
  p : Nat := 0
  /-- Seed in force (0: the default seed of R285) (R285). -/
  seed : Nat := 0
  /-- Dither disabled in force (R285). -/
  ditherOff : Bool := false
  /-- Seed and dither for the next lock (R285). -/
  nextSeed : Option (Nat × Bool) := none
  /-- Lock declared (R308). -/
  lock : Bool := false
  /-- Fast check passed (R308). -/
  fastOk : Bool := false
  /-- Ramp in progress (R292). -/
  ramp : Option Ramp := none
  /-- Consumer input: 0 main, 1 holding, 2 FB0, 3 parked (R308). -/
  src : Nat := 3
  /-- Sticky lock_lost (R308). -/
  lockLost : Bool := false
  /-- Sticky ref_lost (R308). -/
  refLost : Bool := false
  /-- Sticky coasted (R308). -/
  coasted : Bool := false
  /-- Last window's DCO count (R308). -/
  count : Nat := 0
  /-- Consecutive agreeing windows (R286). -/
  agree : Nat := 0
  /-- Consecutive disagreeing windows (R286). -/
  disagree : Nat := 0
  /-- Control word frozen, open loop (R282). -/
  frozen : Bool := false
  /-- FB0 divider (R291). DESIGN CHOICE: no reset value is given (assumption 3). -/
  fb0Div : Nat := 1
  /-- FB0 delay (R291). DESIGN CHOICE: no reset value is given (assumption 3). -/
  fb0Delay : Nat := 0
  /-- FB0 enable (R291). DESIGN CHOICE: no reset value is given (assumption 3). -/
  fb0En : Bool := false
  /-- FB1 divider (R291). DESIGN CHOICE: no reset value is given (assumption 3). -/
  fb1Div : Nat := 1
  /-- FB1 delay (R291). DESIGN CHOICE: no reset value is given (assumption 3). -/
  fb1Delay : Nat := 0
  /-- FB1 enable (R291). DESIGN CHOICE: no reset value is given (assumption 3). -/
  fb1En : Bool := false
  /-- Time the lock was lost (R297). -/
  lostAt : Option Nat := none
  /-- Setting (N, F, P) being locked to (R289). -/
  loadTo : Option (Nat × Nat × Nat) := none
  deriving DecidableEq, Repr

/-- The Heel of a head (key h) or a group (key 256 + g) (R299). -/
structure Heel where
  /-- Leader kind (R299). -/
  leader : LeaderKind := .none
  /-- Leader index (R299). -/
  idx : Nat := 0
  /-- Ratio M (R299). -/
  m : Nat := 1
  /-- Ratio D (R299). -/
  d : Nat := 1
  /-- Offset in ns (R299). -/
  offset : Int := 0
  /-- Slope ppm/ms (R299). -/
  slope : Nat := 100
  /-- Ta in us (R299). -/
  ta : Nat := 1000
  /-- Return mode RESYNC (R299). -/
  resync : Bool := false
  /-- Slew rate ppm (R299). -/
  slew : Nat := 200
  /-- 0 FREE, 1 ACQUIRE_F, 2 ACQUIRE_P, 3 LOCKED, 4 COAST (R300). -/
  state : Nat := 0
  /-- Time of the last leader event (R300). -/
  lastEvent : Option Nat := none
  /-- Last leader periods (R300). -/
  periods : List Nat := []
  /-- Frame periods applied over the last leader periods, 0.5 ns (R305). -/
  applied : List Nat := []
  /-- Frame period applied (R300). -/
  tf : Nat := 0
  /-- Last phase error (R300). -/
  err : Int := 0
  /-- Consecutive aligned events within 10 ns (R300). -/
  okCount : Nat := 0
  /-- Leader events in the present cycle of D (R299). -/
  cycle : Nat := 0
  /-- Has been LOCKED (R301). -/
  locked : Bool := false
  /-- Parameters of a CLK.HEEL held over a resync's stretched blanking (R307). -/
  held : Option (List Nat) := none
  /-- Coast cause: 0 LOST, 1 RANGE, 2 REFCLK (R404). -/
  cause : Nat := 0
  deriving DecidableEq, Repr

/-- GENLOCK_IN (R304). -/
structure Genlock where
  /-- Enable (R304). DESIGN CHOICE: no reset value is given (assumption 3). -/
  enable : Bool := false
  /-- Active edge (R304). DESIGN CHOICE: no reset value is given (assumption 3). -/
  falling : Bool := false
  /-- Expected period in ns (R304). DESIGN CHOICE: no reset value is given (assumption 3). -/
  tg : Nat := 16666667
  /-- 0 none, 1 ACQUIRED, 2 GLITCH, 3 LOST, 4 RATE (R304). -/
  state : Nat := 0
  /-- The leader is valid (R304). -/
  valid : Bool := false
  /-- Last valid edge (R304). -/
  last : Option Nat := none
  /-- Established period (R304). -/
  period : Nat := 0
  /-- Consecutive good periods (R304). -/
  good : Nat := 0
  /-- Sum of the good periods (R304). -/
  sum : Nat := 0
  /-- Consecutive periods off by more than 0.5 % (R304). -/
  rateCnt : Nat := 0
  /-- Glitches counted (R304). -/
  glitches : Nat := 0
  deriving DecidableEq, Repr

/-- Clocks (R279). -/
structure Clk where
  /-- Synthesizers (R283). -/
  synths : Tab Synth := []
  /-- Region target clocks (default 1.0 GHz) (R294). DESIGN CHOICE (assumption 9). -/
  regionHz : Tab Nat := []
  /-- Heels (R299). -/
  heels : Tab Heel := []
  /-- GENLOCK_IN (R304). -/
  genlock : Genlock := {}
  /-- REFCLK lost (R282). -/
  refLost : Bool := false
  /-- Consecutive bad counts (R282). -/
  refBad : Nat := 0
  /-- Consecutive good counts (R282). -/
  refGood : Nat := 0
  /-- REFCLK running (R281). -/
  refOn : Bool := true
  /-- External AO crystal fitted (R279). DESIGN CHOICE (assumption 6). -/
  aoCrystal : Bool := false
  /-- Late wakes of each region (R287). -/
  lateWake : Tab Nat := []
  deriving DecidableEq, Repr

/-- A request in a region controller (R320). -/
structure MemReq where
  /-- Identity (R320). -/
  id : Nat := 0
  /-- Package address (R315). -/
  addr : Nat := 0
  /-- Write (R314). -/
  write : Bool := false
  /-- Bytes written (R314). -/
  data : List Byte := []
  /-- Bytes (R314). -/
  len : Nat := 64
  /-- Requester class (R323). -/
  cls : Nat := 8
  /-- Master ID (R405). -/
  master : Nat := 0
  /-- Urgency (R323). -/
  urg : Nat := 0
  /-- Deadline (R324). -/
  deadline : Option Nat := none
  /-- Arrival (R325). -/
  at_ : Nat := 0
  /-- Layer fetched for (R95). -/
  layer : Option Nat := none
  /-- Head served (R182). -/
  head : Option Nat := none
  /-- Pseudo-channel of the package (R317). -/
  pc : Nat := 0
  /-- Bank index k (R317). -/
  bank : Nat := 0
  /-- Physical row (R317). -/
  row : Nat := 0
  /-- Column block (R317). -/
  col : Nat := 0
  deriving DecidableEq, Repr

/-- A bank of a pseudo-channel (R309). -/
structure Bank where
  /-- Open row (R322). -/
  row : Option Nat := none
  /-- Last column access (R322). -/
  idleFrom : Nat := 0
  /-- Last row accessed (R322). -/
  lastRow : Option Nat := none
  /-- Predictor (R322). -/
  pred : Nat := 1
  /-- Refresh debt (R326). -/
  debt : Nat := 0
  /-- Bank queue (R320). -/
  queue : List MemReq := []
  /-- Activate table: row and count (R327). -/
  acts : List (Nat × Nat) := []
  deriving DecidableEq, Repr

/-- A pseudo-channel (R309). -/
structure Pc where
  /-- Banks (R309). -/
  banks : Tab Bank := []
  /-- Rotating pointer (R321). DESIGN CHOICE: no reset value is given (assumption 3). -/
  ptr : Nat := 0
  /-- Requests whose commands are issued, data outstanding (R336). -/
  issued : List MemReq := []
  /-- Refreshes issued (R326). -/
  refs : Nat := 0
  /-- Neighbour refreshes counted (R328). -/
  neighbour : Nat := 0
  /-- Consecutive skipped retraining steps (R331). -/
  skips : Nat := 0
  /-- Skipped steps counted (R331). -/
  skipTotal : Nat := 0
  /-- A retraining step is due since (R331). -/
  stepDue : Option Nat := none
  /-- A retraining step is in progress (R331). -/
  stepping : Bool := false
  /-- Pause end of the step (R331). -/
  stepEnd : Nat := 0
  /-- In self-refresh (R335). -/
  selfRef : Bool := false
  /-- Last request (R335). -/
  idleFrom : Nat := 0
  /-- Rate-change entries aborted (R335). -/
  aborts : Nat := 0
  /-- Recent parity failures (R337). -/
  parity : List Nat := []
  /-- Rows with uncorrectable errors and their time (R342). -/
  badRows : List (Nat × Nat) := []
  /-- Shadowed rows (bank, row) (R340). -/
  shadows : List (Nat × Nat) := []
  /-- Retired (R342). -/
  retired : Bool := false
  deriving DecidableEq, Repr

/-- A memory-window descriptor (R409). -/
structure Window where
  /-- Valid (R409). -/
  valid : Bool := false
  /-- Base band (R409). -/
  band : Nat := 0
  /-- Band count W (R409). -/
  bands : Nat := 0
  /-- Address order (R409). -/
  order : Nat := 0
  /-- Protected (R409). -/
  prot : Bool := false
  /-- Read mask (R409). -/
  rmask : DWord := 0
  /-- Write mask (R409). -/
  wmask : DWord := 0
  deriving DecidableEq, Repr

/-- A suspect row candidate (R339). -/
structure Suspect where
  /-- Pseudo-channel of the region (R339). -/
  pc : Nat := 0
  /-- Bank (R339). -/
  bank : Nat := 0
  /-- Row (R339). -/
  row : Nat := 0
  /-- Occasions of uncorrectable or poisoned reads (R339). -/
  unc : List Nat := []
  /-- Occasions of correctable errors (R339). -/
  cor : List Nat := []
  deriving DecidableEq, Repr

/-- A region's controller (R28). -/
structure Region where
  /-- Window descriptors; none for the reset windows of R316 (R316). -/
  windows : Option (Tab Window) := none
  /-- Input queue (R320). -/
  input : List MemReq := []
  /-- Error log, oldest first (R338). -/
  log : List (List Nat) := []
  /-- Overwrite count (R338). -/
  overwrites : Nat := 0
  /-- Next entry sequence number (R338). -/
  logSeq : Nat := 0
  /-- Second of the last logged correctable error by row (R338). -/
  rowSeen : Tab Nat := []
  /-- Suspect candidates, oldest first (R339). -/
  suspects : List Suspect := []
  /-- Re-homing in progress (R343). -/
  rehoming : Bool := false
  /-- Ranges lost by windows at the last retirement (R344). -/
  lostRanges : List (Nat × Nat) := []
  /-- Pseudo-channel retired last (R344). -/
  retiredPc : Nat := 0
  /-- Corrected errors (R502). -/
  corrected : Nat := 0
  /-- Uncorrectable errors (R502). -/
  uncorrected : Nat := 0
  /-- Bytes moved in the present second (R502). -/
  bytes : Nat := 0
  /-- Hound position (R496). -/
  scrubPos : Nat := 0
  /-- Full-pass lag in s (R502). -/
  scrubLag : Nat := 0
  /-- Full passes completed (R502). -/
  scrubs : Nat := 0
  /-- Start of the present pass (R502). -/
  scrubStart : Nat := 0
  /-- Power-gated (R514). -/
  gated : Bool := false
  deriving DecidableEq, Repr

/-- Memory rate of a die (R332). -/
structure Rate where
  /-- Rate in force (R332). -/
  mbit : Nat := 8000
  /-- Rate being changed to (R332). -/
  target : Option Nat := none
  /-- 0 idle core locking, 1 inside self-refresh, 2 the core has locked and the entry waits (R333). -/
  phase : Nat := 0
  /-- Port and tag of the MEM.RATE (R376). -/
  issuer : Option (Nat × Nat) := none
  /-- Active DCO core (R296). DESIGN CHOICE: no reset value is given (assumption 3). -/
  core : Nat := 0
  /-- Held requests (R335). -/
  held : List MemReq := []
  deriving DecidableEq, Repr

/-- The package address space (R315). -/
structure Memory where
  /-- Bytes that differ from what an unlisted address reads (R315). -/
  cells : List Host.Cell := []
  /-- Ranges of undefined content in rising order: first, last, generation (R319). -/
  undef : List (Nat × Nat × Nat) := []
  /-- Error pattern of each word, data bits then check bits (R313). -/
  err : Tab (BitVec 72) := []
  deriving DecidableEq, Repr

/-- Memory system (R309). -/
structure Mem where
  /-- Contents (R315). -/
  memory : Memory := {}
  /-- Region controllers (R28). -/
  regions : Tab Region := []
  /-- Pseudo-channels (R309). -/
  pcs : Tab Pc := []
  /-- Rate of each die (R332). -/
  rates : Tab Rate := []
  /-- Threshold in force (R328). -/
  rowprot : Nat := 2048
  /-- Threshold for the next refresh window (R328). -/
  rowprotNext : Nat := 2048
  /-- Identity of the next request (R320). -/
  nextId : Nat := 0
  /-- Training cache: band to time written and CRC-32C (non-volatile) (R330). -/
  cache : Tab (Nat × Nat) := []
  /-- Cache pointer held by the always-on domain (R330). DESIGN CHOICE: no reset value is given (assumption 3). -/
  cachePtr : Nat := 0
  /-- Temperature band of the hottest stack (R330). DESIGN CHOICE: no reset value is given (assumption 3). -/
  band : Nat := 0
  deriving DecidableEq, Repr

/-- An object's access table (R413). -/
structure ObjTab where
  /-- Read mask (R413). -/
  rmask : DWord := 0
  /-- Write mask (R413). -/
  wmask : DWord := 0
  deriving DecidableEq, Repr

/-- Access tables; a key not listed holds the reset masks of R416 (R413). -/
structure Acc where
  /-- Register blocks (R416). -/
  blocks : Tab ObjTab := []
  /-- Layers (R416). -/
  layers : Tab ObjTab := []
  /-- Heads (R416). -/
  heads : Tab ObjTab := []
  /-- DMA channels (R416). -/
  chans : Tab ObjTab := []
  /-- Time ACC.DENIED was last posted per target (R419). -/
  posted : Tab Nat := []
  deriving DecidableEq, Repr

/-- A pending CTM change (R194). -/
structure CtmOp where
  /-- First entry index (WRITE) or tx0,ty0 packed (FILL) (R194). -/
  first : Nat := 0
  /-- Tx1,ty1 packed (FILL) (R194). -/
  last : Nat := 0
  /-- FILL (R194). -/
  fill : Bool := false
  /-- Entries (one for FILL) (R194). -/
  entries : List Nat := []
  deriving DecidableEq, Repr

/-- A cluster's Mantel Engine pair (R184). -/
structure Pair where
  /-- 0 LOCKSTEP, 1 TESTING, 2 DEGRADED on 0, 3 DEGRADED on 1, 4 FAULTED (R208). -/
  state : Nat := 0
  /-- Copy under test (R184). -/
  tested : Nat := 1
  /-- Copy 1 failed its test (R184). -/
  firstFail : Bool := false
  /-- Transients since start (R504). -/
  transients : Nat := 0
  /-- Fenced copies (R184). -/
  fenced : List Nat := []
  deriving DecidableEq, Repr

/-- The Mantel layer (R175). -/
structure Mantel where
  /-- Base of area A (R178). -/
  areaA : Nat := 0
  /-- Base of area B (R178). -/
  areaB : Nat := 0x800000000
  /-- MANTEL.AREA in progress: bases, port, tag (R179). -/
  newAreas : Option (Nat × Nat × Nat × Nat) := none
  /-- Buffer set of the version most recently committed (R180). -/
  buf : Nat := 0
  /-- Version in force (most recently committed) (R195). -/
  version : Nat := 0
  /-- Version being committed (R195). -/
  sealed : Option Nat := none
  /-- CTM changes of the sealed version (R196). -/
  sealedCtm : List CtmOp := []
  /-- CTM changes of the pending version (R194). -/
  pendingCtm : List CtmOp := []
  /-- Entries written in the pending version (R194). -/
  ctmWrites : Nat := 0
  /-- Rectangles filled in the pending version (R194). -/
  ctmFills : Nat := 0
  /-- Pending-write flag (R395). -/
  dirty : Bool := false
  /-- Sprite-list length by 2 x head + buffer set (R189). -/
  lens : Tab Nat := []
  /-- Staging image (R395). -/
  staging : Option (Tab Nat) := none
  /-- Bytes staged (R395). -/
  storeHigh : Nat := 0
  /-- Seal in progress: port and tag (R216). -/
  sealing : Option (Nat × Nat) := none
  /-- Sealed image (non-volatile) (R216). -/
  store : Option (Tab Nat) := none
  /-- Seals made (non-volatile) (R379). -/
  seals : Nat := 0
  /-- Mantel Engine pairs (R183). -/
  pairs : Tab Pair := []
  deriving DecidableEq, Repr

/-- A wall group (R74). -/
structure Group where
  /-- Frame period (R75). -/
  period : Option (Nat × Nat) := none
  /-- Event count of the group timebase (R537). -/
  event : Nat := 0
  deriving DecidableEq, Repr

end Sys2Proof.Machine
end

