-- ==== Sys2Proof/Machine/StCtl.lean ====
section
/-! DEFINITION. State of ports, registers, faults, DMA, repair, cascade and power. A field's default is its value at reset. -/

namespace Sys2Proof.Machine

/-- Power states (R507). -/
inductive PState where
  | off | standby | retain | ready | active | service
  deriving DecidableEq, Repr

/-- Steps of a start (R515, R519); done outside a start. -/
inductive StartStep where
  | supplies | aoBoot | reference | bureau | hbm | mantel | resume | warmHbm | warmMantel | done
  deriving DecidableEq, Repr

/-- What a master has yet to send to another package: a mirror write of a layer, a copy of bytes of a layer's plane as
mirror writes, or a command of its own (R67, R68, R534, R535, R545). -/
inductive Out where
  | write (pkg layer addr : Nat) (data : List Byte)
  | copy (pkg layer addr len : Nat)
  | cmd (pkg op tag cls scope : Nat) (params : List Nat)
  deriving DecidableEq, Repr

/-- A queued outgoing packet (R347). -/
structure OutPkt where
  /-- 0 reply, 1 completion event, 2 discardable event, 3 VERIFY.RECORD, 4 URGENT frame, 5 IRQ.NOTIFY, 6 a reply that leaves its tag as it is (R358). -/
  kind : Nat := 0
  /-- Opcode or event code (R347). -/
  opcode : Nat := 0
  /-- Tag (R347). -/
  tag : Nat := 0
  /-- Port class (R347). -/
  cls : Nat := 5
  /-- Scope (R347). -/
  scope : Nat := 0
  /-- Parameter words (R347). -/
  params : List Nat := []
  /-- Outgoing sequence number once being sent (R352). -/
  seq : Option Nat := none
  /-- Layer and flip ID the packet frees (R362). -/
  flip : Option (Nat × Nat) := none
  deriving DecidableEq, Repr

/-- An accepted command in progress or held (R353). -/
structure Cmd where
  /-- Opcode (R347). -/
  op : Nat := 0
  /-- Tag (R347). -/
  tag : Nat := 0
  /-- Class (R345). -/
  cls : Nat := 0
  /-- Scope (R348). -/
  scope : Nat := 0
  /-- Parameter words (R347). -/
  params : List Nat := []
  /-- Master ID (R407). -/
  master : Nat := 0
  deriving DecidableEq, Repr

/-- A command port: 0-15 A-port functions, 16 S-port, 17 M-port, 18 C-port (R345). -/
structure Port where
  /-- Inbound counter (R352). -/
  rxSeq : Nat := 0
  /-- Outbound counter (R352). -/
  txSeq : Nat := 0
  /-- Busy tags (R354). -/
  tags : List Nat := []
  /-- Commands in progress (R353). -/
  running : List Cmd := []
  /-- Commands waiting for a subject (R353). -/
  held : List Cmd := []
  /-- Outgoing queue (R358). -/
  out : List OutPkt := []
  /-- Newest record of each head that found no room, by parts (R209). -/
  record : Tab (List OutPkt) := []
  /-- Events discarded (R358). -/
  lostN : Nat := 0
  /-- Domains of the discarded events (R358). -/
  lostMask : Nat := 0
  /-- Subscription mask; none for the reset subscription (R358). -/
  subs : Option Nat := none
  /-- Framing errors counted (R351). -/
  framing : Nat := 0
  /-- Receive buffer (R363). -/
  rx : List (List Byte) := []
  /-- Overflow since the last STATUS read (R364). -/
  overflow : Bool := false
  /-- Framing error since the last STATUS read (R364). -/
  framed : Bool := false
  deriving DecidableEq, Repr

/-- A latched high half (R443). -/
structure LatchSt where
  /-- Register latched (R443). -/
  src : LatchSrc := .devTime
  /-- Value (R443). -/
  value : Nat := 0
  deriving DecidableEq, Repr

/-- The doorbell block of an A-port function (R425). -/
structure Door where
  /-- SQ_BASE (R425). -/
  sqBase : DWord := 0
  /-- SQ_SIZE.log2 (R425). -/
  sqSize : Nat := 12
  /-- Submission tail (R425). -/
  sqTail : Nat := 0
  /-- SQ_HEAD (R425). -/
  sqHead : Nat := 0
  /-- CQ_BASE (R425). -/
  cqBase : DWord := 0
  /-- CQ_SIZE.log2 (R425). -/
  cqSize : Nat := 12
  /-- Completion head (R425). -/
  cqHead : Nat := 0
  /-- Completion tail (R426). -/
  cqTail : Nat := 0
  /-- CQ_SHADOW (R425). -/
  shadow : DWord := 0
  /-- RING_CTRL enable, sq_hbm, cq_hbm, shadow_hbm (R425). -/
  ctrl : Nat := 0
  /-- FN_STAT.framing (R425). -/
  framing : Nat := 0
  /-- FN_STAT.access (R425). -/
  access : Nat := 0
  /-- IRQ_INSVC (R425). -/
  insvc : BitVec 128 := 0
  /-- BAR2_BASE as written (R425). -/
  bar2 : DWord := 0
  /-- BAR2 size in force, log2 (R420). DESIGN CHOICE (assumption 10). -/
  bar2Log : Nat := 37
  /-- Bus Master Enable (R362). DESIGN CHOICE (assumption 10). -/
  bme : Bool := true
  /-- Function in D3hot (R465). DESIGN CHOICE (assumption 10). -/
  d3hot : Bool := false
  /-- MSI-X vectors masked by the host (R465). DESIGN CHOICE (assumption 10). -/
  vecMask : BitVec 128 := 0
  deriving DecidableEq, Repr

/-- Access-error record of a die (R423). -/
structure AccErr where
  /-- ACC_ERR.count (R423). -/
  count : Nat := 0
  /-- ACC_ERR_ADDR (R423). -/
  addr : Nat := 0
  /-- ACC_ERR_INFO.master (R423). -/
  master : Nat := 0
  /-- ACC_ERR_INFO.kind (R423). -/
  kind : Nat := 0
  deriving DecidableEq, Repr

/-- The indirect pair of a die (R437). -/
structure Ia where
  /-- IA_ADDR.addr (R437). -/
  addr : Nat := 0
  /-- IA_ADDR.stride (R437). -/
  stride : Nat := 0
  /-- IA_DATA (R437). -/
  data : Nat := 0
  /-- IA_STATUS.busy (R437). -/
  busy : Bool := false
  /-- IA_STATUS.timeout (R437). -/
  timeout : Bool := false
  /-- IA_STATUS.owner_err (R437). -/
  ownerErr : Bool := false
  /-- IA_STATUS.gated (R437). -/
  gated : Bool := false
  /-- IA_STATUS.ro_err (R437). -/
  roErr : Bool := false
  /-- IA_STATUS.owner (R437). -/
  owner : Nat := 0
  deriving DecidableEq, Repr

/-- An open complement pair (R434). -/
structure PairSt where
  /-- Master (R434). -/
  master : Nat := 0
  /-- Die (R434). -/
  die : Nat := 0
  /-- Register offset (R434). -/
  off : Nat := 0
  /-- Value written (R434). -/
  value : Word := 0
  /-- Time of the opening write (R434). -/
  at_ : Nat := 0
  deriving DecidableEq, Repr

/-- Register interface (R420). -/
structure Regs where
  /-- Doorbell blocks (R425). -/
  doors : Tab Door := []
  /-- Access errors of each die (R423). -/
  accErr : Tab AccErr := []
  /-- Indirect pairs (R437). -/
  ia : Tab Ia := []
  /-- Dies whose CFG_LOCK.locked is 1 (R436). -/
  locked : List Nat := []
  /-- Open complement pairs (R434). -/
  pairs : List PairSt := []
  /-- Latched high halves per path (R443). -/
  latches : Tab (List LatchSt) := []
  /-- PCIe link up (R345). DESIGN CHOICE (assumption 10). -/
  pcieUp : Bool := true
  /-- VFs enabled (R362). DESIGN CHOICE (assumption 10). -/
  numVfs : Nat := 0
  deriving DecidableEq, Repr

/-- A region collector (keys 0-7) or die record (8 + 16 die + block) (R469). -/
structure FaultRec where
  /-- Sticky word (R431). -/
  sticky : DWord := 0
  /-- Live word (R431). -/
  live : DWord := 0
  /-- Also-field (R431). -/
  also : DWord := 0
  /-- First-fault bit (R431). -/
  firstSrc : Nat := 0
  /-- First-fault record valid (R431). -/
  firstValid : Bool := false
  /-- First-fault time in us (R431). -/
  firstTime : Nat := 0
  /-- First-fault syndrome (R431). -/
  firstSyn : Nat := 0
  /-- Latest syndrome of each bit (R475). -/
  syns : Tab Nat := []
  /-- Open reaction: source and bit, waiting for its block reset (R475). -/
  open_ : Option (Nat × Nat) := none
  deriving DecidableEq, Repr

/-- Interrupts (R464). -/
structure Irq where
  /-- Pending (R429). -/
  pend : BitVec 512 := 0
  /-- Masked (R429). -/
  mask : BitVec 512 := BitVec.allOnes 512
  /-- Target words (R429). -/
  target : Tab Nat := []
  /-- Raise counts (R464). -/
  counts : Tab Nat := []
  /-- Hold-off in us (R429). -/
  holdoff : Tab Nat := []
  /-- End time of each running hold-off timer, plus 1 (R468). -/
  running : Tab Nat := []
  /-- Busy Bureau cores, 4 x die + core (R465). -/
  busyCore : List Nat := []
  /-- URGENT raises waiting for PF0 vector 127 (R474). -/
  urgentWait : Nat := 0
  /-- Non-maskable interrupts raised at each die's active pair (R474). -/
  nmi : Tab Nat := []
  /-- MSI-X writes made, oldest first (R465). -/
  msix : List (Nat × Nat) := []
  deriving DecidableEq, Repr

/-- Faults and reactions (R461). -/
structure Faults where
  /-- Collectors and records (R469). -/
  recs : Tab FaultRec := []
  /-- Reaction words written: (word, 1); default word of R461 otherwise (R432). -/
  reacts : Tab (Nat × Nat) := []
  /-- BARK_WIDTH in us (R432). -/
  bark : Nat := 20
  /-- ERR_N driven low (R432). -/
  errLow : Bool := false
  /-- End of the Bark pulse (R478). -/
  barkEnd : Nat := 0
  /-- ERR_STAT.pulse_done (R432). -/
  pulseDone : Bool := false
  /-- ERR_STAT.premature (R432). -/
  premature : Bool := false
  deriving DecidableEq, Repr

/-- A DMA descriptor (R448). -/
structure Desc where
  /-- Bytes 0-3 (R448). -/
  ctl : Word := 0
  /-- Length (R448). -/
  len : Nat := 0
  /-- Source or pattern (R448). -/
  src : Nat := 0
  /-- Destination (R448). -/
  dst : Nat := 0
  /-- Link word (R448). -/
  link : Nat := 0
  deriving DecidableEq, Repr

/-- A Retriever channel (R440). -/
structure Chan where
  /-- Owner code of DMA.OWN; PF0 after reset (R444). -/
  owner : Nat := 1
  /-- DMA_CHAIN (R440). -/
  chain : Nat := 0
  /-- DMA_CTRL.pause (R440). -/
  pause : Bool := false
  /-- 0 IDLE, 1 RUNNING, 2 PAUSING, 3 PAUSED, 4 ENDED, 5 HALTED, 6 DENIED (R440). -/
  state : Nat := 0
  /-- Retries used (R440). -/
  retries : Nat := 0
  /-- Retries of DMA.SETUP (R400). DESIGN CHOICE: no reset value is given (assumption 3). -/
  maxRetries : Nat := 0
  /-- Check-value unit of DMA.SETUP (R400). DESIGN CHOICE: no reset value is given (assumption 3). -/
  unit : Nat := 0
  /-- DMA_CUR (R440). -/
  cur : Nat := 0
  /-- The current descriptor lies in host memory (R448). -/
  curHost : Bool := false
  /-- DMA_SRC (R440). -/
  src : Nat := 0
  /-- DMA_DST (R440). -/
  dst : Nat := 0
  /-- DMA_REMAIN (R440). -/
  remain : Nat := 0
  /-- DMA_CMP_OFF (R440). -/
  cmpOff : Nat := 0
  /-- DMA_CMP_CNT (R440). -/
  cmpCnt : Nat := 0
  /-- DMA_IRQ.done (R440). -/
  irqDone : Bool := false
  /-- DMA_IRQ.halted (R440). -/
  irqHalted : Bool := false
  /-- Descriptor in progress (R448). -/
  desc : Option Desc := none
  /-- Append flag (R454). -/
  append : Bool := false
  /-- Link word re-read outstanding (R454). -/
  reread : Bool := false
  /-- Descriptor fetch outstanding (R448). -/
  fetching : Bool := false
  /-- Waiting 1 us for a reissue (R452). -/
  retryWait : Bool := false
  /-- Stopped by its owner, until complete (R446). -/
  stopping : Bool := false
  /-- Master ID of the descriptor in progress (R406). -/
  master : Nat := 0
  /-- The COPY ranges overlap (R449). -/
  overlap : Bool := false
  deriving DecidableEq, Repr

/-- A check-value unit (R441). -/
structure Cv where
  /-- CV_CTRL.poly (R441). -/
  poly : Nat := 1
  /-- CV_CTRL.fold (R441). -/
  fold : Nat := 0
  /-- CV_SEED (R441). -/
  seed : Word := 0xFFFFFFFF
  /-- CV_FOLD (R441). -/
  foldV : Word := 0
  /-- CV_CTRL.dma (R441). -/
  dma : Bool := false
  /-- Poly sampled at the last start (R457). -/
  curPoly : Nat := 1
  /-- Register (R457). -/
  crc : Nat := 0xFFFFFFFF
  /-- Bytes pending (R458). -/
  pend : List Byte := []
  deriving DecidableEq, Repr

/-- Telemetry (R502). -/
structure Telem where
  /-- Current reading of each thermal sensor, 1/16 degree (R502). -/
  sensors : Tab Int := []
  /-- Highest reading since start (R502). -/
  sensorMax : Tab Int := []
  /-- Failed sensors (R498). -/
  failed : List Nat := []
  /-- Rail readings in mV: last, lowest, highest (R502). -/
  rails : Tab (List Nat) := []
  /-- Limits: low, high, source; rails at 64 + region (R401). -/
  limits : Tab (Int × Int × Nat) := []
  /-- Sensors declared crossed (R401). -/
  crossed : List Nat := []
  /-- Push ring base (R401). DESIGN CHOICE: no reset value is given (assumption 3). -/
  ringBase : Nat := 0
  /-- Push ring size (R401). DESIGN CHOICE: no reset value is given (assumption 3). -/
  ringSize : Nat := 4096
  /-- Push period in ms (R401). -/
  period : Nat := 0
  /-- Push set mask (R401). -/
  sets : Nat := 0
  /-- Write offset (R503). -/
  ringOff : Nat := 64
  /-- Records written (R503). -/
  ringN : Nat := 0
  /-- Master ID of the port that set the ring (R410). -/
  pushMaster : Nat := 0
  deriving DecidableEq, Repr

/-- An LE slot (key 9 c + k) (R504). -/
structure LeSlot where
  /-- Role as changed: 0 ACTIVE, 1 KENNEL, 2 TESTING, 3 RETIRED, 4 FUSED (R504). -/
  role : Option Nat := none
  /-- Transients in the last 24 h (R488). -/
  transients : List Nat := []
  /-- Last logic test passed (R504). -/
  testOk : Bool := false
  /-- Reported a fault, not yet handled (R488). -/
  faulty : Bool := false
  deriving DecidableEq, Repr

/-- Repair state of a cluster (R483). -/
structure ClusterRep where
  /-- Kennel slot; none until the first rotation names it (R504). -/
  kennel : Option Nat := none
  /-- Hand-over in progress: outgoing and Kennel slot (R484). -/
  hand : Option (Nat × Nat) := none
  /-- Takeover in progress: faulty and Kennel slot (R488). -/
  takeover : Option (Nat × Nat) := none
  /-- A rotation is held (R487). -/
  heldRot : Bool := false
  /-- Cluster retired (R490). -/
  retired : Bool := false
  /-- Power-gated (R27). -/
  gated : Bool := true
  /-- Most Trestle segments held since start (R504). -/
  high : Nat := 0
  /-- Recent uncorrectable Trestle or CTM cache errors (R490). -/
  trestleErrs : List Nat := []
  /-- Time of the last rotation instant (R483). -/
  lastRot : Nat := 0
  /-- Span assignment in force: head, layer, first pixel, slot (R164). -/
  assign : List (Nat × Nat × Nat × Nat) := []
  /-- Redistribution plan passes (R489). -/
  redistrib : Bool := false
  /-- Migration plan: head and target (R491). -/
  plan : List (Nat × Option Nat) := []
  deriving DecidableEq, Repr

/-- Bureau of a die (R34). -/
structure BureauSt where
  /-- Active pair (R494). DESIGN CHOICE: no reset value is given (assumption 3). -/
  active : Nat := 0
  /-- Pair in self-test (R494). -/
  failedPair : Option Nat := none
  /-- Retired pairs (R494). -/
  retired : List Nat := []
  deriving DecidableEq, Repr

/-- Self-repair (R480). -/
structure Repair where
  /-- LE slots (R21). -/
  slots : Tab LeSlot := []
  /-- Clusters (R483). -/
  clusters : Tab ClusterRep := []
  /-- Bureau pairs (R34). -/
  bureaus : Tab BureauSt := []
  /-- Repair ledger (non-volatile), entries of R482 (R481). -/
  ledger : List (List Nat) := []
  /-- Next entry sequence number (R482). -/
  ledgerSeq : Nat := 0
  /-- Entries not yet written to both copies (R481). -/
  unwritten : List (List Nat) := []
  /-- REPAIR.CLEAR pending for the next start (R402). -/
  cleared : Bool := false
  /-- Operating hours counted by the always-on domain (R482). -/
  hours : Nat := 0
  /-- D1 out of service (R37). -/
  d1Retired : Bool := false
  deriving DecidableEq, Repr

/-- A Birton link (R527). -/
structure BLink where
  /-- State code (R527). -/
  state : Nat := 0
  /-- Partner signal present (R527). -/
  signal : Bool := false
  /-- Candidate index being tried (R528). -/
  cand : Nat := 0
  /-- Lanes in use (R549). -/
  lanes : Nat := 0
  /-- Gbit/s per lane (R549). -/
  rate : Nat := 0
  /-- Partner identity (R529). -/
  partner : Option Ident := none
  /-- Next frame sequence number sent (R524). -/
  txSeq : Nat := 0
  /-- Frame sequence number expected (R524). -/
  rxSeq : Nat := 0
  /-- Frames kept for replay (R525). -/
  unacked : List (Nat × List DWord) := []
  /-- Frames sent, oldest first (R533). -/
  out : List (List DWord) := []
  /-- Consecutive failures of the present frame (R525). -/
  fails : Nat := 0
  /-- Measured cable delay (R528). -/
  delay : Nat := 0
  /-- Words of the packets being received, by 8 × class + source package (R533). -/
  rxCmd : Tab (List DWord) := []
  /-- When the link last went down (R369). -/
  downAt : Option Nat := none
  /-- Failures in a row of the frame expected (R525). -/
  rxFails : Nat := 0
  /-- Frame named by the last NAK (R525). -/
  nakFrom : Option Nat := none
  deriving DecidableEq, Repr

/-- A command forwarded to another package (R367). -/
structure Forward where
  /-- Package (R367). -/
  pkg : Nat := 0
  /-- Tag on the C-port (R367). -/
  ctag : Nat := 0
  /-- Origin port (R367). -/
  port : Nat := 0
  /-- Origin tag (R367). -/
  tag : Nat := 0
  /-- Opcode (R347). -/
  op : Nat := 0
  /-- Class in which it arrived (R347). -/
  cls : Nat := 0
  /-- Scope as it arrived (R347). -/
  scope : Nat := 0
  /-- Part of a command for every package (R349). -/
  all : Bool := false
  /-- Its parameters (R367). -/
  params : List Nat := []
  deriving DecidableEq, Repr

/-- A command for every package (R349). -/
structure Gather where
  /-- Origin port (R349). -/
  port : Nat := 0
  /-- Origin tag (R349). -/
  tag : Nat := 0
  /-- Opcode (R347). -/
  op : Nat := 0
  /-- Class in which it arrived (R347). -/
  cls : Nat := 0
  /-- Scope as it arrived (R347). -/
  scope : Nat := 0
  /-- Replies outstanding (R349). -/
  left : Nat := 0
  /-- Worst status (R349). -/
  worst : Nat := 0
  /-- Package that gave it (R349). -/
  pkg : Nat := 0
  deriving DecidableEq, Repr

/-- Cascade (R527). -/
structure Casc where
  /-- Birton links (R522). -/
  links : Tab BLink := []
  /-- Role once known: 0 STANDALONE, 1 MASTER, 2 FOLLOWER, 3 ACTING_MASTER, 4 WAITING (R549). -/
  role : Option Nat := none
  /-- Master or acting master (R549). -/
  master : Option Nat := none
  /-- Hops to it (R549). -/
  hops : Nat := 7
  /-- Upstream link (R532). -/
  upstream : Option Nat := none
  /-- Packages in the system: ID, link, hops (R529). -/
  members : List (Nat × Nat × Nat) := []
  /-- Pairs of followers joined by a link, as they have told the master (R532). -/
  edges : List (Nat × Nat) := []
  /-- Packages declared LEFT (R544). -/
  left : List Nat := []
  /-- 0 NONE, 1 GUEST, 2 HOST, 3 SAFETY (R368). -/
  ceiling : Nat := 2
  /-- The first C-port command after reset has been executed (R368). -/
  cRun : Bool := false
  /-- Deputy named by the own S-port (R547). DESIGN CHOICE: no reset value is given (assumption 3). -/
  deputy : Nat := 255
  /-- System configuration generation (R545). -/
  gen : Nat := 0
  /-- Forwarded commands whose reply is outstanding (R367). -/
  forwards : List Forward := []
  /-- Commands for every package in progress (R349). -/
  gather : List Gather := []
  /-- Outbound counter of the session with each follower (R369). -/
  fwdSeq : Tab Nat := []
  /-- Next tag on the C-port (R367). -/
  cTag : Nat := 0
  /-- Timing class lost (R538). -/
  timingLost : Bool := false
  /-- Last timing frame (R538). -/
  lastTiming : Nat := 0
  /-- Event count of the system timebase (R537). -/
  sysEvent : Nat := 0
  /-- Phase of the system timebase against the received one (R536). -/
  sysPhase : Int := 0
  /-- Mirror writes outstanding: package, layer (R535). -/
  mirrorPend : List (Nat × Nat) := []
  /-- What the master has yet to send, oldest first (R535). -/
  outQ : List Out := []
  /-- The system-wide configuration: commands marked m in force, oldest first (R545). -/
  sysLog : List Cmd := []
  /-- Mastership is being handed back (R548). -/
  handback : Bool := false
  /-- Time of MASTER_LOST (R546). -/
  lostMaster : Option Nat := none
  /-- Package that was the master before it was lost (R546). -/
  oldMaster : Option Nat := none
  deriving DecidableEq, Repr

/-- Start record (R521). -/
structure Start where
  /-- START_Tk (R521). -/
  ts : Tab Nat := []
  /-- START_KIND.kind (R521). -/
  kind : Nat := 0
  /-- START_KIND.full_train (R521). -/
  fullTrain : Bool := false
  /-- START_KIND.mantel_ok (R521). -/
  mantelOk : Bool := false
  /-- START_KIND.ended_ready (R521). -/
  endedReady : Bool := false
  /-- Origin of the start (R521). -/
  origin : Nat := 0
  deriving DecidableEq, Repr

/-- Power (R507). -/
structure Pwr where
  /-- Power state (DEV_STATE.pwr resets to 2) (R423). -/
  state : PState := .ready
  /-- State SERVICE was entered from, or the state before sleep (R510). -/
  from_ : PState := .ready
  /-- Transition decided, not complete (R510). -/
  target : Option PState := none
  /-- Cause of the transition (R404). -/
  cause : Nat := 0
  /-- Step of a start in progress (R515). -/
  step : StartStep := .done
  /-- PWR.WAKE mask (R512). -/
  wakeMask : Nat := 63
  /-- Wake sources recorded (R513). -/
  wakeBits : Nat := 0
  /-- Last wake source bit (R382). -/
  lastWake : Nat := 0
  /-- Wake sources firing in the present cycle (R383). -/
  wakeNow : Nat := 0
  /-- A wake arrived during the entry (R513). -/
  pendingWake : Bool := false
  /-- Start record (R521). -/
  start : Start := {}
  /-- SUP_EN (R555). -/
  supEn : Bool := true
  /-- VDD_AO and VDD_IO in their windows (R555). -/
  aoIoGood : Bool := true
  /-- Switched rails in their windows (R556). -/
  switchedGood : Bool := true
  /-- Power-on reset asserted (R556). -/
  por : Bool := false
  /-- Thermal trip holds the device in reset (R569). -/
  trip : Bool := false
  /-- Every output stopped (R477). -/
  lanesIdle : Bool := false
  /-- CHIP_RESET cause word (R477). -/
  causeWord : Nat := 0
  /-- Cause syndrome (R477). -/
  causeSyn : Nat := 0
  /-- Cause time in us (R477). -/
  causeTime : Nat := 0
  /-- AO scratch (R439). DESIGN CHOICE: no reset value is given (assumption 3). -/
  scratch : Tab Nat := []
  /-- Unreleased ERR_N assertion held by the always-on domain (R479). -/
  errHeld : Bool := false
  /-- The Mantel copy check of the start failed (R217). -/
  warmFailed : Bool := false
  /-- M-port enabled (R510). -/
  service : Bool := false
  /-- Bits that EXTEST drives on the pins (R563). -/
  boundary : List Bool := []
  deriving DecidableEq, Repr

/-- Identity and straps of the part (R13). -/
structure Cfg where
  /-- Compositor dies (R13). DESIGN CHOICE (assumption 6). -/
  dies : Nat := 2
  /-- N variant (R13). DESIGN CHOICE (assumption 6). -/
  nVariant : Bool := false
  /-- Stepping of D0 (R379). DESIGN CHOICE (assumption 6). -/
  step0 : Nat := 0
  /-- Stepping of D1 (R379). DESIGN CHOICE (assumption 6). -/
  step1 : Nat := 0
  /-- Bureau version (R379). DESIGN CHOICE (assumption 6). -/
  fw : Nat := 0x010000
  /-- Serial number (R379). DESIGN CHOICE (assumption 6). -/
  serial : DWord := 0
  /-- LE positions fused off at manufacture (R16). DESIGN CHOICE (assumption 6). -/
  fused : List Nat := []
  /-- CASC_MASTER pin level (R558). DESIGN CHOICE (assumption 6). -/
  strapMaster : Bool := false
  /-- PKG_ID pins (R558). DESIGN CHOICE (assumption 6). -/
  strapId : Nat := 0
  /-- TEST_MODE pin (R558). DESIGN CHOICE (assumption 6). -/
  strapTest : Bool := false
  /-- CASC_MASTER sampled (R558). DESIGN CHOICE (assumption 6). -/
  cascMaster : Bool := false
  /-- Package ID sampled (R558). DESIGN CHOICE (assumption 6). -/
  pkgId : Nat := 0
  /-- TEST_MODE sampled (R558). DESIGN CHOICE (assumption 6). -/
  testMode : Bool := false
  deriving DecidableEq, Repr

/-- A change waiting for admission (R160). -/
structure AdmJob where
  /-- Port of the command (R376). -/
  port : Nat := 0
  /-- The command (R160). -/
  cmd : Cmd := {}
  deriving DecidableEq, Repr

end Sys2Proof.Machine
end

