-- ==== Sys2Proof/Machine/State.lean ====
section
/-! DEFINITION. The state of the block, its stops and its state after reset. -/

namespace Sys2Proof.Machine

/-- The whole block (R507). -/
structure State where
  /-- Identity and straps (R13). -/
  cfg : Cfg := {}
  /-- Time since the model's origin (R280). DESIGN CHOICE (assumption 4). -/
  now : Nat := 0
  /-- Measurement reference (40 ns ticks) in ns (R280). -/
  refNs : Nat := 0
  /-- Command ports (R345). -/
  ports : Tab Port := []
  /-- Register interface (R420). -/
  regs : Regs := {}
  /-- Access tables (R413). -/
  acc : Acc := {}
  /-- Memory system (R309). -/
  mem : Mem := {}
  /-- Clocks (R279). -/
  clk : Clk := {}
  /-- Window origin x (R46). -/
  wx : Nat := 0
  /-- Window origin y (R46). -/
  wy : Nat := 0
  /-- The window has been set since start (R387). -/
  windowSet : Bool := false
  /-- The first frame of the package has been committed (R46). -/
  framed : Bool := false
  /-- Layers (R65). -/
  layers : Tab Layer := []
  /-- Palette stores (R91). -/
  palettes : Tab (Tab Nat) := []
  /-- Loaded coefficient sets 3-15 (R99). -/
  coefSets : Tab (List Int) := []
  /-- Loaded EOTF table slots (R123). -/
  eotf : Tab (List Nat) := []
  /-- Loaded tone table slots (R127). -/
  tone : Tab (List Nat) := []
  /-- Staging copy of LAYER.COEFSET (R389). -/
  coefStage : Option (Nat × List Int) := none
  /-- Staging copy of LAYER.EOTFTABLE (R389). -/
  eotfStage : Option (Nat × List Nat) := none
  /-- Staging copy of LAYER.TONETABLE (R389). -/
  toneStage : Option (Nat × List Nat) := none
  /-- Heads (R49). -/
  heads : Tab Head := []
  /-- Wall groups (R74). -/
  groups : Tab Group := []
  /-- Output links (R223). -/
  links : Tab Link := []
  /-- Video inputs (R246). -/
  inputs : Tab Input := []
  /-- Audio ports and input audio (R268). -/
  audio : Tab Audio := []
  /-- Wait tokens (R156). -/
  tokens : Tab Nat := []
  /-- Mantel layer (R175). -/
  mantel : Mantel := {}
  /-- Faults (R461). -/
  faults : Faults := {}
  /-- Interrupts (R464). -/
  irq : Irq := {}
  /-- Retriever channels (R440). -/
  chans : Tab Chan := []
  /-- Check-value units (R441). -/
  cvs : Tab Cv := []
  /-- Telemetry (R502). -/
  telem : Telem := {}
  /-- Self-repair (R480). -/
  repair : Repair := {}
  /-- Cascade (R527). -/
  casc : Casc := {}
  /-- Power (R507). -/
  pwr : Pwr := {}
  /-- Changes waiting for admission (R160). The model's own field (assumption 4). -/
  admQ : List AdmJob := []
  /-- What the device has written to host memory (R359). The model's own field (assumption 4). -/
  hostMem : Tab Nat := []
  /-- Value last returned to each register path and BAR2 function (R442). The model's own field (assumption 4). -/
  lastRead : Tab Nat := []
  /-- Bytes last shifted out of the S-port or M-port (R365). The model's own field (assumption 4). -/
  shifted : List Byte := []
  /-- Index of the next free value. The model's own field (assumption 4). -/
  freeCtr : Nat := 0
  /-- Commands waiting, first in first out (R353). The model's own field (assumption 4). -/
  pending : List Instr := []
  deriving DecidableEq, Repr

/-- The block has no stop: every command has an effect (assumption 11). -/
inductive Fault where
  deriving DecidableEq, Repr

/-- Commands the model refuses. -/
inductive Refusal where
  /-- A row of the table without a meaning yet; raised only by the dispatch. Safe. -/
  | notModelled (mnemonic : String)
  deriving DecidableEq, Repr

/-- The block right after reset (R9, R416, R509): every register at its reset value, the power state
READY (R423), no command waiting. -/
def State.reset : State := {}

end Sys2Proof.Machine
end

