-- ==== Sys2Proof/Machine/Ops.lean ====
section
/-! DEFINITION. Shared operations of the block: tables, fields of words, time, which units are
present, access tables, and the packets a port sends. -/

namespace Sys2Proof.Machine

/-! ## Sparse tables -/

/-- What a table holds at an index; `d` where the index is not listed. -/
def tget {α : Type} (d : α) : Tab α → Nat → α
  | [], _ => d
  | (k, v) :: t, i => if k = i then v else tget d t i

/-- A table with one index set, keeping the indices in rising order. -/
def tset {α : Type} : Tab α → Nat → α → Tab α
  | [], i, v => [(i, v)]
  | (k, w) :: t, i, v =>
    if k = i then (i, v) :: t
    else if i < k then (i, v) :: (k, w) :: t
    else (k, w) :: tset t i v

/-- What a table lists at an index, if anything. -/
def tfind {α : Type} : Tab α → Nat → Option α
  | [], _ => none
  | (k, v) :: t, i => if k = i then some v else tfind t i

/-- A table without one index. -/
def tdel {α : Type} (t : Tab α) (i : Nat) : Tab α := t.filter fun e => e.1 ≠ i

/-- A table with the entry of one index changed. -/
def tmod {α : Type} (d : α) (t : Tab α) (i : Nat) (f : α → α) : Tab α := tset t i (f (tget d t i))

/-- Set several indices in order. -/
def tsetMany {α : Type} (t : Tab α) (l : List (Nat × α)) : Tab α :=
  l.foldl (fun a e => tset a e.1 e.2) t

/-! ## Fields of words -/

/-- Bits [hi:lo] of a number (R4). -/
def bits (v hi lo : Nat) : Nat := v / 2 ^ lo % 2 ^ (hi - lo + 1)
/-- Bit [i] of a number. -/
def bit (v i : Nat) : Bool := v.testBit i
/-- A flag as a number. -/
def b2n (b : Bool) : Nat := if b then 1 else 0
/-- Low word of a 64-bit value (R5). -/
def lo32 (v : Nat) : Nat := v % 2 ^ 32
/-- High word of a 64-bit value. -/
def hi32 (v : Nat) : Nat := v / 2 ^ 32 % 2 ^ 32
/-- Two words, low first, as one value. -/
def cat64 (lo hi : Nat) : Nat := lo + hi * 2 ^ 32
/-- Both words of a 64-bit value, low first (R372). -/
def words64 (v : Nat) : List Nat := [lo32 v, hi32 v]
/-- A two's complement word as a number (R372). -/
def ofS (n : Nat) (v : Int) : Nat := (v % (2 ^ n : Int)).toNat
/-- A number read as an `n`-bit two's complement value. -/
def toS (n v : Nat) : Int := if v % 2 ^ n < 2 ^ (n - 1) then (v % 2 ^ n : Nat) else (v % 2 ^ n : Nat) - (2 ^ n : Int)
/-- The bytes of an `n`-byte value, low byte first (R5). -/
def leBytes (n v : Nat) : List Byte := (List.range n).map fun i => BitVec.ofNat 8 (v / 256 ^ i)
/-- The value of bytes, low byte first. -/
def ofLe : List Byte → Nat
  | [] => 0
  | b :: t => b.toNat + 256 * ofLe t
/-- The words of a byte list, four bytes each, low byte first. -/
def ofLeWords : List Byte → List Nat
  | a :: b :: c :: d :: t => ofLe [a, b, c, d] :: ofLeWords t
  | [] => []
  | l => [ofLe l]
/-- A value limited to a range. -/
def clampN (lo hi v : Nat) : Nat := max lo (min hi v)
/-- A signed value limited to a range. -/
def clampI (lo hi v : Int) : Int := max lo (min hi v)
/-- Quotient rounded up. -/
def ceilDiv (a b : Nat) : Nat := (a + b - 1) / b
/-- Add one, saturating at 2^n - 1. -/
def satInc (n v : Nat) : Nat := min (v + 1) (2 ^ n - 1)
/-- The mask with the bits of a list set. -/
def maskOf (l : List Nat) : Nat := l.foldl (fun m i => if m.testBit i then m else m + 2 ^ i) 0
/-- The set bits of an `n`-bit mask, lowest first. -/
def bitsOf (n m : Nat) : List Nat := (List.range n).filter fun i => m.testBit i
/-- The nearest of several values; the first listed on ties. -/
def nearest (d : Nat) (l : List Nat) (v : Nat) : Nat :=
  l.foldl (fun b c => if (if c ≤ v then v - c else c - v) < (if b ≤ v then v - b else b - v) then c else b) d
/-- Replace the entry of a list at an index. -/
def lset {α : Type} (l : List α) (i : Nat) (v : α) : List α := l.set i v
/-- Add an element to a list that holds no repeats. -/
def addTo (l : List Nat) (v : Nat) : List Nat := if l.contains v then l else l ++ [v]
/-- Remove an element from a list. -/
def dropOf (l : List Nat) (v : Nat) : List Nat := l.filter (· ≠ v)

/-! ## Check values (R201, R350, R456) -/

/-- Eight shifts of a reflected check register with reversed polynomial `r`. -/
def crcShift (r : Nat) : Nat → Nat → Nat
  | 0, c => c
  | n + 1, c => crcShift r n (if c % 2 = 1 then (c / 2) ^^^ r else c / 2)
/-- Feed one byte into CRC-32C (R201, R202). -/
def feed (c b : Nat) : Nat := crcShift 0x82F63B78 8 (c ^^^ (b % 256))
/-- Feed a 16-bit value, low byte first (R202). -/
def feed16 (c v : Nat) : Nat := feed (feed c (v % 256)) (v / 256 % 256)
/-- CRC-32C of bytes with the parameters of R201. -/
def crc32c (l : List Byte) : Nat := (l.foldl (fun c b => feed c b.toNat) 0xFFFFFFFF) ^^^ 0xFFFFFFFF
/-- The packet trailer of R350: the sequence number folded in first. -/
def trailer (seq : Nat) (body : List Byte) : Nat :=
  (body.foldl (fun c b => feed c b.toNat) (feed16 0xFFFFFFFF seq)) ^^^ 0xFFFFFFFF

/-! ## Units and their state -/

/-- The layer with index `i`. -/
def State.layer (s : State) (i : Nat) : Layer := tget {} s.layers i

/-- The state with layer `i` replaced. -/
def State.setLayer (s : State) (i : Nat) (v : Layer) : State :=
  { s with layers := tset s.layers i v }

/-- The state with layer `i` changed by `f`. -/
def State.modLayer (s : State) (i : Nat) (f : Layer → Layer) : State :=
  s.setLayer i (f (s.layer i))

/-- The head with index `i`. -/
def State.head (s : State) (i : Nat) : Head := tget {} s.heads i

/-- The state with head `i` replaced. -/
def State.setHead (s : State) (i : Nat) (v : Head) : State :=
  { s with heads := tset s.heads i v }

/-- The state with head `i` changed by `f`. -/
def State.modHead (s : State) (i : Nat) (f : Head → Head) : State :=
  s.setHead i (f (s.head i))

/-- The output link with index `i`. -/
def State.link (s : State) (i : Nat) : Link := tget {} s.links i

/-- The state with output link `i` replaced. -/
def State.setLink (s : State) (i : Nat) (v : Link) : State :=
  { s with links := tset s.links i v }

/-- The state with output link `i` changed by `f`. -/
def State.modLink (s : State) (i : Nat) (f : Link → Link) : State :=
  s.setLink i (f (s.link i))

/-- The video input with index `i`. -/
def State.input (s : State) (i : Nat) : Input := tget {} s.inputs i

/-- The state with video input `i` replaced. -/
def State.setInput (s : State) (i : Nat) (v : Input) : State :=
  { s with inputs := tset s.inputs i v }

/-- The state with video input `i` changed by `f`. -/
def State.modInput (s : State) (i : Nat) (f : Input → Input) : State :=
  s.setInput i (f (s.input i))

/-- The audio port (0-3) or input audio (16 + input) with index `i`. -/
def State.aud (s : State) (i : Nat) : Audio := tget {} s.audio i

/-- The state with audio port (0-3) or input audio (16 + input) `i` replaced. -/
def State.setAud (s : State) (i : Nat) (v : Audio) : State :=
  { s with audio := tset s.audio i v }

/-- The state with audio port (0-3) or input audio (16 + input) `i` changed by `f`. -/
def State.modAud (s : State) (i : Nat) (f : Audio → Audio) : State :=
  s.setAud i (f (s.aud i))

/-- The command port with index `i`. -/
def State.port (s : State) (i : Nat) : Port := tget {} s.ports i

/-- The state with command port `i` replaced. -/
def State.setPort (s : State) (i : Nat) (v : Port) : State :=
  { s with ports := tset s.ports i v }

/-- The state with command port `i` changed by `f`. -/
def State.modPort (s : State) (i : Nat) (f : Port → Port) : State :=
  s.setPort i (f (s.port i))

/-- The Retriever channel with index `i`. -/
def State.chan (s : State) (i : Nat) : Chan := tget {} s.chans i

/-- The state with Retriever channel `i` replaced. -/
def State.setChan (s : State) (i : Nat) (v : Chan) : State :=
  { s with chans := tset s.chans i v }

/-- The state with Retriever channel `i` changed by `f`. -/
def State.modChan (s : State) (i : Nat) (f : Chan → Chan) : State :=
  s.setChan i (f (s.chan i))

/-- The check-value unit with index `i`. -/
def State.cv (s : State) (i : Nat) : Cv := tget {} s.cvs i

/-- The state with check-value unit `i` replaced. -/
def State.setCv (s : State) (i : Nat) (v : Cv) : State :=
  { s with cvs := tset s.cvs i v }

/-- The state with check-value unit `i` changed by `f`. -/
def State.modCv (s : State) (i : Nat) (f : Cv → Cv) : State :=
  s.setCv i (f (s.cv i))

/-- The wall group with index `i`. -/
def State.grp (s : State) (i : Nat) : Group := tget {} s.groups i

/-- The state with wall group `i` replaced. -/
def State.setGrp (s : State) (i : Nat) (v : Group) : State :=
  { s with groups := tset s.groups i v }

/-- The state with wall group `i` changed by `f`. -/
def State.modGrp (s : State) (i : Nat) (f : Group → Group) : State :=
  s.setGrp i (f (s.grp i))

/-- The synthesizer with index `i`. -/
def State.synth (s : State) (i : Nat) : Synth := tget {} s.clk.synths i

/-- The state with synthesizer `i` replaced. -/
def State.setSynth (s : State) (i : Nat) (v : Synth) : State :=
  { s with clk := { s.clk with synths := tset s.clk.synths i v } }

/-- The state with synthesizer `i` changed by `f`. -/
def State.modSynth (s : State) (i : Nat) (f : Synth → Synth) : State :=
  s.setSynth i (f (s.synth i))

/-- The Heel of a head, or of group g at 256 + g with index `i`. -/
def State.heel (s : State) (i : Nat) : Heel := tget {} s.clk.heels i

/-- The state with Heel of a head, or of group g at 256 + g `i` replaced. -/
def State.setHeel (s : State) (i : Nat) (v : Heel) : State :=
  { s with clk := { s.clk with heels := tset s.clk.heels i v } }

/-- The state with Heel of a head, or of group g at 256 + g `i` changed by `f`. -/
def State.modHeel (s : State) (i : Nat) (f : Heel → Heel) : State :=
  s.setHeel i (f (s.heel i))

/-- The region controller with index `i`. -/
def State.region (s : State) (i : Nat) : Region := tget {} s.mem.regions i

/-- The state with region controller `i` replaced. -/
def State.setRegion (s : State) (i : Nat) (v : Region) : State :=
  { s with mem := { s.mem with regions := tset s.mem.regions i v } }

/-- The state with region controller `i` changed by `f`. -/
def State.modRegion (s : State) (i : Nat) (f : Region → Region) : State :=
  s.setRegion i (f (s.region i))

/-- The pseudo-channel with index `i`. -/
def State.pc (s : State) (i : Nat) : Pc := tget {} s.mem.pcs i

/-- The state with pseudo-channel `i` replaced. -/
def State.setPc (s : State) (i : Nat) (v : Pc) : State :=
  { s with mem := { s.mem with pcs := tset s.mem.pcs i v } }

/-- The state with pseudo-channel `i` changed by `f`. -/
def State.modPc (s : State) (i : Nat) (f : Pc → Pc) : State :=
  s.setPc i (f (s.pc i))

/-- The memory rate of a die with index `i`. -/
def State.memRate (s : State) (i : Nat) : Rate := tget {} s.mem.rates i

/-- The state with memory rate of a die `i` replaced. -/
def State.setMemRate (s : State) (i : Nat) (v : Rate) : State :=
  { s with mem := { s.mem with rates := tset s.mem.rates i v } }

/-- The state with memory rate of a die `i` changed by `f`. -/
def State.modMemRate (s : State) (i : Nat) (f : Rate → Rate) : State :=
  s.setMemRate i (f (s.memRate i))

/-- The Mantel Engine pair of a cluster with index `i`. -/
def State.pair (s : State) (i : Nat) : Pair := tget {} s.mantel.pairs i

/-- The state with Mantel Engine pair of a cluster `i` replaced. -/
def State.setPair (s : State) (i : Nat) (v : Pair) : State :=
  { s with mantel := { s.mantel with pairs := tset s.mantel.pairs i v } }

/-- The state with Mantel Engine pair of a cluster `i` changed by `f`. -/
def State.modPair (s : State) (i : Nat) (f : Pair → Pair) : State :=
  s.setPair i (f (s.pair i))

/-- The LE slot (9 c + k) with index `i`. -/
def State.slot (s : State) (i : Nat) : LeSlot := tget {} s.repair.slots i

/-- The state with LE slot (9 c + k) `i` replaced. -/
def State.setSlot (s : State) (i : Nat) (v : LeSlot) : State :=
  { s with repair := { s.repair with slots := tset s.repair.slots i v } }

/-- The state with LE slot (9 c + k) `i` changed by `f`. -/
def State.modSlot (s : State) (i : Nat) (f : LeSlot → LeSlot) : State :=
  s.setSlot i (f (s.slot i))

/-- The repair state of a cluster with index `i`. -/
def State.cluster (s : State) (i : Nat) : ClusterRep := tget {} s.repair.clusters i

/-- The state with repair state of a cluster `i` replaced. -/
def State.setCluster (s : State) (i : Nat) (v : ClusterRep) : State :=
  { s with repair := { s.repair with clusters := tset s.repair.clusters i v } }

/-- The state with repair state of a cluster `i` changed by `f`. -/
def State.modCluster (s : State) (i : Nat) (f : ClusterRep → ClusterRep) : State :=
  s.setCluster i (f (s.cluster i))

/-- The Bureau of a die with index `i`. -/
def State.bureau (s : State) (i : Nat) : BureauSt := tget {} s.repair.bureaus i

/-- The state with Bureau of a die `i` replaced. -/
def State.setBureau (s : State) (i : Nat) (v : BureauSt) : State :=
  { s with repair := { s.repair with bureaus := tset s.repair.bureaus i v } }

/-- The state with Bureau of a die `i` changed by `f`. -/
def State.modBureau (s : State) (i : Nat) (f : BureauSt → BureauSt) : State :=
  s.setBureau i (f (s.bureau i))

/-- The Birton link with index `i`. -/
def State.birton (s : State) (i : Nat) : BLink := tget {} s.casc.links i

/-- The state with Birton link `i` replaced. -/
def State.setBirton (s : State) (i : Nat) (v : BLink) : State :=
  { s with casc := { s.casc with links := tset s.casc.links i v } }

/-- The state with Birton link `i` changed by `f`. -/
def State.modBirton (s : State) (i : Nat) (f : BLink → BLink) : State :=
  s.setBirton i (f (s.birton i))

/-- The fault collector 0-7 or die record 8 + 16 die + block with index `i`. -/
def State.frec (s : State) (i : Nat) : FaultRec := tget {} s.faults.recs i

/-- The state with fault collector 0-7 or die record 8 + 16 die + block `i` replaced. -/
def State.setFrec (s : State) (i : Nat) (v : FaultRec) : State :=
  { s with faults := { s.faults with recs := tset s.faults.recs i v } }

/-- The state with fault collector 0-7 or die record 8 + 16 die + block `i` changed by `f`. -/
def State.modFrec (s : State) (i : Nat) (f : FaultRec → FaultRec) : State :=
  s.setFrec i (f (s.frec i))

/-- The doorbell block of a function with index `i`. -/
def State.door (s : State) (i : Nat) : Door := tget {} s.regs.doors i

/-- The state with doorbell block of a function `i` replaced. -/
def State.setDoor (s : State) (i : Nat) (v : Door) : State :=
  { s with regs := { s.regs with doors := tset s.regs.doors i v } }

/-- The state with doorbell block of a function `i` changed by `f`. -/
def State.modDoor (s : State) (i : Nat) (f : Door → Door) : State :=
  s.setDoor i (f (s.door i))

/-- The access-error record of a die with index `i`. -/
def State.accErr (s : State) (i : Nat) : AccErr := tget {} s.regs.accErr i

/-- The state with access-error record of a die `i` replaced. -/
def State.setAccErr (s : State) (i : Nat) (v : AccErr) : State :=
  { s with regs := { s.regs with accErr := tset s.regs.accErr i v } }

/-- The state with access-error record of a die `i` changed by `f`. -/
def State.modAccErr (s : State) (i : Nat) (f : AccErr → AccErr) : State :=
  s.setAccErr i (f (s.accErr i))

/-- The indirect pair of a die with index `i`. -/
def State.ia (s : State) (i : Nat) : Ia := tget {} s.regs.ia i

/-- The state with indirect pair of a die `i` replaced. -/
def State.setIa (s : State) (i : Nat) (v : Ia) : State :=
  { s with regs := { s.regs with ia := tset s.regs.ia i v } }

/-- The state with indirect pair of a die `i` changed by `f`. -/
def State.modIa (s : State) (i : Nat) (f : Ia → Ia) : State :=
  s.setIa i (f (s.ia i))
/-- A window descriptor table of a region, the reset windows where none was set (R316, R416). -/
def resetWindows (g : Nat) : Tab Window :=
  if g = 0 ∨ g = 2 then
    [(0, { valid := true, band := 0, bands := 98, order := 3, prot := true,
           rmask := 0x0180000003FC0000, wmask := 0x10000 }),
     (1, { valid := true, band := 98, bands := 24478, order := 0,
           rmask := 0x03FFFFFFFFFF0001, wmask := 0x003FFFFFFFFD0001 })]
  else
    [(0, { valid := true, band := 0, bands := 24576, order := 0,
           rmask := 0x03FFFFFFFFFF0001, wmask := 0x003FFFFFFFFD0001 })]

/-- The windows in force in a region. -/
def State.windows (s : State) (g : Nat) : Tab Window := (s.region g).windows.getD (resetWindows g)

/-! ## Time (R280) -/

/-- Let time pass, in ns. The measurement reference counts while REFCLK runs, or on the holding clock
while REFCLK is lost (R280, R282). Wake sources fire in one cycle only (R383). -/
def advance (d : Nat) (s : State) : State :=
  { s with now := s.now + d, refNs := if s.clk.refOn then s.refNs + d else s.refNs
           pwr := { s.pwr with wakeNow := if d = 0 then s.pwr.wakeNow else 0 } }

/-- Let time pass up to a moment, which a timer names; nothing where it has passed. -/
def advanceTo (t : Nat) (s : State) : State := advance (t - s.now) s

/-- Time in µs, as event time stamps carry it (R280). -/
def State.us (s : State) : Nat := s.refNs / 1000
/-- The measurement reference, 40 ns ticks (R280). -/
def State.ticks (s : State) : Nat := s.refNs / 40

/-! ## Which units are present (R7, R13, R16)

A unit's state is 0 absent, 1 present, 2 fused off, 3 retired (R380). -/

/-- Whether a die is in the variant and in service. -/
def State.dieState (s : State) (d : Nat) : Nat :=
  if d < s.cfg.dies ∧ d < 2 then (if d = 1 ∧ s.repair.d1Retired then 3 else 1) else 0
/-- State of a unit of a die that is retired when `r` holds. -/
def State.unitOn (s : State) (d : Nat) (r : Bool) : Nat :=
  if s.dieState d = 1 ∧ r then 3 else s.dieState d
/-- State of a region. -/
def State.regionState (s : State) (g : Nat) : Nat := s.dieState (g / 4)
/-- State of a cluster. -/
def State.clusterState (s : State) (c : Nat) : Nat := s.unitOn (c / 16) (s.cluster c).retired
/-- State of the LE slot at position 9 c + k. -/
def State.slotState (s : State) (i : Nat) : Nat :=
  if s.clusterState (i / 9) ≠ 1 then s.clusterState (i / 9)
  else if s.cfg.fused.contains i ∨ (s.slot i).role = some 4 then 2
  else if (s.slot i).role = some 3 then 3 else 1
/-- State of a cluster's Mantel Engine pair. -/
def State.pairState (s : State) (c : Nat) : Nat :=
  if s.clusterState c = 1 ∧ (s.pair c).state = 4 then 3 else s.clusterState c
/-- State of a head: retired when its slot was vacated by a migration (R22) or its cluster is retired
and it neither migrates nor is an orphan that keeps its timing (R492, R493; DEDUCED, assumption 12). -/
def State.headState (s : State) (h : Nat) : Nat :=
  s.unitOn (h / 64) ((s.head h).moved ||
    ((s.cluster (h / 4)).retired && !(s.head h).orphan && (s.head h).migration.isNone))
/-- State of an output link. -/
def State.linkState (s : State) (l : Nat) : Nat := s.dieState (l / 48)
/-- State of a video input (R15). -/
def State.inputState (s : State) (v : Nat) : Nat := if s.cfg.nVariant then 0 else s.dieState (v / 8)
/-- State of an audio port (R15). -/
def State.audState (s : State) (a : Nat) : Nat := if s.cfg.nVariant then 0 else s.dieState (a / 2)
/-- State of a Birton link. -/
def State.birtonState (s : State) (b : Nat) : Nat := s.dieState (b / 4)
/-- State of a pseudo-channel. -/
def State.pcState (s : State) (p : Nat) : Nat := s.unitOn (p / 64) (s.pc p).retired
/-- State of a Bureau pair, 2 die + pair. -/
def State.bureauState (s : State) (i : Nat) : Nat :=
  s.unitOn (i / 2) ((s.bureau (i / 2)).retired.contains (i % 2))
/-- State of a Retriever channel. -/
def State.chanState (s : State) (c : Nat) : Nat := s.dieState (c / 16)

/-- Pseudo-channels of a region in service, ascending (R317). -/
def State.pcsOf (s : State) (g : Nat) : List Nat :=
  (List.range 16).filter fun p => !(s.pc (16 * g + p)).retired

/-- LE slots of a cluster that are neither fused off nor retired (R483). -/
def State.usable (s : State) (c : Nat) : List Nat :=
  (List.range 9).filter fun k => s.slotState (9 * c + k) = 1

/-- The Kennel slot: the one the role names, or, before the first rotation, the highest usable slot
of a cluster with nine usable slots (R21, R486; DESIGN CHOICE, assumption 13). -/
def State.kennelSlot (s : State) (c : Nat) : Option Nat :=
  if (s.usable c).length = 9 then some ((s.cluster c).kennel.getD 8) else none

/-- The active LE slots of a cluster: usable, and neither Kennel nor in test. -/
def State.activeSlots (s : State) (c : Nat) : List Nat :=
  (s.usable c).filter fun k => some k ≠ s.kennelSlot c

/-- Scope word of the package itself, level PACKAGE (R348). -/
def State.scopePkg (s : State) : Nat := s.cfg.pkgId
/-- Scope word of a unit: level 1 die, 2 region, 3 cluster, 4 head (R348). -/
def State.scopeOf (s : State) (level idx : Nat) : Nat := s.cfg.pkgId + 16 * level + 256 * idx

/-- The role in the system: 0 STANDALONE, 1 MASTER, 2 FOLLOWER, 3 ACTING_MASTER, 4 WAITING (R549).
Before it is known, a package with CASC_MASTER high is the master of a system of one (R39), and any
other is standalone (R40). -/
def State.role (s : State) : Nat := s.casc.role.getD (if s.cfg.cascMaster then 1 else 0)

/-- Whether this package is a master or an acting master. -/
def State.isMaster (s : State) : Bool := s.role = 1 || s.role = 3

/-- The other packages of the system that are present: the members that have not left (R529, R544). -/
def State.present (s : State) : List Nat :=
  (s.casc.members.filter fun m => !s.casc.left.contains m.1).map (·.1)

/-- Command ports of a follower belong to a C-port session while it has a master (R369). -/
def State.cSession (s : State) : Bool := s.role = 2 && s.casc.master.isSome

/-! ## Access tables (R409-R419) -/

/-- Whether a mask admits a master. -/
def admits (m : DWord) (id : Nat) : Bool := m.getLsbD id

/-- Reset masks of an ordinary object, and of a safety-owned register block (R416). -/
def objReset (safety : Bool) : ObjTab :=
  { rmask := 0x03FF0001, wmask := if safety then 0x10000 else 0x03FD0001 }

/-- Register blocks that are safety-owned: 2 and 3 of each die (R421). -/
def safetyBlock (b : Nat) : Bool := b % 1024 = 2 || b % 1024 = 3

/-- The access table of an object, by the kinds of ACC.TABLE: 0 register block, 1 layer, 2 head,
3 DMA channel (R413). -/
def State.objTab (s : State) (kind i : Nat) : ObjTab :=
  match kind with
  | 0 => tget (objReset (safetyBlock i)) s.acc.blocks i
  | 1 => tget (objReset false) s.acc.layers i
  | 2 => tget (objReset false) s.acc.heads i
  | _ => tget (objReset false) s.acc.chans i

/-- Whether a master may read an object (R413). -/
def State.mayRead (s : State) (kind i m : Nat) : Bool := admits (s.objTab kind i).rmask m
/-- Whether a master may write an object; a channel of the S-port admits M16 alone (R413, R414). -/
def State.mayWrite (s : State) (kind i m : Nat) : Bool :=
  if kind = 3 ∧ (s.chan i).owner = 0 then m = 16 else admits (s.objTab kind i).wmask m

/-- The master ID of a port; a C-port command carries the ID of its Birton link (R405, R407). -/
def masterOf (port link : Nat) : Nat := if port = 18 then 46 + link else port

/-- The master ID of a channel's owner (R406). -/
def ownerMaster (ch owner : Nat) : Nat :=
  if owner = 0 then 16 else if owner ≤ 16 then owner - 1 else if ch < 16 then 18 else 22

/-! ## Outgoing packets (R347, R358) -/

/-- A port that can still receive packets: a function whose session is open, or another port (R345,
R362). -/
def State.portLive (s : State) (p : Nat) : Bool :=
  if p < 16 then s.regs.pcieUp && (p = 0 || decide (p ≤ s.regs.numVfs))
  else if p = 18 then s.cSession else p < 18

/-- Subscriptions after reset: PF0 to every domain but MANTEL, CTM and VERIFY, the S-port to every
domain (R358), and a follower's C-port to every domain, which its master routes (R367). -/
def subsReset (p : Nat) : Nat :=
  if p = 0 then 0x7F8FFE else if p = 16 ∨ p = 18 then 0x7FFFFE else 0

/-- The subscription mask in force. -/
def State.subs (s : State) (p : Nat) : Nat := (s.port p).subs.getD (subsReset p)

/-- Whether a queued packet may be discarded (R358). -/
def OutPkt.discardable (o : OutPkt) : Bool := o.kind = 2

/-- Whether a packet is a reply; the others are events (R347). -/
def OutPkt.isReply (o : OutPkt) : Bool := o.kind = 0 || o.kind = 6

/-- A list without its first element that satisfies a test. -/
def dropFirst {α : Type} (f : α → Bool) : List α → List α
  | [] => []
  | a :: t => if f a then t else a :: dropFirst f t

/-- Note that an event was discarded, with its domain (R358). -/
def Port.noteLost (q : Port) (o : OutPkt) : Port :=
  { q with lostN := satInc 32 q.lostN, lostMask := q.lostMask ||| 2 ^ (o.opcode / 256 % 32) }

/-- Queue a packet on a port. A reply or a completion event always joins; any other event that finds
256 packets queued replaces the oldest discardable event, or is lost where there is none (R358). -/
def Port.enqueue (q : Port) (o : OutPkt) : Port :=
  if o.kind = 2 ∧ 256 ≤ q.out.length then
    match q.out.find? OutPkt.discardable with
    | some old => { q.noteLost old with out := dropFirst OutPkt.discardable q.out ++ [o] }
    | none => q.noteLost o
  else { q with out := q.out ++ [o] }

/-- Whether a packet that an event posts reports an overflow: the event queue had no room. -/
def Port.full (q : Port) : Bool := 256 ≤ q.out.length

/-- Queue a packet on a port that is live; a packet for a closed session is discarded (R362). -/
def State.enqueue (s : State) (p : Nat) (o : OutPkt) : State :=
  if s.portLive p then s.modPort p (·.enqueue o) else s

/-- The bytes of a packet as sent, with its trailer (R347, R350). -/
def OutPkt.bytes (o : OutPkt) (seq : Nat) : List Byte :=
  let len := o.params.length
  let w0 := o.opcode + len * 2 ^ 16 + 2 ^ 28 + (if o.isReply then 2 ^ 30 else 2 ^ 29)
  let body := leBytes 4 w0 ++ leBytes 4 (o.tag + o.cls * 2 ^ 12 + seq * 2 ^ 16) ++ leBytes 4 o.scope ++
    leBytes 4 0 ++ o.params.flatMap (leBytes 4)
  body ++ leBytes 4 (trailer seq body)

/-- The DEV.EVENTLOST packet of a port (R358). -/
def Port.lostPkt (q : Port) (pkg : Nat) : OutPkt :=
  { kind := 1, opcode := 0x0180, scope := pkg, params := [q.lostN, q.lostMask] }

/-- The next packet a port sends: an URGENT frame first, DEV.EVENTLOST before the next event (R358,
R365). -/
def Port.next (q : Port) (pkg : Nat) : Option OutPkt :=
  match q.out.find? (·.kind = 4) with
  | some o => some o
  | none =>
    match q.out with
    | [] => if q.lostN = 0 then none else some (q.lostPkt pkg)
    | o :: _ => if !o.isReply ∧ q.lostN ≠ 0 then some (q.lostPkt pkg) else some o

/-- Take the records that found no room into the queue while there is room (R209). -/
def Port.refill (q : Port) : Port :=
  match q.record with
  | [] => q
  | (_, o) :: t => if q.out.length < 256 then { q with out := q.out ++ o, record := t } else q

/-- Queue the parts of a VERIFY.RECORD; where there is no room they replace the record held for its head
(R209). -/
def Port.enqueueRecord (q : Port) (h : Nat) (parts : List OutPkt) : Port :=
  if 256 ≤ q.out.length ∨ (tfind q.record h).isSome then { q with record := tset q.record h parts } else { q with out := q.out ++ parts }

/-- The port after its next packet has been delivered: the packet leaves the queue, and a reply frees
its tag (R354, R358). -/
def Port.delivered (q : Port) : Port :=
  match q.out.find? (·.kind = 4) with
  | some _ => ({ q with out := dropFirst (·.kind = 4) q.out } : Port).refill
  | none =>
    match q.out with
    | [] => { q with lostN := 0, lostMask := 0 }
    | o :: t =>
      if !o.isReply ∧ q.lostN ≠ 0 then { q with lostN := 0, lostMask := 0 }
      else ({ q with out := t, tags := if o.kind = 0 then dropOf q.tags o.tag else q.tags } : Port).refill

/-- The packet number a port gives its next packet, and the counter after it (R352). -/
def Port.number (q : Port) : Port := { q with txSeq := (q.txSeq + 1) % 65536 }

end Sys2Proof.Machine
end

