-- ==== Sys2Proof/Machine/Flags.lean ====
section
/-! DEFINITION. The numbering of interrupt sources, reaction words, and the status words that the
block computes from its state. -/

namespace Sys2Proof.Machine

/-! ## Status codes (R356) -/

def stOk : Nat := 0x00
def stBadCrc : Nat := 0x01
def stBadSeq : Nat := 0x02
def stTagBusy : Nat := 0x03
def stNotPermitted : Nat := 0x04
def stNotPresent : Nat := 0x05
def stNotAdmitted : Nat := 0x06
def stRange : Nat := 0x07
def stBusy : Nat := 0x08
def stNoResource : Nat := 0x09
def stFaulted : Nat := 0x0A
def stNoReply : Nat := 0x0B

/-- Place of a status in the order of R356, from best to worst. -/
def badness (st : Nat) : Nat :=
  ([stOk, stBusy, stNoResource, stNotAdmitted, stRange, stNotPermitted, stNotPresent, stFaulted,
    stNoReply].findIdx? (· = st)).getD 5

/-! ## Interrupt sources (R461) -/

/-- Local indices that exist on D0 alone. -/
def srcD0Only (i : Nat) : Bool := i = 2 || i = 10 || i = 11 || i = 90 || (96 ≤ i && i ≤ 111)

/-- A reserved source of R461, a D0-only source of D1 among them. -/
def srcReserved (n : Nat) : Bool :=
  let i := n % 256
  (91 ≤ i && i ≤ 95) || (112 ≤ i && i ≤ 127) || (176 ≤ i && i ≤ 223) || (n / 256 = 1 && srcD0Only i) ||
    512 ≤ n

/-- A verification source (R462). -/
def srcVerify (n : Nat) : Bool := 16 ≤ n % 256 && n % 256 ≤ 31

/-- A source of a die or unit that is absent (R463). -/
def State.srcAbsent (s : State) (n : Nat) : Bool :=
  let d := n / 256
  let i := n % 256
  s.dieState d = 0 ||
    (if i = 80 ∨ i = 81 then s.audState (2 * d + (i - 80)) = 0
     else if 82 ≤ i ∧ i ≤ 89 then s.inputState (8 * d + (i - 82)) = 0
     else false)

/-- Whether the pending and mask bits of a source exist (R463). -/
def State.srcLive (s : State) (n : Nat) : Bool := !srcReserved n && !s.srcAbsent n

/-- Default reaction of each region class. -/
def classDefault (c : Nat) : Nat := [1, 2, 2, 1, 0, 1, 1, 1].getD c 0

/-- The reset value of a source's reaction word (R461). -/
def reactDefault (n : Nat) : Nat :=
  let i := n % 256
  if srcReserved n ∨ srcVerify n then 0
  else if i < 16 then
    [0x12, 0x12, 0x02, 0x01, 0x1A, 0x02, 0x02, 0x02, 0x01, 0x01, 0x1A, 0x01, 0x02, 0x01, 0x01, 0x01].getD i 0
  else if i < 64 then classDefault ((i - 32) % 8)
  else 1

/-- The reaction word in force; sources that read 0 hold none (R432). -/
def State.react (s : State) (n : Nat) : Nat :=
  if s.srcLive n ∧ !srcVerify n then
    match tfind s.faults.reacts n with
    | some w => w.1
    | none => reactDefault n
  else 0

/-- Notify field of a reaction word (R398). -/
def rNotify (w : Nat) : Nat := bits w 1 0
/-- Reset field of a reaction word. -/
def rReset (w : Nat) : Nat := bits w 3 2
/-- ERR_PIN bit of a reaction word. -/
def rPin (w : Nat) : Bool := bit w 4
/-- Notify URGENT or ERR_PIN: the source's route and mask are protected (R399, R430). -/
def rProtected (w : Nat) : Bool := rNotify w = 2 || rPin w

/-- Sources whose BLOCK_RESET column names a block (R461). -/
def canBlockReset (n : Nat) : Bool :=
  let i := n % 256
  i = 3 || i = 5 || i = 15 || (32 ≤ i && i ≤ 63 && (i - 32) % 8 ≤ 1) || (64 ≤ i && i ≤ 89) ||
    (128 ≤ i && i ≤ 175)

/-- Hold-off group of a source (R461). -/
def groupOf (n : Nat) : Nat := 8 * (n / 256) + n % 256 / 32

/-! ## Fault records (R469, R472): key g for region g, 8 + 16 d + b for block b of die d -/

/-- Key of a die record. -/
def dieRec (d b : Nat) : Nat := 8 + 16 * d + b

/-- Class of a bit of the region status word (R469). -/
def bitClass (b : Nat) : Nat :=
  if b ≤ 7 then 0 else if b ≤ 11 then 7 else if b ≤ 19 then 1 else if b ≤ 23 then 2
  else if b ≤ 27 then 5 else if b ≤ 31 then 7 else if b ≤ 34 then 4 else if b ≤ 40 then 3
  else if b ≤ 43 then 6 else if b ≤ 46 then 7 else 2

/-- The source a bit of a record raises, from the unit index that the syndrome carries (R469, R472). -/
def bitSource (rec b syn : Nat) : Option Nat :=
  if rec < 8 then (if b < 48 then some (256 * (rec / 4) + 32 + 8 * (rec % 4) + bitClass b) else none)
  else
    let d := (rec - 8) / 16
    let u := syn % 256
    let at' (i : Nat) : Option Nat := some (256 * d + i)
    match (rec - 8) % 16, b with
    | 0, 1 => at' 3
    | 0, 3 => at' 4
    | 1, 0 => at' 6
    | 1, 1 => at' 6
    | 2, 1 => at' 5
    | 3, 0 => at' 2
    | 3, 2 => at' 7
    | 3, 3 => at' 7
    | 3, 4 => at' 8
    | 3, 5 => at' 8
    | 3, 6 => at' 90
    | 3, 7 => at' 90
    | 4, 0 => at' 9
    | 5, 8 => at' 14
    | 5, 9 => at' 14
    | 5, n => if n < 8 then at' 15 else none
    | 6, n => if n < 4 then at' (128 + u % 48) else none
    | 7, n => if n < 4 then at' (82 + u % 8) else none
    | 8, 2 => at' (80 + u % 2)
    | 10, 1 => at' 13
    | 11, 0 => at' 0
    | 11, 1 => at' 1
    | 11, 3 => at' (224 + u % 32)
    | 12, 0 => at' 10
    | 13, 1 => at' 11
    | 14, 0 => at' 12
    | _, _ => none

/-- The lowest bit of a record that raises a source, as FAULT.INJECT sets it: key, bit and unit index
(R476); none for a source without a collector bit. -/
def sourceBit (n : Nat) : Option (Nat × Nat × Nat) :=
  let d := n / 256
  let i := n % 256
  let at' (blk b u : Nat) : Option (Nat × Nat × Nat) := some (dieRec d blk, b, u)
  if 32 ≤ i ∧ i ≤ 63 then
    some (4 * d + (i - 32) / 8, [0, 12, 20, 35, 32, 24, 41, 8].getD ((i - 32) % 8) 0, 0)
  else if 128 ≤ i ∧ i ≤ 175 then at' 6 0 (i - 128)
  else if 82 ≤ i ∧ i ≤ 89 then at' 7 0 (i - 82)
  else if 224 ≤ i then at' 11 3 (i - 224)
  else match i with
    | 0 => at' 11 0 0
    | 1 => at' 11 1 0
    | 2 => at' 3 0 0
    | 3 => at' 0 1 0
    | 4 => at' 0 3 0
    | 5 => at' 2 1 0
    | 6 => at' 1 0 0
    | 7 => at' 3 2 0
    | 8 => at' 3 4 0
    | 9 => at' 4 0 0
    | 10 => at' 12 0 0
    | 11 => at' 13 1 0
    | 12 => at' 14 0 0
    | 13 => at' 10 1 0
    | 14 => at' 5 8 0
    | 15 => at' 5 0 0
    | 80 => at' 8 2 0
    | 81 => at' 8 2 1
    | 90 => at' 3 6 0
    | _ => none

/-- The word FC_FIRST_SRC (R431). -/
def FaultRec.firstWord (r : FaultRec) : Nat := if r.firstValid then r.firstSrc + 0x8000 else 0

/-- The first-fault record as FAULT.READ and FAULT.URGENT carry it (R398): source, time, syndrome. -/
def FaultRec.firstWords (r : FaultRec) : List Nat :=
  [r.firstWord] ++ words64 r.firstTime ++ [r.firstSyn]

/-! ## Status words -/

/-- DEV_STATE.pwr (R423). -/
def PState.code : PState → Nat
  | .off => 0
  | .standby => 0
  | .retain => 1
  | .ready => 2
  | .active => 3
  | .service => 4

/-- Position of a state in the list STANDBY, READY-RETAIN, READY, ACTIVE, SERVICE (R382). -/
def PState.ofCode : Nat → Option PState
  | 0 => some .standby
  | 1 => some .retain
  | 2 => some .ready
  | 3 => some .active
  | 4 => some .service
  | _ => none

/-- Whether the Bureau runs, so that the S-port takes commands: outside sleep, and in a start once the
Bureau has booted (R345, R508, R515). -/
def State.bureauUp (s : State) : Bool :=
  (match s.pwr.state with
   | .ready => true
   | .active => true
   | .service => true
   | _ => false) &&
  (match s.pwr.step with
   | .supplies => false
   | .aoBoot => false
   | .reference => false
   | .bureau => false
   | .resume => false
   | _ => true) && !s.pwr.por

/-- A port with 32 commands in progress, or without room for replies and completions, takes no further
packet (R353, R358). -/
def Port.room (q : Port) : Bool := q.running.length < 32 && q.out.length < 256

/-- The STATUS word of the S-port (R364). -/
def State.statusWord (s : State) : Nat :=
  let q := s.port 16
  (if q.room then 4 else 0) + 8 * min 8191 q.out.length + b2n (q.out.any (·.kind = 4)) * 2 ^ 16 +
    b2n q.overflow * 2 ^ 17 + b2n q.framed * 2 ^ 18 + b2n (s.bureauUp && !s.cfg.testMode) * 2 ^ 19

/-- SYN_STAT of a synthesizer and its Heel state (R308). -/
def synStat (y : Synth) (heel : Nat) (pixel : Bool) : Nat :=
  b2n y.lock + 2 * b2n y.fastOk + 4 * b2n y.ramp.isSome + 8 * (if pixel then heel else 0) + 64 * y.src +
    256 * b2n y.lockLost + 512 * b2n y.refLost + 1024 * b2n y.coasted

/-- IA_STATUS (R437). -/
def Ia.status (a : Ia) : Nat :=
  b2n a.busy + 2 * b2n a.timeout + 4 * b2n a.ownerErr + 8 * b2n a.gated + 16 * b2n a.roErr + 256 * a.owner

/-- Whether the last Bark pulse has elapsed (R432, R478). -/
def State.barkOver (s : State) : Bool := s.faults.pulseDone || (s.faults.errLow && decide (s.faults.barkEnd ≤ s.now))

/-- ERR_STAT (R432). -/
def State.errStat (s : State) : Nat :=
  b2n s.faults.errLow + 2 * b2n s.barkOver + 4 * b2n s.faults.premature

/-- DMA_STAT of a channel (R440). -/
def Chan.stat (c : Chan) (i : Nat) : Nat :=
  c.state + 16 * c.retries + 256 * ownerMaster i c.owner

/-- DMA_IRQ of a channel (R440). -/
def Chan.irq (c : Chan) : Nat := b2n c.irqDone + 2 * b2n c.irqHalted

/-- CV_STAT of a check-value unit (R441). -/
def Cv.stat (c : Cv) : Nat := b2n (!c.pend.isEmpty) + 16 * c.pend.length

/-- CV_RESULT: the register XOR the final value (R456). -/
def Cv.result (c : Cv) : Nat := if c.curPoly = 2 then c.crc % 65536 else c.crc ^^^ 0xFFFFFFFF

/-- RING_CTRL.busy: commands in progress or packets undelivered (R425). -/
def Port.busy (q : Port) : Bool := !q.running.isEmpty || !q.held.isEmpty || !q.out.isEmpty || !q.rx.isEmpty

end Sys2Proof.Machine
end

