-- ==== Sys2Proof/Machine/MemOps.lean ====
section
/-! DEFINITION. The package memory: bytes with their canonical form, the SECDED code of each 8-byte
word, and the map from package addresses to windows and physical places (R309-R319). -/

namespace Sys2Proof.Machine

/-! ## Contents -/

/-- The generation of the undefined range that holds an address (R319). -/
def Memory.undefAt (m : Memory) (a : Nat) : Option Nat :=
  (m.undef.find? fun r => r.1 ≤ a && a ≤ r.2.1).map (·.2.2)

/-- Offset of the backdrop and fault colours in a Mantel area (R180). -/
def colourPart : Nat := 0x3110000
/-- Bytes of one set of backdrop and fault colours: 128 heads of 17 entries of 8 bytes (R180). -/
def colourSet : Nat := 17408

/-- Content after reset: the fault colours of the Mantel areas at their reset bases are R 0xFFF, G 0, B
0xFFF (R187); every other byte is 0 (R187, R194; assumption 2). -/
def resetByte (a : Nat) : Byte :=
  let d := a % 0x800000000
  if a < 0x1000000000 ∧ colourPart ≤ d ∧ d < colourPart + 2 * colourSet ∧ 128 ≤ (d - colourPart) % 136 then
    (if (d - colourPart) % 4 = 0 then 0xFF else if (d - colourPart) % 4 = 1 then 0x0F else 0)
  else 0

/-- What an unlisted address reads as: a free byte inside a range of undefined content, and the reset
content outside (assumptions 2 and 7). -/
def Memory.blank (m : Memory) (a : Nat) : Byte :=
  match m.undefAt a with
  | some g => Config.freeByte (2 * g) a
  | none => resetByte a

/-- The byte stored at an address. -/
def Memory.byte (m : Memory) (a : Nat) : Byte := (tfind m.cells a).getD (m.blank a)

/-- Store one byte, keeping the canonical form: reset content outside every undefined range is not
listed. -/
def Memory.put (m : Memory) (a : Nat) (b : Byte) : Memory :=
  if (m.undefAt a).isNone ∧ b = resetByte a then { m with cells := tdel m.cells a }
  else { m with cells := tset m.cells a b }

/-- Store bytes at rising addresses. -/
def Memory.putBytes (m : Memory) : Nat → List Byte → Memory
  | _, [] => m
  | a, b :: t => (m.put a b).putBytes (a + 1) t

/-- The bytes stored in a range. -/
def Memory.bytes (m : Memory) (a n : Nat) : List Byte := (List.range n).map fun i => m.byte (a + i)

/-- Addresses of a list of pairs rise strictly. -/
def rising {α : Type} : List (Nat × α) → Bool
  | [] => true
  | [_] => true
  | a :: b :: t => a.1 < b.1 && rising (b :: t)

/-- Ranges of undefined content in rising order that do not meet. -/
def apart : List (Nat × Nat × Nat) → Bool
  | [] => true
  | [r] => decide (r.1 ≤ r.2.1)
  | r :: q :: t => decide (r.1 ≤ r.2.1) && decide (r.2.1 < q.1) && apart (q :: t)

/-- The canonical form of memory: addresses strictly rising, no reset content listed outside the ranges of
undefined content, those ranges apart and rising, and no empty error pattern listed. -/
def Memory.wf (m : Memory) : Bool :=
  rising m.cells && (m.cells.all fun c => (m.undefAt c.1).isSome || c.2 ≠ resetByte c.1) && apart m.undef &&
    rising m.err && m.err.all fun e => e.2 ≠ 0

/-- A list of ranges without the addresses `lo` to `hi`. -/
def cutRange (lo hi : Nat) (l : List (Nat × Nat × Nat)) : List (Nat × Nat × Nat) :=
  l.flatMap fun r => (if r.1 < lo then [(r.1, min r.2.1 (lo - 1), r.2.2)] else []) ++
    (if hi < r.2.1 then [(max r.1 (hi + 1), r.2.1, r.2.2)] else [])

/-- A list of ranges with one more, in rising order. -/
def addRange (r : Nat × Nat × Nat) (l : List (Nat × Nat × Nat)) : List (Nat × Nat × Nat) :=
  l.filter (·.1 < r.1) ++ r :: l.filter (r.1 < ·.1)

/-- Give a range its reset content. -/
def Memory.clear (m : Memory) (lo hi : Nat) : Memory :=
  if hi < lo then m
  else
    { cells := m.cells.filter fun c => c.1 < lo || hi < c.1
      undef := cutRange lo hi m.undef
      err := m.err.filter fun e => 8 * e.1 + 7 < lo || hi < 8 * e.1 }

/-- Make the content of a range undefined (R319, R343). -/
def Memory.forget (m : Memory) (lo hi gen : Nat) : Memory :=
  if hi < lo then m else { m.clear lo hi with undef := addRange (lo, hi, gen) (cutRange lo hi m.undef) }

/-- Addresses inside a range whose reset content is not 0. -/
def resetMarks (lo n : Nat) : List Nat :=
  ([0, 0x800000000].flatMap fun b => (List.range 256).flatMap fun e => [0, 1, 4, 5].map fun i =>
    b + colourPart + e * 136 + 128 + i).filter fun a => lo ≤ a && a < lo + n

/-- Copy the content of `n` bytes at `src` of another memory to `dst`, byte by byte in effect: listed bytes
are listed again, undefined bytes stay undefined under generation `gen`, and the destination has no error
patterns. -/
def Memory.copyFrom (m old : Memory) (src dst n gen : Nat) : Memory :=
  if n = 0 then m
  else
    let und := (old.undef.filter fun r => r.1 < src + n && src ≤ r.2.1).map fun r =>
      (dst + (max r.1 src - src), dst + (min r.2.1 (src + n - 1) - src))
    let m := und.foldl (fun m r => m.forget r.1 r.2 gen) (m.clear dst (dst + n - 1))
    let m := (old.cells.filter fun c => src ≤ c.1 && c.1 < src + n).foldl (fun m c => m.put (dst + (c.1 - src)) c.2) m
    (((resetMarks src n).map fun a => dst + (a - src)) ++ resetMarks dst n).foldl (fun m a =>
      if (old.undefAt (src + (a - dst))).isSome then m else m.put a (old.byte (src + (a - dst)))) m

/-! ## The SECDED code (R313) -/

/-- Number of set bits of an 8-bit value. -/
def weight8 (v : Nat) : Nat := ((List.range 8).filter fun i => v.testBit i).length

/-- The columns of the 64 data bits and the 8 check bits. -/
def eccCols : List Nat :=
  (List.range 256).filter (weight8 · = 3) ++ [0x1F, 0x2F, 0x37, 0x3B, 0x3D, 0x3E, 0x4F, 0x57] ++
    (List.range 8).map (2 ^ ·)

/-- XOR of the columns of the bits set in a word or pattern. -/
def eccSum : List Nat → Nat → Nat
  | [], _ => 0
  | c :: t, v => (if v % 2 = 1 then c else 0) ^^^ eccSum t (v / 2)

/-- The check byte of a 64-bit word. -/
def checkByte (w : Nat) : Nat := eccSum (eccCols.take 64) w

/-- The error pattern of a poisoned word: its check byte is complemented. -/
def poisonPat : BitVec 72 := 0xFF0000000000000000

/-- What the controller finds when it reads a word: 0 no error, 1 corrected in the bit given, 2
uncorrectable, 3 poisoned. -/
structure EccSeen where
  kind : Nat
  bit : Nat
  syn : Nat
  deriving DecidableEq, Repr

/-- The verdict on an error pattern: the code is linear, so the syndrome is that of the pattern. -/
def eccJudge (p : BitVec 72) : EccSeen :=
  let syn := eccSum eccCols p.toNat
  if syn = 0 then ⟨0, 0, 0⟩
  else if syn = 0xFF then ⟨3, 0, syn⟩
  else match eccCols.findIdx? (· = syn) with
    | some i => ⟨1, i, syn⟩
    | none => ⟨2, 0, syn⟩

/-- Whether a word lies in undefined content that nothing has written. -/
def Memory.rawWord (m : Memory) (w : Nat) : Option Nat :=
  if (tfind m.cells (8 * w)).isNone then m.undefAt (8 * w) else none

/-- What a read of word `w` finds. In undefined content the check bytes may disagree: then the word is
uncorrectable, with a free syndrome (R319, assumption 7). -/
def Memory.judge (m : Memory) (w : Nat) : EccSeen :=
  match m.rawWord w with
  | some g =>
    if Config.freeErr g w && (tfind m.err w).isNone then ⟨2, 0, (Config.freeByte (2 * g + 1) w).toNat⟩
    else eccJudge (tget 0 m.err w)
  | none => eccJudge (tget 0 m.err w)

/-- The 8 bytes a read of word `w` delivers: the stored data with the error pattern applied and a
correctable bit corrected. -/
def Memory.readWord (m : Memory) (w : Nat) : List Byte :=
  let p := tget 0 m.err w
  let flip := (p.toNat % 2 ^ 64) ^^^
    (if (m.judge w).kind = 1 ∧ (m.judge w).bit < 64 then 2 ^ (m.judge w).bit else 0)
  if flip = 0 then m.bytes (8 * w) 8
  else (List.range 8).map fun i => m.byte (8 * w + i) ^^^ BitVec.ofNat 8 (flip / 256 ^ i)

/-- Set the error pattern of a word; a clean word is not listed. -/
def Memory.setErr (m : Memory) (w : Nat) (p : BitVec 72) : Memory :=
  { m with err := if p = 0 then tdel m.err w else tset m.err w p }

/-- Store the bytes given for one word, absent ones merged with the corrected word (R314). The flag
tells that the merge met an uncorrectable word: the merged word is then poisoned and the write errs. -/
def Memory.writeWord (m : Memory) (w : Nat) (new : List (Option Byte)) : Memory × Bool :=
  if new.all Option.isSome then (((m.putBytes (8 * w) (new.map (·.getD 0))).setErr w 0), false)
  else
    let bad := 2 ≤ (m.judge w).kind
    let old := m.readWord w
    let merged := (List.range 8).map fun i => (new.getD i none).getD (old.getD i 0)
    ((m.putBytes (8 * w) merged).setErr w (if bad then poisonPat else 0), bad)

/-- The words that a byte range touches. -/
def wordsOf (a n : Nat) : List Nat := if n = 0 then [] else
  (List.range ((a + n - 1) / 8 - a / 8 + 1)).map (a / 8 + ·)

/-- Write bytes, word by word; the flag tells that some merged word was uncorrectable. -/
def Memory.write (m : Memory) (a : Nat) (d : List Byte) : Memory × Bool :=
  (wordsOf a d.length).foldl (fun acc w =>
    let r := acc.1.writeWord w ((List.range 8).map fun i =>
      if a ≤ 8 * w + i then d[8 * w + i - a]? else none)
    (r.1, acc.2 || r.2)) (m, false)

/-- Read bytes as delivered, each word corrected where the code can. -/
def Memory.read (m : Memory) (a n : Nat) : List Byte :=
  (((wordsOf a n).flatMap m.readWord).drop (a % 8)).take n

/-! ## Addresses, bands and windows (R315-R318) -/

/-- Bytes of a region's address space per region number. -/
def regionSpan : Nat := 0x400000000
/-- Data bytes of a region. -/
def regionData : Nat := 0x3F0000000
/-- Bytes of a band with 16 pseudo-channels (R310). -/
def bandBytes : Nat := 688128
/-- Bytes of a band with `s` pseudo-channels in service (R343). -/
def bandOf (s : Nat) : Nat := s * 43008

/-- The valid windows of a region with their numbers. -/
def State.windowList (s : State) (g : Nat) : List (Nat × Window) := (s.windows g).filter (·.2.valid)

/-- The window of a region that holds a data address (R410). -/
def State.windowAt (s : State) (g a : Nat) : Option (Nat × Window) :=
  (s.windowList g).find? fun w => w.2.band * bandBytes ≤ a && a < (w.2.band + w.2.bands) * bandBytes

/-- First physical row of a window: its base band, or the band R343 gives after a retirement. -/
def State.winRow (s : State) (g : Nat) (w : Window) : Nat :=
  ceilDiv (w.band * bandBytes) (bandOf (s.pcsOf g).length)

/-- Rows a window's digits run over: its band count with all pseudo-channels in service, and the rows
that remain up to the last band after a retirement (R317, R343). -/
def State.winRows (s : State) (g : Nat) (w : Window) : Nat :=
  if (s.pcsOf g).length = 16 then w.bands
  else min w.bands (24576 - s.winRow g w)

/-- Where a window-relative address lies: pseudo-channel p, bank k, row and column (R317, R318). -/
structure Place4 where
  p : Nat
  k : Nat
  row : Nat
  col : Nat
  deriving DecidableEq, Repr

/-- The digits of a window-relative address in the window's order, before the base row is added;
`n` pseudo-channels serve and the window has `w` rows. The pseudo-channel is a digit. -/
def digits (order n w a : Nat) : Place4 :=
  let b := a / 64
  match order with
  | 0 =>
    let t := b / 14
    let row := t / n / 48
    let k := t / n % 48
    ⟨(t % n + row) % n, 16 * (k / 16) + 4 * ((k / 4 % 4) ^^^ (row / 16 % 4)) + ((k % 4) ^^^ (row / 64 % 4)),
      row, b % 14⟩
  | 1 => ⟨b % n, b / n % 48, b / n / 48 / 14, b / n / 48 % 14⟩
  | 2 => ⟨b / 14 / w % n, b / 14 / w / n, b / 14 % w, b % 14⟩
  | _ => ⟨b / 14 / 48 / w, b / 14 % 48, b / 14 / 48 % w, b % 14⟩

/-- The physical place of a region data address inside its window. -/
def State.place (s : State) (g : Nat) (w : Window) (a : Nat) : Place4 :=
  let l := s.pcsOf g
  let d := digits w.order (max 1 l.length) (max 1 (s.winRows g w)) (a - w.band * bandBytes)
  { d with p := l.getD d.p 0, row := s.winRow g w + d.row }

/-- Whether an address of a window still maps after a retirement (R343). -/
def State.mapped (s : State) (g : Nat) (w : Window) (a : Nat) : Bool :=
  a - w.band * bandBytes < s.winRows g w * bandOf (s.pcsOf g).length

/-- What stands in the way of an access to one 64-byte block (R315, R343, R410, R408). -/
inductive Gate where
  /-- Nothing. -/
  | open (g win : Nat)
  /-- No region records the access: an absent region or an address beyond the package (R315). -/
  | nowhere
  /-- The hole above a region's data. -/
  | hole (g : Nat)
  /-- Denied by a window, or in no window (255). -/
  | denied (g win : Nat)
  /-- No longer mapped after a retirement, or while windows are re-homed. -/
  | retired (g : Nat)
  deriving DecidableEq, Repr

/-- The check of R410 on one address; requests of class 8, and scrub reads' write-backs, carry no
master (`none`) and skip the masks (R408). -/
def State.gate (s : State) (a : Nat) (write : Bool) (m : Option Nat) : Gate :=
  let g := a / regionSpan
  let d := a % regionSpan
  if 8 ≤ g ∨ s.regionState g ≠ 1 then .nowhere
  else if regionData ≤ d then .hole g
  else match s.windowAt g d with
    | none => .denied g 255
    | some (n, w) =>
      let ok := match m with
        | none => true
        | some id => admits (if write then w.wmask else w.rmask) id
      if !ok then .denied g n
      else if (s.region g).rehoming ∨ !s.mapped g w d then .retired g
      else .open g n

/-- The 64-byte blocks, each with its part of a byte range: address and length (R410). -/
def blocksOf (a n : Nat) : List (Nat × Nat) := if n = 0 then [] else
  (List.range ((a + n - 1) / 64 - a / 64 + 1)).map fun i =>
    let lo := max a (64 * (a / 64 + i))
    (lo, min (a + n) (64 * (a / 64 + i) + 64) - lo)

end Sys2Proof.Machine
end

