-- ==== Sys2Proof/Machine/React.lean ====
section
/-! DEFINITION. What every part of the block shares when something happens: posting events, raising
interrupt sources, detecting faults and running their reactions, the chip reset, access errors and
denials, ledger entries, and checked accesses to package memory. -/

namespace Sys2Proof.Machine

/-! ## Events (R358, R403) -/

/-- Set a bit of a fault record without running a reaction: sticky, and the first-fault record where
the sticky word was 0 (R470, R471). -/
def State.noteBit (s : State) (rec b syn : Nat) : State :=
  s.modFrec rec fun r =>
    let r := if r.sticky = 0 then
        { r with firstSrc := b, firstValid := true, firstTime := s.us, firstSyn := syn } else r
    { r with sticky := r.sticky ||| ((1 : DWord) <<< b), syns := tset r.syns b syn }

/-- Send a packet on a port; an event that is discarded for want of room sets block 10 bit [2] of D0
(R358, R472). -/
def State.send (s : State) (p : Nat) (o : OutPkt) : State :=
  let s' := s.enqueue p o
  if (s'.port p).lostN = (s.port p).lostN then s' else s'.noteBit (dieRec 0 10) 2 0

/-- The parts of an event: one up to 252 words, else parts that begin with their index and count (R403). -/
def eventParts (w : List Nat) : List (List Nat) :=
  if w.length ≤ 252 then [w]
  else (List.range (ceilDiv w.length 251)).map fun i =>
    (i + 65536 * ceilDiv w.length 251) :: (w.drop (251 * i)).take 251

/-- Post a discardable event on one port. -/
def State.postTo (s : State) (p opcode scope : Nat) (words : List Nat) : State :=
  (eventParts words).foldl (fun s w => s.send p { kind := 2, opcode, scope, params := w }) s

/-- Post an event on the S-port alone (destination S of R404). -/
def State.postS (s : State) (opcode scope : Nat) (words : List Nat) : State :=
  s.postTo 16 opcode scope words

/-- Post a completion event to the port that issued the command (destination I of R404). -/
def State.postI (s : State) (p opcode scope : Nat) (words : List Nat) (flip : Option (Nat × Nat) := none) :
    State :=
  s.send p { kind := 1, opcode, scope, params := words, flip }

/-- Post an event to every subscriber of its domain (destination U of R404). -/
def State.postU (s : State) (opcode scope : Nat) (words : List Nat) : State :=
  (List.range 19).foldl (fun s p =>
    if (s.subs p).testBit (opcode / 256) then s.postTo p opcode scope words else s) s

/-! ## Raising sources (R464, R473, R474) -/

/-- Set a source pending; a raise of a pending source counts (R464). -/
def State.pend (s : State) (n : Nat) : State :=
  if !s.srcLive n then s
  else if s.irq.pend.getLsbD n then
    { s with irq := { s.irq with counts := tset s.irq.counts n (min 255 (tget 0 s.irq.counts n + 1)) } }
  else { s with irq := { s.irq with pend := s.irq.pend ||| ((1 : BitVec 512) <<< n) } }

/-- The three URGENT notifications: a non-maskable interrupt at the active Bureau pair of every die
present, a FAULT.URGENT frame on the S-port, and PF0 vector 127 (R474). -/
def State.urgent (s : State) (n : Nat) (record : List Nat) : State :=
  let nmi := (List.range 2).foldl (fun t d =>
    if s.dieState d = 1 then tset t d (satInc 32 (tget 0 t d)) else t) s.irq.nmi
  ({ s with irq := { s.irq with nmi, urgentWait := min 255 (s.irq.urgentWait + 1) } }).send 16
    { kind := 4, opcode := 0x0F80, scope := s.scopePkg, params := n :: record }

/-- Drive ERR_N low and start the Bark pulse (R478). -/
def State.errPin (s : State) : State :=
  { s with
    faults := { s.faults with errLow := true, barkEnd := s.now + 1000 * s.faults.bark, pulseDone := false }
    pwr := { s.pwr with errHeld := true } }

/-- Stop a channel's work and put it into IDLE (BLOCK_RESET column of R461). -/
def Chan.toIdle (c : Chan) : Chan :=
  { c with state := 0, desc := none, append := false, reread := false, fetching := false,
           retryWait := false, stopping := false, pause := false, retries := 0 }

/-- An audio port that waits to be acquired again (R271). -/
def Audio.unacquire (a : Audio) : Audio := { a with acquired := false, rate := 0 }

/-- A link taken to ABSENT or another state with its attempt ended. -/
def Link.into (l : Link) (st : Nat) : Link :=
  { l with state := st, waiting := false, trained := none, retrainCmd := false, retrainAll := false,
           irqLate := false, cands := [], auxTries := 0, auxDefers := 0, restarted := false }

/-- Reset the block that a source's BLOCK_RESET names, for the blocks whose reset is complete at once
(R461, R473); an LE slot, a Mantel copy and a Bureau pair are tested, and their own steps complete it. -/
def State.blockReset (s : State) (n syn : Nat) : State :=
  let d := n / 256
  let i := n % 256
  if i = 5 then s.noteBit (dieRec d 2) 2 0
  else if i = 15 then s.modBirton (4 * d + syn % 4) fun b => { b with state := 1, cand := 0 }
  else if 64 ≤ i ∧ i ≤ 79 then
    let c := s.chan (16 * d + (i - 64))
    let s := match c.desc with
      | some x => if x.ctl.toNat % 16 = 3 then s.modCv (4 * d + c.unit) fun u => { u with dma := false } else s
      | none => s
    s.setChan (16 * d + (i - 64)) c.toIdle
  else if 80 ≤ i ∧ i ≤ 81 then s.modAud (2 * d + (i - 80)) Audio.unacquire
  else if 82 ≤ i ∧ i ≤ 89 then
    s.modInput (8 * d + (i - 82)) fun v => { v with hpd := false, trained := none, state := 0, good := 0 }
  else if 128 ≤ i ∧ i ≤ 175 then s.modLink (48 * d + (i - 128)) (·.into 1)
  else s

/-- Whether the block a BLOCK_RESET names is tested after its reset, so that the reaction stays open
until that test ends (R473). -/
def resetWaits (n : Nat) : Bool := n % 256 = 3 || (32 ≤ n % 256 && n % 256 ≤ 63 && (n % 256 - 32) % 8 ≤ 1)

/-! ## Chip reset (R477, R479, R509) -/

/-- The state of the block when a CHIP_RESET, a RESET_N pulse or a thermal trip resets it: everything
takes its reset value but the always-on domain, the non-volatile stores, the straps and pins, and what
lies outside the device. HBM content is undefined. `origin` is the code of R477. -/
def State.chipReset (s : State) (src origin syn : Nat) : State :=
  { cfg := s.cfg, now := s.now, freeCtr := s.freeCtr + 1, pending := s.pending
    hostMem := s.hostMem, shifted := s.shifted, lastRead := s.lastRead
    clk := { refOn := false, aoCrystal := s.clk.aoCrystal }
    mem := { memory := s.mem.memory.forget 0 (2 ^ 37 - 1) s.freeCtr
             cache := s.mem.cache, cachePtr := s.mem.cachePtr, band := s.mem.band }
    mantel := { store := s.mantel.store, seals := s.mantel.seals }
    heads := s.heads.map fun e => (e.1, { autoEn := e.2.autoEn, autoBind := e.2.autoBind,
                                          autoRule := e.2.autoRule, autoMode := e.2.autoMode })
    links := s.links.map fun e => (e.1, { hpd := e.2.hpd, stored := e.2.stored })
    repair := { ledger := s.repair.ledger, ledgerSeq := s.repair.ledgerSeq, hours := s.repair.hours,
                cleared := s.repair.cleared }
    faults := { errLow := true, pulseDone := true }
    regs := { pcieUp := false }
    casc := { links := s.casc.links.map fun e => (e.1, { signal := e.2.signal }) }
    pwr := { state := .ready, step := .aoBoot, supEn := s.pwr.supEn, aoIoGood := s.pwr.aoIoGood
             switchedGood := s.pwr.switchedGood, trip := s.pwr.trip, lanesIdle := true
             causeWord := src % 512 + 512 * origin + 2 ^ 31, causeSyn := syn, causeTime := s.us
             scratch := s.pwr.scratch, errHeld := true, wakeBits := s.pwr.wakeBits
             lastWake := s.pwr.lastWake, start := { kind := 3, origin := s.now } } }

/-! ## Reactions (R470-R478) -/

/-- Run the parts that a reaction word selects (R473); `record` is what FAULT.URGENT carries, and the
reset parts come last. -/
def State.runReaction (s : State) (n w syn : Nat) (record : List Nat) : State :=
  let s := if rNotify w = 1 then s.pend n else if rNotify w = 2 then s.urgent n record else s
  let s := if rPin w then s.errPin else s
  if rReset w = 1 then s.blockReset n syn
  else if rReset w = 2 then s.chipReset n 0 syn else s

/-- Raise a source that has no collector bit: its reaction runs in full at once (R476). -/
def State.raise (s : State) (n : Nat) : State := s.runReaction n (s.react n) 0 [0, 0, 0, 0]

/-- The fields of a record after a fault set a bit: live, sticky, latest syndrome, and the first-fault
record where the sticky word was 0 (R470, R471). -/
def FaultRec.hit (r : FaultRec) (b syn us : Nat) : FaultRec :=
  let r := if r.sticky = 0 then
      { r with firstSrc := b, firstValid := true, firstTime := us, firstSyn := syn } else r
  { r with sticky := r.sticky ||| ((1 : DWord) <<< b), live := r.live ||| ((1 : DWord) <<< b), syns := tset r.syns b syn }

/-- Open the reaction of a bit of a record: the also-field clears, the parts run, and the reaction
stays open only while a tested block is in its reset (R473, R475). -/
def State.openReaction (s : State) (rec b syn n : Nat) : State :=
  let w := s.react n
  let r := s.frec rec
  let record := (if r.firstValid then b + 0x8000 else b) :: words64 s.us ++ [syn]
  let s := s.modFrec rec fun r =>
    { r with also := 0, open_ := if rReset w = 1 ∧ resetWaits n then some (n, b) else none }
  s.runReaction n w syn record

/-- Clear a live bit: the condition has ended or the occurrence is handled (R470). -/
def State.unlive (s : State) (rec b : Nat) : State :=
  s.modFrec rec fun r => { r with live := r.live &&& ~~~((1 : DWord) <<< b) }

/-- Whether a record exists: its die is in the variant, and blocks 12 and 13 are D0's alone (R472). -/
def State.recLive (s : State) (rec : Nat) : Bool :=
  if rec < 8 then s.regionState rec = 1
  else rec < 40 && s.dieState ((rec - 8) / 16) = 1 &&
    !(24 ≤ rec && ((rec - 8) % 16 = 12 || (rec - 8) % 16 = 13))

/-- A fault sets its bits; it opens a reaction, or joins the also-field of the open one, or does
neither where its source has no reaction (R470, R475). `holds` keeps the live bit for as long as the
condition lasts; a single error's live bit drops once it is handled, which is here. `src` names the
source where the bit alone does not. -/
def State.detectAs (s : State) (rec b syn : Nat) (holds : Bool) (src : Option Nat) : State :=
  if !s.recLive rec then s
  else
    let was := (s.frec rec).open_
    let s := s.modFrec rec (·.hit b syn s.us)
    let drop (s : State) : State := if holds then s else s.unlive rec b
    match src with
    | none => drop s
    | some n =>
      let w := s.react n
      if w = 0 then drop s
      else if was.isSome then
        let s := s.modFrec rec fun r => { r with also := r.also ||| ((1 : DWord) <<< b) }
        if rReset w = 2 then s.runReaction n w syn ([b + 0x8000] ++ words64 s.us ++ [syn]) else drop s
      else drop (s.openReaction rec b syn n)

/-- A fault whose bit names its source (R469, R472). -/
def State.detect (s : State) (rec b syn : Nat) (holds : Bool := false) : State :=
  s.detectAs rec b syn holds (bitSource rec b syn)

/-- The open reaction of a record closes, and the also-field's live bits open new reactions, lowest
first; each that stays open stops the pass (R475). -/
def State.closeReaction (s : State) (rec : Nat) : State :=
  let r := s.frec rec
  let bs := (List.range 64).filter fun b => r.also.getLsbD b && r.live.getLsbD b
  bs.foldl (fun s b =>
    if (s.frec rec).open_.isSome then
      s.modFrec rec fun r => { r with also := r.also ||| ((1 : DWord) <<< b) }
    else match bitSource rec b (tget 0 r.syns b) with
      | some n => if s.react n = 0 then s else s.openReaction rec b (tget 0 r.syns b) n
      | none => s)
    (s.modFrec rec fun r => { r with open_ := none, also := 0 })

/-- A cluster fault: bit 4k + j of the region's word (R469); the syndrome names the unit and, for an
underrun, the frame. -/
def State.clusterFault (s : State) (field c unit seq : Nat) (holds : Bool := false) : State :=
  s.detect (c / 4) (4 * field + c % 4) (unit + 256 * seq) holds

/-! ## Access errors and denials (R419, R424) -/

/-- Count an access error on a die, and in the function's FN_STAT where a function caused it. -/
def State.accessError (s : State) (die off master kind : Nat) : State :=
  let s := s.modAccErr die fun e => { count := satInc 16 e.count, addr := off, master, kind }
  if master < 16 then s.modDoor master fun d => { d with access := satInc 8 d.access } else s

/-- Post ACC.DENIED at most once per target per ms (R419); the target is its kind and index. -/
def State.postDenied (s : State) (master kind idx addr : Nat) : State :=
  let key := kind * 2 ^ 32 + idx
  match tfind s.acc.posted key with
  | some t => if s.now < t + 1000000 then s else
      ({ s with acc := { s.acc with posted := tset s.acc.posted key s.now } }).postS 0x0580 s.scopePkg
        ([master, kind, idx] ++ words64 addr)
  | none =>
      ({ s with acc := { s.acc with posted := tset s.acc.posted key s.now } }).postS 0x0580 s.scopePkg
        ([master, kind, idx] ++ words64 addr)

/-- Record a command denied by an object's table: block 10 bit [1] of D0 (R419). -/
def State.denyCmd (s : State) (master kind idx : Nat) : State :=
  (s.detect (dieRec 0 10) 1 0).postDenied master kind idx 0

/-- Record a register access denied by its block's table, on the die that holds it (R419). -/
def State.denyReg (s : State) (master die block off : Nat) : State :=
  (s.detect (dieRec die 10) 1 die).postDenied master 0 block (off + 2 ^ 32 * die)

/-- The target index of a denied memory access (R419). -/
def denyIdx (g win : Nat) : Nat := win + 256 * g + (if win = 255 then 2 ^ 31 else 0)

/-! ## The repair ledger (R481, R482) -/

/-- A ledger entry's four words. -/
def ledgerWords (kind : Nat) (perm : Bool) (seq die unit row bank hours : Nat) : List Nat :=
  [kind + 256 * b2n perm + 65536 * seq, die + 256 * unit, row + 32768 * bank, hours]

/-- Whether an entry is permanent. -/
def entryPerm (e : List Nat) : Bool := bit (e.getD 0 0) 8
/-- Kind code of an entry. -/
def entryKind (e : List Nat) : Nat := e.getD 0 0 % 256

/-- Whether the ledger has no place for a new entry (R481). -/
def Repair.fullLedger (r : Repair) : Bool :=
  1024 ≤ (r.ledger ++ r.unwritten).length && (r.ledger ++ r.unwritten).all entryPerm

/-- Record a repair; it enters both copies of the ledger within 100 ms (R481). -/
def State.record (s : State) (kind : Nat) (perm : Bool) (die unit : Nat) (row bank : Nat := 0) : State :=
  if s.repair.fullLedger then s
  else
    let r := s.repair
    { s with repair := { r with
      unwritten := r.unwritten ++ [ledgerWords kind perm r.ledgerSeq die unit row bank r.hours]
      ledgerSeq := (r.ledgerSeq + 1) % 65536 } }

/-- Post REPAIR.ACTION: kind, unit, outcome (0 done, 1 failed, 2 NOT_RECORDED), interruption in µs
(R481, R488; DESIGN CHOICE on the outcome codes, assumption 14). -/
def State.repairAction (s : State) (kind unit outcome us : Nat) : State :=
  s.postU 0x1480 s.scopePkg [kind, unit, if s.repair.fullLedger ∧ kind < 0x30 then 2 else outcome, us]

/-! ## Error log and memory faults (R338, R339) -/

/-- Words 0-7 of an error-log entry. -/
def logWords (d : Nat) (pl : Option Place4) (syn word kind cls master urg fails us seq action : Nat) :
    List Nat :=
  let blk := d / 64 * 64
  let w1 := match pl with
    | some p => p.p * 16 + p.k / 16 * 256 + p.k / 4 % 4 * 1024 + p.k % 4 * 4096 + p.col * 16384
    | none => 0
  let w2 := match pl with
    | some p => p.row + syn * 65536 + word * 2 ^ 24
    | none => 0
  [lo32 blk, (match pl with | some _ => blk / 2 ^ 32 % 4 | none => 0) + w1, w2,
   kind + cls * 16 + master * 256 + urg * 16384 + fails * 65536, lo32 us,
   us / 2 ^ 32 % 65536 + seq * 65536, action, 0]

/-- Append an entry to a region's error log, a ring of 64 (R338). -/
def Region.logAdd (r : Region) (e : Nat → List Nat) : Region :=
  let n := e r.logSeq
  if 64 ≤ r.log.length then
    { r with log := r.log.drop 1 ++ [n], overwrites := satInc 32 r.overwrites, logSeq := (r.logSeq + 1) % 65536 }
  else { r with log := r.log ++ [n], logSeq := (r.logSeq + 1) % 65536 }

/-- Who makes a memory request: its class code and master, and its urgency. -/
structure Req where
  cls : Nat
  master : Nat
  urg : Nat := 0
  deriving DecidableEq, Repr

/-- Log a memory error and set its collector bit; the syndrome carries the pseudo-channel and the log
entry's sequence number (R338, R471). -/
def State.logErr (s : State) (g d : Nat) (pl : Option Place4) (syn word kind : Nat) (q : Req)
    (fails action bitNo : Nat) : State :=
  let seq := (s.region g).logSeq
  let s := s.modRegion g (·.logAdd fun n =>
    logWords d pl syn word kind q.cls q.master q.urg fails s.us n action)
  s.detect g bitNo ((match pl with | some p => p.p | none => 0) + 256 * seq)

/-! ## Retirement and row shadows (R339-R344) -/

/-- The expected signatures are lost with the content of the region that holds area A (R344). -/
def State.refsLost (s : State) (g : Nat) : State :=
  if s.mantel.areaA / regionSpan = g then { s with heads := s.heads.map fun e => (e.1, { e.2 with refs := [] }) } else s

/-- Retire a pseudo-channel: it leaves service, every window of its region is re-homed, and the content
of the region is undefined (R342, R343). Re-homing ends with its own event. -/
def State.retirePc (s : State) (pc : Nat) : State :=
  if (s.pc pc).retired then s
  else
    let g := pc / 16
    let old := (s.windowList g).map fun w => (w.1, s.winRows g w.2 * bandOf (s.pcsOf g).length)
    let s := s.modPc pc fun p => { p with retired := true }
    let lost := (s.windowList g).map fun w =>
      let was := min ((old.lookup w.1).getD 0) (w.2.bands * bandBytes)
      let now' := min (s.winRows g w.2 * bandOf (s.pcsOf g).length) was
      (w.2.band * bandBytes + now', w.2.band * bandBytes + was)
    let s := s.modRegion g fun r => { r with rehoming := true, retiredPc := pc, lostRanges := lost }
    let s := { s with
      mem := { s.mem with memory := s.mem.memory.forget (g * regionSpan) (g * regionSpan + regionData - 1) s.freeCtr }
      freeCtr := s.freeCtr + 1 }
    ((s.refsLost g).record 0x24 true (pc / 64) (pc % 64)).detect g 39 (pc % 16)

/-- Note an occasion of an error in a row and tell whether the row becomes suspect: 2 occasions of
uncorrectable or poisoned reads, or 4 of correctable errors, within 24 h, occasions at least 1 ms apart
(R339). -/
def Region.suspect (r : Region) (pc bank row now : Nat) (unc : Bool) : Region × Bool :=
  let day := 86400000000000
  let same (x : Suspect) : Bool := x.pc = pc && x.bank = bank && x.row = row
  let x := (r.suspects.find? same).getD { pc, bank, row }
  let add (l : List Nat) : List Nat :=
    if l.any (now < · + 1000000) then l else l.filter (now < · + day) ++ [now]
  let x := if unc then { x with unc := add x.unc } else { x with cor := add x.cor }
  let rest := r.suspects.filter (!same ·)
  let rest := if 32 ≤ rest.length then rest.drop 1 else rest
  ({ r with suspects := rest ++ [x] }, 2 ≤ x.unc.length || 4 ≤ x.cor.length)

/-- Shadow a suspect row: uncorrectable words of the row stay poisoned in the shadow; the fifth row of a
pseudo-channel retires it (R339, R340, R342). -/
def State.shadowRow (s : State) (g : Nat) (pl : Place4) : State :=
  let pc := 16 * g + pl.p
  if (s.pc pc).shadows.contains (pl.k, pl.row) then s
  else if 4 ≤ (s.pc pc).shadows.length then s.retirePc pc
  else
    let s := s.modPc pc fun p => { p with shadows := p.shadows ++ [(pl.k, pl.row)] }
    let s := s.record 0x20 true (g / 4) (pc % 64) pl.row pl.k
    (s.postU 0x0482 (s.scopeOf 2 g) [pc, pl.k, pl.row]).detect g 33 pl.p

/-- Note an uncorrectable read of a row: 8 different rows of a pseudo-channel within 60 s retire it
(R342). -/
def State.badRow (s : State) (g : Nat) (pl : Place4) : State :=
  let pc := 16 * g + pl.p
  let key := pl.k * 32768 + pl.row
  let rows := ((s.pc pc).badRows.filter fun e => e.1 ≠ key && s.now < e.2 + 60000000000) ++ [(key, s.now)]
  let s := s.modPc pc fun p => { p with badRows := rows }
  if 8 ≤ rows.length then s.retirePc pc else s

/-- Note an error in a row, shadow it when it becomes suspect, and count it towards retirement. -/
def State.rowError (s : State) (g : Nat) (pl : Place4) (unc : Bool) : State :=
  let r := (s.region g).suspect pl.p pl.k pl.row s.now unc
  let s := s.setRegion g r.1
  let s := if r.2 then s.shadowRow g pl else s
  if unc then s.badRow g pl else s

/-! ## Checked accesses (R314, R336, R410) -/

/-- The die that records an access no region can: D0 for the ports, else the requester's (R315). -/
def masterDie (m : Nat) : Nat :=
  if 22 ≤ m ∧ m ≤ 25 then 1 else if 34 ≤ m ∧ m ≤ 41 then 1 else if 44 ≤ m ∧ m ≤ 45 then 1
  else if 50 ≤ m ∧ m ≤ 53 then 1 else 0

/-- Record an access that a gate stops, and what the requester receives (R315, R338, R419). -/
def State.stopped (s : State) (a : Nat) (q : Req) (gt : Gate) : DmaResp × State :=
  match gt with
  | .open _ _ => (.ok, s)
  | .nowhere => (.unmapped, s.detect (dieRec (masterDie q.master) 4) 3 0)
  | .hole g => (.unmapped, s.logErr g (a % regionSpan) none 0 0 4 q 0 1 41)
  | .denied g w => (.denied, (s.detect g 42 0).postDenied q.master 4 (denyIdx g w) a)
  | .retired g => (.retired, s.logErr g (a % regionSpan) none 0 0 5 q 0 1 38)

/-- Whether a master is checked against the masks: controller-internal requests are not (R408). -/
def Req.checked (q : Req) : Option Nat := if q.cls = 8 then none else some q.master

/-- Whether an occasion falls in a new second for a row, so that a correctable error is logged (R338). -/
def Region.firstInSecond (r : Region) (key sec : Nat) : Bool := tfind r.rowSeen key ≠ some sec

/-- Judge the words of a 64-byte block that a read opened: correctable words are corrected and written
back, the first per row and second logged; uncorrectable and poisoned words are logged. The answer errs
when a word that holds requested bytes is bad (R314, R336, R338). -/
def State.judgeBlock (s : State) (g a n : Nat) (pl : Place4) (q : Req) : DmaResp × State :=
  let d := a % regionSpan
  let all := (List.range 8).map (a / 64 * 8 + ·)
  let seen := all.map fun x => (x, s.mem.memory.judge x)
  let bad := seen.filter (2 ≤ ·.2.kind)
  let cor := seen.filter (·.2.kind = 1)
  let hit := bad.filter fun e => (wordsOf a n).contains e.1
  let s := if cor.isEmpty then s else
    let s := { s with mem := { s.mem with memory := cor.foldl (fun (m : Memory) (e : Nat × EccSeen) =>
      ((m.putBytes (8 * e.1) (m.readWord e.1)).setErr e.1 0)) s.mem.memory } }
    let s := s.modRegion g fun r => { r with corrected := satInc 32 r.corrected }
    let key := (pl.p * 48 + pl.k) * 32768 + pl.row
    let f := cor.headD (0, ⟨0, 0, 0⟩)
    let s := if (s.region g).firstInSecond key (s.us / 1000000) then
        (s.logErr g d (some pl) f.2.syn (f.1 % 8) 0 q cor.length 2 32).modRegion g fun r =>
          { r with rowSeen := tset r.rowSeen key (s.us / 1000000) }
      else s.detect g 32 pl.p
    s.rowError g pl false
  match (hit ++ bad).head? with
  | none => (.ok, s)
  | some f =>
    let s := s.modRegion g fun r => { r with uncorrected := satInc 32 r.uncorrected }
    let k := if f.2.kind = 3 then 2 else 1
    let s := s.logErr g d (some pl) f.2.syn (f.1 % 8) k q bad.length (if hit.isEmpty then 0 else 1)
      (if k = 2 then 36 else 35)
    let s := s.rowError g pl true
    (if hit.isEmpty then .ok else if k = 2 then .poisoned else .uncorrectable, s)

/-- Read part of one 64-byte block. -/
def State.readBlock (s : State) (a n : Nat) (q : Req) : DmaResp × List Byte × State :=
  match s.gate a false q.checked with
  | .open g w =>
    let r := s.judgeBlock g a n (s.place g (tget {} (s.windows g) w) (a % regionSpan)) q
    (r.1, s.mem.memory.read a n, r.2.modRegion g fun x => { x with bytes := x.bytes + n })
  | gt => let r := s.stopped a q gt
          (r.1, List.replicate n 0, r.2)

/-- Something is still to be sent to other packages. -/
def State.toSend (s : State) (o : List Out) : State := { s with casc := { s.casc with outQ := s.casc.outQ ++ o } }

/-- A write that the master's memory accepts into the mirror set of a layer goes to each of its holders (R534). -/
def State.mirrorStore (s : State) (a : Nat) (d : List Byte) : State :=
  if s.isMaster ∧ s.casc.members ≠ [] then
    s.toSend (s.layers.flatMap fun e =>
      if e.2.mirrorSet.any fun r => r.1 < a + d.length && a < r.1 + r.2 then e.2.holders.map fun p => .write p e.1 a d else [])
  else s

/-- Store bytes of one block whose access is admitted; a merge that meets an uncorrectable word poisons it and errs
(R314). -/
def State.storeBlock (s : State) (g a : Nat) (d : List Byte) (pl : Place4) (q : Req) : DmaResp × State :=
  let r := s.mem.memory.write a d
  let j := if a % 8 = 0 ∧ d.length % 8 = 0 then s else (s.judgeBlock g a d.length pl q).2
  let t := ({ j with mem := { j.mem with memory := r.1 } }).modRegion g fun x => { x with bytes := x.bytes + d.length }
  (if r.2 then .uncorrectable else .ok, t.mirrorStore a d)

/-- Write part of one 64-byte block. -/
def State.writeBlock (s : State) (a : Nat) (d : List Byte) (q : Req) : DmaResp × State :=
  match s.gate a true q.checked with
  | .open g w => s.storeBlock g a d (s.place g (tget {} (s.windows g) w) (a % regionSpan)) q
  | gt => s.stopped a q gt

/-- Read a range block by block: the first response that is not OK, and the bytes of every block that
answered (R410). -/
def State.read (s : State) (a n : Nat) (q : Req) : DmaResp × List Byte × State :=
  (blocksOf a n).foldl (fun acc b =>
    let r := acc.2.2.readBlock b.1 b.2 q
    (if acc.1 = .ok then r.1 else acc.1, acc.2.1 ++ r.2.1, r.2.2)) (.ok, [], s)

/-- Write a range block by block: each admitted block is stored (R410). -/
def State.write (s : State) (a : Nat) (d : List Byte) (q : Req) : DmaResp × State :=
  (blocksOf a d.length).foldl (fun acc b =>
    let r := acc.2.writeBlock b.1 ((d.drop (b.1 - a)).take b.2) q
    (if acc.1 = .ok then r.1 else acc.1, r.2)) (.ok, s)

/-- What the device writes to host memory (R359, R455): kept as byte plus one, so that a written zero
is listed. -/
def State.writeHost (s : State) (a : Nat) (d : List Byte) : State :=
  { s with hostMem := (List.range d.length).foldl (fun t i => tset t (a + i) ((d.getD i 0).toNat + 1)) s.hostMem }

end Sys2Proof.Machine
end

