-- ==== Sys2Proof/Machine/Operands.lean ====
section
/-! DEFINITION. The operands of commands: parameter words, clamping, what a command's body may answer,
and the subjects a command names (R348-R357, R371-R376). -/

namespace Sys2Proof.Machine

/-! ## What a command body answers -/

/-- The answer of check 7 and of the command's effect (R351, R355, R376). -/
inductive Res where
  /-- Done: the clamped bit, the words after the status, and the state. -/
  | ok (clamped : Bool) (words : List Nat) (s : State)
  /-- Refused with a status; nothing changes. -/
  | err (status : Nat)
  /-- An object's table denied it: kind and index (R415, R419). -/
  | denied (kind idx : Nat)
  /-- Fails admission: check, failing unit, needed, available (R375). -/
  | notAdmitted (check unit need avail : Nat)
  /-- The command stays in progress until a later step ends it (R376). -/
  | wait (s : State)
  /-- The command waits for admission (R160). -/
  | admission

/-- What a command body is: the port, the command, and the state it meets. -/
abbrev Body := Nat → Cmd → State → Res

/-- Parameter word `i`. -/
def Cmd.p (c : Cmd) (i : Nat) : Nat := c.params.getD i 0
/-- Parameter word `i` as a signed value (R372). -/
def Cmd.pS (c : Cmd) (i : Nat) : Int := toS 32 (c.p i)
/-- An enumeration value, or a named one where it is outside the list. -/
def enumOr (n other v : Nat) : Nat := if v < n then v else other
/-- A signed word clamped to a range, as a word. -/
def clampS (lo hi : Int) (v : Nat) : Nat := ofS 32 (clampI lo hi (toS 32 v))
/-- An address in two parameter words, low first (R372). -/
def Cmd.p64 (c : Cmd) (i : Nat) : Nat := cat64 (c.p i) (c.p (i + 1))
/-- Number of parameter words. -/
def Cmd.n (c : Cmd) : Nat := c.params.length
/-- Index of the scope word (R348). -/
def Cmd.idx (c : Cmd) : Nat := bits c.scope 14 8
/-- Level of the scope word: 0 PACKAGE, 1 DIE, 2 REGION, 3 CLUSTER, 4 HEAD. -/
def Cmd.level (c : Cmd) : Nat := bits c.scope 6 4

/-- Privilege classes (R345). -/
def clsS : Nat := 1
def clsH : Nat := 2
def clsG : Nat := 3
def clsV : Nat := 4

/-- The safety opcodes of R357 and R373; IRQ.ROUTE and IRQ.MASK depend on the source (R399). -/
def safetyOp (op : Nat) : Bool :=
  let d := op / 256
  d = 0x05 || d = 0x0C || d = 0x0D || d = 0x0E || d = 0x0F || op = 0x0305 || op = 0x1203

/-- A command whose length does not match its layout: REFUSED_RANGE on a safety opcode, NOT_PERMITTED on
an ordinary one (R373). -/
def badLength (c : Cmd) : Res := .err (if safetyOp c.op then stRange else stNotPermitted)

/-- Go on when the command has exactly `n` parameter words (R373). -/
def withLen (c : Cmd) (n : Nat) (k : Res) : Res := if c.n = n then k else badLength c

/-- Go on when the object admits a write by the command's master (R415). -/
def withWrite (s : State) (c : Cmd) (kind i : Nat) (k : Res) : Res :=
  if s.mayWrite kind i c.master then k else .denied kind i

/-- Go on when the object admits a read by the command's master (R415). -/
def withRead (s : State) (c : Cmd) (kind i : Nat) (k : Res) : Res :=
  if s.mayRead kind i c.master then k else .denied kind i

/-- Go on when every head of a list admits a write. -/
def withHeads (s : State) (c : Cmd) : List Nat → Res → Res
  | [], k => k
  | h :: t, k => withWrite s c 2 h (withHeads s c t k)

/-- The failing unit of a NOT_ADMITTED reply that names no LE slot (R375). -/
def noSlot (unit : Nat) : Nat := unit + 0xF0000

/-- A refusal under a placement rule: check 0, no amounts (R162). -/
def placementRule (unit : Nat) : Res := .notAdmitted 0 (noSlot unit) 0 0

/-- Go on when a value lies in a range; a safety opcode refuses any other (R357). -/
def inRange (lo hi v : Nat) (k : Res) : Res := if lo ≤ v ∧ v ≤ hi then k else .err stRange

/-- Go on when a condition holds, else answer a status. -/
def need (b : Bool) (st : Nat) (k : Res) : Res := if b then k else .err st

/-- Reply OK with the applied parameters; the clamped bit tells that some defined value was altered
(R355, R357, R374). -/
def applied (given done extra : List Nat) (s : State) : Res := .ok (given ≠ done) (done ++ extra) s

/-- Reply OK with the status word alone. -/
def done (s : State) : Res := .ok false [] s

/-- The scope word of the package in which an event's subject lies. -/
def Cmd.target (c : Cmd) : Nat := c.scope

/-- A unit's state as a status: NOT_PRESENT where absent, FAULTED where fused off or retired (R16). -/
def unitStatus (st : Nat) : Option Nat :=
  if st = 0 then some stNotPresent else if st = 1 then none else some stFaulted

/-- Go on when a unit is in service. -/
def withUnit (st : Nat) (k : Res) : Res :=
  match unitStatus st with
  | none => k
  | some e => .err e

/-! ## Subjects (R353) -/

/-- Index that stands for every head. -/
def allHeads : Nat := 0x10000

/-- The subjects of a command as kind and index: 1 layer, 2 head, 3 link, 4 input, 5 audio port,
6 DMA channel, 7 window, 8 register block; the Mantel items are 16 atlas, 17 palette banks, 18 sprite
list, 19 backdrop, 20 CTM, 21 arming, 22 expected signatures, 23 reactions, 24 staging image. -/
def Cmd.subjects (c : Cmd) : List (Nat × Nat) :=
  let h := c.idx
  match c.op with
  | 0x0303 => if c.level = 4 then [(2, h)] else []
  | 0x0501 => [(7, h * 256 + c.p 0)]
  | 0x0502 => [([8, 1, 2, 6].getD (c.p 0) 8, c.p 1)]
  | 0x0805 => [(2, h), (2, h + 1)]
  | 0x0904 => [(2, h)]
  | 0x0A04 => [(1, c.p 0), (4, c.p 1)]
  | 0x0A05 => [(4, c.p 0), (5, 16 + c.p 0)]
  | 0x0B02 => (c.params.drop 2).map fun x => (2, x)
  | 0x0B03 => [(2, h)]
  | 0x0C01 => [(16, 0), (17, 0), (18, allHeads), (19, allHeads), (20, 0), (22, allHeads)]
  | 0x0C02 => [(16, 0)]
  | 0x0C03 => [(17, 0)]
  | 0x0C04 => [(19, h)]
  | 0x0C05 => [(18, h)]
  | 0x0C06 => [(17, 0), (18, allHeads), (19, allHeads), (20, 0)]
  | 0x0C07 => [(21, h)]
  | 0x0C08 => [(24, 0)]
  | 0x0E01 => [(22, h)]
  | 0x0E02 => [(23, if c.level = 4 then h else allHeads)]
  | 0x1103 => []
  | op =>
    match op / 256 with
    | 0x07 => if 0x070A ≤ op ∧ op ≤ 0x070C then [] else [(1, c.p 0)]
    | 0x08 => [(2, h)]
    | 0x09 => [(3, c.p 0)]
    | 0x0A => [(4, c.p 0)]
    | 0x0B => [(5, c.p 0)]
    | 0x0D => [(20, 0)]
    | 0x0E => [(2, h)]
    | 0x11 => [(6, c.p 0)]
    | 0x13 => [(2, h)]
    | _ => []

/-- Whether two commands share a subject. -/
def conflict (a b : Cmd) : Bool :=
  a.subjects.any fun x => b.subjects.any fun y =>
    x.1 = y.1 && (x.2 = y.2 || x.2 = allHeads || y.2 = allHeads)

/-! ## Ending a command in progress (R353-R355) -/

/-- The status word (R355). -/
def replyWord (st : Nat) (clamped : Bool) (expect : Nat) : Nat := st + 256 * b2n clamped + 65536 * expect

/-- Tags from 4,096 on mark commands of a session that has ended: they give no reply (R362). -/
def deadTag : Nat := 4096

/-- Put a reply on its port; a command whose session has ended gives none, and its tag becomes free (R355,
R362). -/
def State.putReply (s : State) (port op tag cls scope : Nat) (words : List Nat) : State :=
  if s.portLive port ∧ tag < deadTag then
    s.send port { kind := 0, opcode := op, tag, cls, scope, params := words }
  else s.modPort port fun q => { q with tags := dropOf q.tags tag }

/-- A package has answered its part of a command for every package: the one reply carries the worst status
and the package that gave it (R349, R356). -/
def State.gatherReply (s : State) (g : Gather) (st pkg : Nat) : State :=
  let worse := badness g.worst < badness st
  let g := { g with left := g.left - 1, worst := if worse then st else g.worst, pkg := if worse then pkg else g.pkg }
  let rest := s.casc.gather.filter fun x => !(x.port = g.port && x.tag = g.tag)
  if g.left = 0 then
    ({ s with casc := { s.casc with gather := rest } }).putReply g.port g.op g.tag g.cls g.scope
      [replyWord g.worst false 0, g.pkg]
  else { s with casc := { s.casc with gather := rest ++ [g] } }

/-- The reply of a command: it goes to its port, or joins the one reply of a command for every package. -/
def State.sendReply (s : State) (port op tag cls scope : Nat) (words : List Nat) : State :=
  match s.casc.gather.find? fun x => x.port = port && x.tag = tag with
  | some g => s.gatherReply g (words.headD 0 % 256) s.cfg.pkgId
  | none => s.putReply port op tag cls scope words

/-- End the command in progress that has a tag: its reply is generated (R353). -/
def State.finish (s : State) (port : Nat) (c : Cmd) (words : List Nat) : State :=
  (s.modPort port fun q => { q with running := q.running.filter (·.tag ≠ c.tag) }).sendReply port c.op c.tag
    c.cls c.scope words

/-- The command in progress of a port with a tag. -/
def State.runningCmd (s : State) (port tag : Nat) : Option Cmd := (s.port port).running.find? (·.tag = tag)

/-- End the command of a port and tag with reply words, where it is in progress. -/
def State.finishTag (s : State) (port tag : Nat) (words : List Nat) : State :=
  match s.runningCmd port tag with
  | some c => s.finish port c words
  | none => s

/-- The reply words a body's answer gives at once, with the state it leaves; none while the command
waits. -/
def Res.words (r : Res) (s : State) (master : Nat) : Option (List Nat) × State :=
  match r with
  | .ok c w s' => (some (replyWord stOk c 0 :: w), s')
  | .err st => (some [replyWord st false 0], s)
  | .denied k i => (some [replyWord stNotPermitted false 0], s.denyCmd master k i)
  | .notAdmitted a b c d => (some [replyWord stNotAdmitted false 0, a, b, c, d], s)
  | .wait s' => (none, s')
  | .admission => (none, s)

end Sys2Proof.Machine
end

