-- ==== Sys2Proof/Machine/BirtonTx.lean ====
section
/-! DEFINITION. What a package sends over its Birton links: frames, packets in frames, forwarded commands,
and the C-port's packets (R354, R367, R523-R525, R532, R533). -/

namespace Sys2Proof.Machine

/-! ## Frames (R523, R524) -/

/-- The header word of a frame. -/
def frameHead (cls n seq src dst : Nat) (all : Bool) (field : Nat) : Nat :=
  cls + 16 * n + 2 ^ 16 * seq + 2 ^ 32 * src + 2 ^ 35 * dst + 2 ^ 38 * b2n all + 2 ^ 39 * field

/-- The CRC of a frame: its words as little-endian bytes, with the sequence number folded in first. -/
def frameCrc (seq : Nat) (words : List Nat) : Nat := trailer seq (words.flatMap (leBytes 8))

/-- The trailer word: the CRC and the acknowledgement of what has been received; before any frame there is
nothing to acknowledge. -/
def BLink.tail (l : BLink) (crc : Nat) (nak : Bool) : Nat :=
  crc + 2 ^ 32 * ((l.rxSeq + 65535) % 65536) + 2 ^ 48 * b2n (l.rxSeq ≠ 0 || nak) + 2 ^ 49 * b2n nak

/-- A link that carries traffic: UP. -/
def State.birtonUp (s : State) (b : Nat) : Bool := s.birtonState b = 1 && (s.birton b).state = 3

/-- Send a frame of a source package on a link: it is numbered, and kept for replay unless it is a timing frame
(R525). -/
def State.frameFrom (s : State) (b cls src dst : Nat) (all : Bool) (field : Nat) (pay : List Nat) (nak : Bool) : State :=
  s.modBirton b fun l =>
    let words := frameHead cls pay.length l.txSeq src dst all field :: pay
    let f := (words ++ [l.tail (frameCrc l.txSeq words) nak]).map (BitVec.ofNat 64)
    { l with txSeq := (l.txSeq + 1) % 65536, out := l.out ++ [f]
             unacked := if cls = 0 then l.unacked else l.unacked ++ [(l.txSeq, f)] }

/-- Send a frame of this package. -/
def State.frameOut (s : State) (b cls dst : Nat) (all : Bool) (field : Nat) (pay : List Nat) (nak : Bool := false) :
    State :=
  s.frameFrom b cls s.cfg.pkgId dst all field pay nak

/-- Send a frame where the link is UP; else it is dropped. -/
def State.birtonSend (s : State) (b cls dst : Nat) (all : Bool) (field : Nat) (pay : List Nat) : State :=
  if s.birtonUp b then s.frameOut b cls dst all field pay else s

/-! ## Packets in frames (R533, R367)

A packet crosses as an envelope word (claimed class in [3:0], origin port in [8:4], origin tag in [27:12],
bytes in [47:32]) and its bytes, 8 to a word, at most 32 words to a frame (DESIGN CHOICE, assumption 23). -/

/-- Bytes as 64-bit words, the last padded with zeros. -/
def dwords : Nat → List Byte → List Nat
  | 0, _ => []
  | n + 1, b => if b.isEmpty then [] else ofLe (b.take 8) :: dwords n (b.drop 8)

/-- Cut a list into parts of 32. -/
def parts32 : Nat → List Nat → List (List Nat)
  | 0, _ => []
  | n + 1, l => if l.isEmpty then [] else l.take 32 :: parts32 n (l.drop 32)

/-- The envelope word of a packet. -/
def envelope (cls port tag n : Nat) : Nat := cls % 16 + 16 * (port % 32) + 4096 * (tag % 65536) + 2 ^ 32 * n

/-- Send a packet on a link. -/
def State.packetOut (s : State) (b cls dst env : Nat) (bytes : List Byte) : State :=
  (parts32 40 (env :: dwords 140 bytes)).foldl (fun s p => s.birtonSend b cls dst false 0 p) s

/-! ## Routes (R529, R532) -/

/-- The link in state UP to a neighbour, the lowest (R531). -/
def State.directLink (s : State) (pkg : Nat) : Option Nat :=
  (List.range 8).find? fun b => s.birtonUp b && ((s.birton b).partner.map (·.pkg)) = some pkg

/-- The link that leads towards a package: the link of a neighbour, the first link of the route to a member, or the
upstream link towards the master. -/
def State.linkTo (s : State) (pkg : Nat) : Option Nat :=
  match s.directLink pkg with
  | some b => some b
  | none =>
    match s.casc.members.find? (·.1 = pkg) with
    | some m => some m.2.1
    | none => if s.casc.master = some pkg then s.casc.upstream else none

/-- Followers that the master knows to be joined to one, in ascending order. -/
def beside (edges : List (Nat × Nat)) (p : Nat) : List Nat :=
  (List.range 8).filter fun q => edges.contains (p, q) || edges.contains (q, p)

/-- The packages one hop beyond a list of packages and their links, each by the first that reaches it. -/
def nextHop (edges : List (Nat × Nat)) (seen : List Nat) (l : List (Nat × Nat)) : List (Nat × Nat) :=
  l.foldl (fun a e =>
    a ++ ((beside edges e.1).filter fun q => !seen.contains q && !a.any (·.1 = q)).map fun q => (q, e.2)) []

/-- The master's route to every package: the package, the first link, and the hops, at most 3. A route has the fewest
hops, and among those the lowest package ID at each step, then the lowest link (R530, R532). -/
def State.routes (s : State) : List (Nat × Nat × Nat) :=
  let one := (List.range 8).filterMap fun p => if p = s.cfg.pkgId then none else (s.directLink p).map fun b => (p, b)
  let seen := s.cfg.pkgId :: one.map (·.1)
  let two := nextHop s.casc.edges seen one
  let three := nextHop s.casc.edges (seen ++ two.map (·.1)) two
  one.map (fun e => (e.1, e.2, 1)) ++ two.map (fun e => (e.1, e.2, 2)) ++ three.map fun e => (e.1, e.2, 3)

/-- Whether a package belongs to the system that this master serves. -/
def State.isMember (s : State) (pkg : Nat) : Bool :=
  s.casc.members.any (·.1 = pkg) && !s.casc.left.contains pkg

/-! ## Forwarding a command (R349, R367) -/

/-- The bytes of a forwarded command: class 0 in its header, the follower's scope, and the session's next
sequence number. -/
def cmdBytes (op tag seq scope : Nat) (params : List Nat) : List Byte :=
  let body := leBytes 4 (op + 65536 * params.length) ++ leBytes 4 (tag + 65536 * seq) ++ leBytes 4 scope ++ leBytes 4 0 ++
    params.flatMap (leBytes 4)
  body ++ leBytes 4 (trailer seq body)

/-- Forward a command to another package, under a tag of its own. -/
def State.forward (s : State) (pkg port : Nat) (c : Cmd) (all : Bool) : State :=
  let t := s.casc.cTag
  let q := tget 0 s.casc.fwdSeq pkg
  let bytes := cmdBytes c.op t q (c.scope / 16 * 16 + pkg) c.params
  let f : Forward := { pkg, ctag := t, port, tag := c.tag, op := c.op, cls := c.cls, scope := c.scope, all, params := c.params }
  let s : State := { s with casc := { s.casc with
                       cTag := (t + 1) % 4096, fwdSeq := tset s.casc.fwdSeq pkg ((q + 1) % 65536)
                       forwards := s.casc.forwards ++ [f] } }
  match s.linkTo pkg with
  | some b => s.packetOut b 2 pkg (envelope c.cls port c.tag bytes.length) bytes
  | none => s

/-! ## The C-port of a follower (R354, R358, R367) -/

/-- Frame numbers used last on a link. -/
def BLink.lastSeq (l : BLink) : Nat := (l.txSeq + 65535) % 65536

/-- Number a packet of the C-port and send it to the master on the upstream link. -/
def State.cSendOne (s : State) (b : Nat) (o : OutPkt) : State :=
  let n := (s.port 18).txSeq
  let bytes := o.bytes n
  (s.modPort 18 Port.number).packetOut b 3 (s.casc.master.getD 0) (envelope o.cls 18 o.tag bytes.length) bytes

/-- Send the C-port's packet at a place of its queue, DEV.EVENTLOST before the next event; it waits in the
queue until the master acknowledges its last frame. -/
def State.cSend (s : State) (b i : Nat) : State :=
  match (s.port 18).out[i]? with
  | none => s
  | some o =>
    if o.seq.isSome ∨ !s.birtonUp b ∨ 216 ≤ (s.birton b).unacked.length then s
    else
      let s := if !o.isReply ∧ (s.port 18).lostN ≠ 0 then
          (s.cSendOne b ((s.port 18).lostPkt s.cfg.pkgId)).modPort 18 fun q => { q with lostN := 0, lostMask := 0 }
        else s
      let s := s.cSendOne b o
      s.modPort 18 fun q => { q with out := q.out.set i { o with seq := some (s.birton b).lastSeq } }

/-- Send every waiting packet of the C-port. -/
def State.flushC (s : State) : State :=
  match s.casc.upstream with
  | some b => if s.cSession then (List.range (s.port 18).out.length).foldl (fun s i => s.cSend b i) s else s
  | none => s

/-- Take the C-port's packets whose frames have all been acknowledged from the queue (R354). -/
def cPop (open_ : List Nat) : Nat → Port → Port
  | 0, q => q
  | n + 1, q => match q.out with
    | o :: t =>
      if o.seq.any fun f => !open_.contains f then
        cPop open_ n { q with out := t, tags := if o.kind = 0 then dropOf q.tags o.tag else q.tags }
      else q
    | [] => q

/-- Frames of the upstream link have been acknowledged. -/
def State.cAcked (s : State) (b : Nat) : State :=
  if s.casc.upstream = some b then
    s.modPort 18 fun q => cPop ((s.birton b).unacked.map (·.1)) q.out.length q
  else s

end Sys2Proof.Machine
end

