-- ==== Sys2Proof/Machine/Geometry.lean ====
section
/-! DEFINITION. Where layers fall on heads: formats, viewports, head parts, source positions, fetched
ranges and Trestle segments (R45-R112). -/

namespace Sys2Proof.Machine

/-! ## Exact fractions -/

/-- A fraction of two counts. -/
structure Q where
  num : Nat
  den : Nat
  deriving DecidableEq, Repr

/-- A fraction in lowest terms. -/
def Q.mk' (n d : Nat) : Q := ⟨n / max 1 (Nat.gcd n d), d / max 1 (Nat.gcd n d)⟩
/-- Zero. -/
def Q.zero : Q := ⟨0, 1⟩
/-- Sum. -/
def Q.add (a b : Q) : Q := Q.mk' (a.num * b.den + b.num * a.den) (a.den * b.den)
/-- Less than. -/
def Q.lt (a b : Q) : Bool := a.num * b.den < b.num * a.den
/-- Sum of a list. -/
def Q.sum (l : List Q) : Q := l.foldl Q.add Q.zero
/-- In units of 1/u, rounded up. -/
def Q.up (a : Q) (u : Nat) : Nat := ceilDiv (a.num * u) (max 1 a.den)

/-! ## Formats and buffers (R85, R86, R89) -/

/-- Number of planes of a format. -/
def fmtPlanes (f : Nat) : Nat := if f = 5 ∨ f = 6 then 2 else 1
/-- A 4:2:0 format. -/
def fmt420 (f : Nat) : Bool := f = 5 || f = 6
/-- A YCbCr format. -/
def fmtYcc (f : Nat) : Bool := 5 ≤ f && f ≤ 8
/-- Pixels that one element of a plane covers horizontally. -/
def elemW (f pl : Nat) : Nat := if f = 7 ∨ (fmt420 f ∧ pl = 1) then 2 else 1
/-- Pixels that one element of a plane covers vertically. -/
def elemH (f pl : Nat) : Nat := if fmt420 f ∧ pl = 1 then 2 else 1
/-- Bytes of an element of a plane. -/
def elemBytes (f pl : Nat) : Nat :=
  match f with
  | 2 => 2
  | 4 => 8
  | 5 => if pl = 0 then 1 else 2
  | 6 => if pl = 0 then 2 else 4
  | 7 => 8
  | 9 => 1
  | 10 => 1
  | _ => 4
/-- Bytes of a line of a plane, without padding. -/
def lineBytes (f pl w : Nat) : Nat := w / elemW f pl * elemBytes f pl
/-- Smallest stride of a plane (R85). -/
def minStride (f pl w : Nat) : Nat := ceilDiv (lineBytes f pl w) 256 * 256

/-- Byte offset of element (x, y) of a plane, in linear or tiled layout (R85, R86). -/
def elemOffset (src : Source) (pl x y : Nat) : Nat :=
  let e := elemBytes src.format pl
  if src.tiled then
    let perRow := ceilDiv (src.width / elemW src.format pl) 64
    (y / 64 * perRow + x / 64) * 4096 * e + (y % 64 / 4 * 16 + x % 64 / 4) * 16 * e + (y % 4 * 4 + x % 4) * e
  else y * src.strides.getD pl 0 + x * e

/-- Bytes of a plane of a buffer, from its base on (R85, R86). -/
def planeBytes (src : Source) (pl : Nat) : Nat :=
  let h := ceilDiv src.height (elemH src.format pl)
  if src.tiled then ceilDiv h 64 * ceilDiv (src.width / elemW src.format pl) 64 * 4096 * elemBytes src.format pl
  else h * src.strides.getD pl 0

/-- The default source description (R575). -/
def defaultSource : Source := {}

/-! ## Viewports (R46-R55) -/

/-- A rectangle of the canvas. -/
structure View where
  x : Nat
  y : Nat
  w : Nat
  h : Nat
  deriving DecidableEq, Repr

/-- Whether an orientation turns width and height. -/
def turned (o : Nat) : Bool := o % 2 = 1

/-- The mode a head has, or takes at its next vertical blanking (R295). -/
def Head.modeP (h : Head) : Option Mode := h.pendingMode.or h.mode

/-- The viewport of a head: empty until a mode is applied (R50, R54). -/
def Head.view (h : Head) : View :=
  match h.modeP with
  | none => ⟨h.ox, h.oy, 0, 0⟩
  | some m => if turned h.orient then ⟨h.ox, h.oy, m.ha, m.wa⟩ else ⟨h.ox, h.oy, m.wa, m.ha⟩

/-- Width of the usable window: what lies on the canvas (R47). -/
def State.usableW (s : State) : Nat := min 32768 (65536 - s.wx)
/-- Height of the usable window. -/
def State.usableH (s : State) : Nat := min 32768 (65536 - s.wy)

/-- The canvas pixel that panel pixel (px, py) shows (R51). -/
def Head.canvasOf (h : Head) (px py : Nat) : Nat × Nat :=
  let v := h.view
  let wa := if turned h.orient then v.h else v.w
  let px := if h.mirror then wa - 1 - px else px
  match h.orient with
  | 0 => (v.x + px, v.y + py)
  | 1 => (v.x + v.w - 1 - py, v.y + px)
  | 2 => (v.x + v.w - 1 - px, v.y + v.h - 1 - py)
  | _ => (v.x + py, v.y + v.h - 1 - px)

/-! ## Source positions (R69, R70) -/

/-- The step of an axis: 12 integer and 20 fractional bits. -/
def stepOf (src dst : Nat) : Nat := (src * 2 ^ 20 + dst / 2) / max 1 dst
/-- The centre offset of an axis. -/
def offOf (step : Nat) : Int := ((step : Int) - 2 ^ 20) / 2
/-- Source position of count k. -/
def posOf (step : Nat) (k : Int) : Int := k * step + offOf step
/-- Source index of count k. -/
def idxOf (step : Nat) (k : Int) : Int := posOf step k / 2 ^ 20
/-- Filter phase of count k. -/
def phaseOf (step : Nat) (k : Int) : Nat := (posOf step k / 2 ^ 14 % 64).toNat
/-- Largest count whose source index lies below `cut`. -/
def lastBelow (step cut : Nat) : Int := ((cut : Int) * 2 ^ 20 - offOf step - 1) / step

/-- Whether canvas x counts in reverse (R70). -/
def revX (p : Place) : Bool := if p.orient = 0 ∨ p.orient = 3 then p.mirror else !p.mirror
/-- Whether canvas y counts in reverse (R70). -/
def revY (p : Place) : Bool := p.orient ≥ 2

/-- One canvas axis of a layer on a head: the counts k it covers, how they map to the source, and what
the source axis holds. -/
structure Axis where
  step : Nat
  /-- First and last count drawn. -/
  kLo : Int
  kHi : Int
  /-- Counts run against the canvas coordinate. -/
  rev : Bool
  /-- The source axis: columns, else lines. -/
  cols : Bool
  /-- Origin of the source rectangle on it, in the buffer. -/
  org : Nat
  /-- Applied source extent on it (R105). -/
  cut : Nat
  /-- Destination origin and size on the canvas axis. -/
  dst : Int
  size : Nat
  deriving DecidableEq, Repr

/-- Count of a canvas coordinate. -/
def Axis.count (a : Axis) (v : Int) : Int := if a.rev then a.dst + a.size - 1 - v else v - a.dst
/-- Canvas coordinate of a count. -/
def Axis.coord (a : Axis) (k : Int) : Int := if a.rev then a.dst + a.size - 1 - k else a.dst + k
/-- The axis is scaled, so that its filter runs (R103). -/
def Axis.scaled (a : Axis) : Bool := a.step ≠ 2 ^ 20
/-- Pixels drawn. -/
def Axis.len (a : Axis) : Nat := (a.kHi - a.kLo + 1).toNat

/-- The axis of a layer on canvas x (`horiz`) or y, over canvas coordinates `lo` to `hi`. -/
def Layer.axis (l : Layer) (horiz : Bool) (lo hi : Int) : Axis :=
  let p := l.applied
  let cols := horiz ≠ turned p.orient
  let src := if cols then p.srcW else p.srcH
  let dst := if horiz then p.dstW else p.dstH
  let step := stepOf src dst
  let cut := if cols then l.cutW else l.cutH
  let a : Axis := { step, kLo := 0, kHi := 0, rev := if horiz then revX p else revY p, cols
                    org := if cols then p.srcX else p.srcY, cut, dst := if horiz then p.dstX else p.dstY
                    size := dst }
  let k0 := a.count lo
  let k1 := a.count hi
  { a with kLo := min k0 k1, kHi := min (max k0 k1) (lastBelow step cut) }

/-! ## Head parts (R58-R61, R87) -/

/-- A head part of a layer. -/
structure Part where
  head : Nat
  layer : Nat
  /-- The axis a destination line steps through, and the one that crosses it (R93). -/
  along : Axis
  across : Axis
  /-- Panel pixels run against the counts of the along axis, and panel lines against those of the
  across axis. -/
  alongDown : Bool
  acrossDown : Bool
  /-- The read is rotated (R87). -/
  rotated : Bool
  deriving DecidableEq, Repr

/-- The layer is placed. -/
def Layer.placed (l : Layer) : Bool := l.requested.isSome

/-- A layer and a head share at least one canvas pixel (R59). -/
def Layer.meets (l : Layer) (h : Head) : Bool :=
  let v := h.view
  let p := l.applied
  l.placed && 0 < v.w && 0 < v.h &&
  decide (p.dstX < v.x + v.w) && decide ((v.x : Int) < p.dstX + p.dstW) &&
  decide (p.dstY < v.y + v.h) && decide ((v.y : Int) < p.dstY + p.dstH)

/-- Whether the panel's pixels along a line run against the canvas coordinate (R51). -/
def Head.alongRev (h : Head) : Bool := (h.orient ≥ 2) ≠ h.mirror
/-- Whether the panel's lines run against the canvas coordinate (R51). -/
def Head.acrossRev (h : Head) : Bool := h.orient = 1 || h.orient = 2

/-- The head part of a layer on a head, where they intersect. -/
def Layer.part (l : Layer) (li hi : Nat) (h : Head) : Option Part :=
  if !l.meets h then none
  else
    let v := h.view
    let p := l.applied
    let ax := l.axis true (max p.dstX v.x) (min (p.dstX + p.dstW) (v.x + v.w) - 1)
    let ay := l.axis false (max p.dstY v.y) (min (p.dstY + p.dstH) (v.y + v.h) - 1)
    let al := if turned h.orient then ay else ax
    let ac := if turned h.orient then ax else ay
    some { head := hi, layer := li, along := al, across := ac, alongDown := h.alongRev ≠ al.rev
           acrossDown := h.acrossRev ≠ ac.rev, rotated := turned p.orient ≠ turned h.orient }

/-- Some pixel of the head part is drawn (R58). -/
def Part.drawn (p : Part) : Bool := 0 < p.along.len && 0 < p.across.len

/-- Put a layer into stacking order: by z, then by layer ID (R60). -/
def layerIn (x : Nat × Layer) : List (Nat × Layer) → List (Nat × Layer)
  | [] => [x]
  | a :: t =>
    if x.2.applied.z < a.2.applied.z ∨ (x.2.applied.z = a.2.applied.z ∧ x.1 < a.1) then x :: a :: t
    else a :: layerIn x t

/-- The layers that a head may process: all, or on a head of a deep pair its own stack, the top 16 in the
owner's package and the rest in the partner's (R540). -/
def State.ownLayers (s : State) (d : Head) : List (Nat × Layer) :=
  if d.deep.isNone then s.layers
  else
    let on := (s.layers.filter fun e => e.2.meets d).foldl (fun a e => layerIn e a) []
    if d.deepOwner then on.drop (on.length - 16) else on.take (on.length - 16)

/-- The head parts of a layer, by head. -/
def State.partsOf (s : State) (li : Nat) : List Part :=
  s.heads.filterMap fun e =>
    if e.2.deep.isNone || (s.ownLayers e.2).any (·.1 = li) then (s.layer li).part li e.1 e.2 else none

/-- The layers that intersect a head. -/
def State.layersOn (s : State) (h : Nat) : List Nat :=
  (s.layers.filter fun e => e.2.meets (s.head h)).map (·.1)

/-! ## Taps, fetched range and segments (R93, R94, R98, R103, R104) -/

/-- Vertical taps a head part runs with, when the layer's applied taps are `t`. -/
def runTaps (step t : Nat) : Nat := if step = 2 ^ 20 then 2 else if 4 * 2 ^ 20 < step ∧ t = 6 then 4 else t

/-- The fetch unit of the along axis, in pixels or lines (R93). -/
def fetchUnit (src : Source) (rotated : Bool) : Nat :=
  if rotated then 4
  else if src.tiled then 4 * elemW src.format 0
  else 64 / elemBytes src.format 0 * elemW src.format 0

/-- First and last source index that the counts `a` to `b` of the along axis need, inside the applied
source extent (R93). -/
def Axis.range (x : Axis) (a b : Int) : Nat × Nat :=
  let w : Int := if x.scaled then 3 else 0
  let top : Int := (x.cut : Int) - 1
  ((clampI 0 top (idxOf x.step a - w)).toNat,
   (clampI 0 top (idxOf x.step b + (if x.scaled then 4 else 0))).toNat)

/-- The buffer positions of whole fetch units that hold the range: first, and one past the last. -/
def Axis.extent (x : Axis) (unit : Nat) (a b : Int) : Nat × Nat :=
  let r := x.range a b
  ((x.org + r.1) / unit * unit, ((x.org + r.2) / unit + 1) * unit)

/-- Fetched width of counts `a` to `b` of a head part. -/
def Part.width (p : Part) (src : Source) (a b : Int) : Nat :=
  let e := p.along.extent (fetchUnit src p.rotated) a b
  e.2 - e.1

/-- Fetched width of the whole head part. -/
def Part.wf (p : Part) (src : Source) : Nat := p.width src p.along.kLo p.along.kHi

/-- The layer takes its pixels from a video input, not from memory (R96, R260). -/
def Layer.direct (l : Layer) : Bool := l.bindMode = 2

/-- Lines a head part keeps in the Trestle beside its taps: 4 for a tiled buffer, 1 for 4:2:0; a direct
layer has no tiles (R104, R261). -/
def Layer.extraLines (l : Layer) : Nat :=
  (if l.source.tiled ∧ !l.direct then 4 else 0) + (if fmt420 l.source.format then 1 else 0)

/-- Fetched width of a head part; the source rectangle's width for a direct layer (R93, R261). -/
def Part.wfIn (p : Part) (l : Layer) : Nat := if l.direct then p.along.cut else p.wf l.source

/-- Segments of a head part (R104); a part with nothing drawn holds none (R58). -/
def Part.segments (p : Part) (l : Layer) : Nat :=
  if p.drawn then (runTaps p.across.step l.taps + l.extraLines) * ceilDiv (p.wfIn l) 512 else 0

/-- Every head part of a cluster. -/
def State.clusterParts (s : State) (c : Nat) : List Part :=
  ((List.range 4).map (4 * c + ·)).flatMap fun h =>
    (s.ownLayers (s.head h)).filterMap fun e => e.2.part e.1 h (s.head h)

/-- The heads of a cluster that take a composite from another package, with the active width of their
mode (R542). -/
def State.composites (s : State) (c : Nat) : List (Nat × Nat) :=
  ((List.range 4).map (4 * c + ·)).filterMap fun h =>
    let d := s.head h
    if d.deep.isSome ∧ d.deepOwner then d.modeP.map fun m => (h, m.wa) else none

/-- Segments that hold 3 lines of each composite of a cluster (R542). -/
def State.compositeSegs (s : State) (c : Nat) : Nat :=
  (s.composites c).foldl (fun a e => a + 3 * ceilDiv e.2 512) 0

/-- Segments that a cluster's head parts and composites hold (R105, R542). -/
def State.segsOf (s : State) (c : Nat) : Nat :=
  (s.clusterParts c).foldl (fun a p => a + p.segments (s.layer p.layer)) (s.compositeSegs c)

/-- Vertical taps that the replies report: the smallest of any head part, or as on a head at
orientation 0 where there is none (R94). -/
def State.tapsOf (s : State) (li : Nat) : Nat :=
  let l := s.layer li
  match s.partsOf li with
  | [] => runTaps (l.axis false 0 0).step l.taps
  | p :: ps => ps.foldl (fun a q => min a (runTaps q.across.step l.taps)) (runTaps p.across.step l.taps)

/-- Destination pixels drawn on canvas x (`horiz`) or y (R105). -/
def Layer.drawnOn (l : Layer) (horiz : Bool) : Nat :=
  let a := l.axis horiz 0 0
  min a.size (lastBelow a.step a.cut + 1).toNat

/-- The five words that LAYER.PLACE adds to its reply (R388). -/
def State.placeExtra (s : State) (li : Nat) : List Nat :=
  let l := s.layer li
  [s.tapsOf li, l.cutW, l.cutH, l.drawnOn true, l.drawnOn false]

/-! ## Reduction for the Trestle (R105, R106) -/

/-- Segments of a cluster with each part of one layer counted as one 512-pixel width. -/
def State.segsLeast (s : State) (li c : Nat) : Nat :=
  (s.clusterParts c).foldl (fun a p =>
    let l := s.layer p.layer
    a + (if p.layer = li ∧ p.drawn then runTaps p.across.step l.taps + l.extraLines
         else p.segments l)) (s.compositeSegs c)

/-- Clusters where a layer has head parts. -/
def State.clustersOf (s : State) (li : Nat) : List Nat :=
  (s.partsOf li).foldl (fun a p => addTo a (p.head / 4)) []

/-- Clusters of a layer whose segments exceed the pool. -/
def State.overfull (s : State) (li : Nat) : List Nat := (s.clustersOf li).filter fun c => 384 < s.segsOf c

/-- The largest value of 1 to `hi` that satisfies a test that small values satisfy, by halving. -/
def largest (ok : Nat → Bool) : Nat → Nat → Nat → Nat
  | 0, lo, _ => lo
  | n + 1, lo, hi =>
    if hi ≤ lo then lo
    else
      let mid := (lo + hi + 1) / 2
      if ok mid then largest ok n mid hi else largest ok n lo (mid - 1)

/-- Reduce a layer until its clusters fit: taps, then the source extent along each head part that does
not fit; none when it cannot fit (R105, R106). The layer stands at its requested taps and full extent. -/
def State.reduce (s : State) (li : Nat) : Option State :=
  let l := s.layer li
  let withTaps (t : Nat) : State := s.setLayer li { l with taps := t }
  match ([6, 4, 2].filter (· ≤ l.taps)).find? fun t => ((withTaps t).overfull li).isEmpty with
  | some t => some (withTaps t)
  | none =>
    let s := withTaps 2
    let l := s.layer li
    if (s.clustersOf li).any fun c => 384 < s.segsLeast li c then none
    else
      let bad := (s.partsOf li).filter fun p => (s.overfull li).contains (p.head / 4)
      let cutTo (w h : Nat) : State := s.setLayer li { l with cutW := w, cutH := h }
      let minW := if bad.any (·.along.cols) then 1 else l.cutW
      let minH := if bad.any (!·.along.cols) then 1 else l.cutH
      let w := largest (fun w => ((cutTo w minH).overfull li).isEmpty) 17 minW l.cutW
      let h := largest (fun h => ((cutTo w h).overfull li).isEmpty) 17 minH l.cutH
      some (cutTo w h)

/-! ## Clamping a placement (R56, R57, R92) -/

/-- Granularity of the source rectangle: columns, lines (R92). -/
def srcGrain (f : Nat) : Nat × Nat := (if fmt420 f ∨ f = 7 then 2 else 1, if fmt420 f then 2 else 1)

/-- Clamp an origin and a size into a buffer axis, the origin first (R56, R92). -/
def clampSrc (g total o n : Nat) : Nat × Nat :=
  let o := min (o / g * g) (total - g)
  (o, clampN g (total - o) (ceilDiv n g * g))

/-- The placement applied for a requested one against a buffer. -/
def clampPlace (src : Source) (p : Place) : Place :=
  let g := srcGrain src.format
  let x := clampSrc g.1 src.width p.srcX p.srcW
  let y := clampSrc g.2 src.height p.srcY p.srcH
  let orient := if p.orient ≤ 3 then p.orient else 0
  let sw := if turned orient then y.2 else x.2
  let sh := if turned orient then x.2 else y.2
  { srcX := x.1, srcW := x.2, srcY := y.1, srcH := y.2
    dstX := clampI (-65536) 131071 p.dstX, dstY := clampI (-65536) 131071 p.dstY
    dstW := clampN (ceilDiv sw 8) (min 65536 (16 * sw)) p.dstW
    dstH := clampN (ceilDiv sh 8) (min 65536 (16 * sh)) p.dstH
    z := min 15 p.z, orient, mirror := p.mirror }

/-- A placement as the words of LAYER.PLACE after the layer ID. -/
def Place.words (p : Place) : List Nat :=
  [p.srcX, p.srcY, p.srcW, p.srcH, ofS 32 p.dstX, ofS 32 p.dstY, p.dstW, p.dstH, p.z, p.orient, b2n p.mirror]

/-- The placement that the words of LAYER.PLACE request. -/
def Cmd.place (c : Cmd) : Place :=
  { srcX := c.p 1, srcY := c.p 2, srcW := c.p 3, srcH := c.p 4, dstX := c.pS 5, dstY := c.pS 6, dstW := c.p 7
    dstH := c.p 8, z := c.p 9, orient := c.p 10, mirror := c.p 11 ≠ 0 }

/-! ## Placement rules (R52, R59, R87) -/

/-- Most ordinary layers a head may have: 16, or 32 in the two stacks of a deep pair (R59, R540). -/
def Head.layerLimit (h : Head) : Nat := if h.deep.isSome then 32 else 16

/-- Heads on which the layers or a linear buffer break a placement rule, lowest first: the head, and the
number of its layers where that is too large (R52, R59, R87). -/
def State.badHeads (s : State) : List (Nat × Nat) :=
  s.heads.filterMap fun e =>
    let on := s.layersOn e.1
    if e.2.layerLimit < on.length then some (e.1, on.length)
    else if on.any fun i =>
        let l := s.layer i
        !l.source.tiled && !l.direct && (turned e.2.orient || turned l.applied.orient ≠ turned e.2.orient)
      then some (e.1, 0) else none

/-- Go on when no head breaks a placement rule that it did not break before (R59, R87). -/
def withPlacing (old new : State) (k : Res) : Res :=
  match new.badHeads.find? fun e => !((old.badHeads).contains e) with
  | none => k
  | some e => if e.2 = 0 then placementRule (new.scopeOf 4 e.1)
              else .notAdmitted 0 (noSlot (new.scopeOf 4 e.1)) e.2 (new.head e.1).layerLimit

/-! ## Holders of a mirrored layer (R66, R540) -/

/-- The placement of a layer, none where it is not placed. -/
def Layer.placing (l : Layer) : Option Place := l.requested.map fun _ => l.applied

/-- Whether a layer meets a deep pair whose other head lies in a package (R540). -/
def State.deepWith (s : State) (l : Layer) (p : Nat) : Bool :=
  s.heads.any fun e => e.2.deepOwner && (e.2.deep.map (· / 128)) = some p && l.meets e.2

/-- Packages that hold a layer as placed: those present with a head part of it, and the partner's package of a deep pair
that it meets (R66, R540). -/
def State.holdersOf (s : State) (li : Nat) (l : Layer) : List Nat :=
  if l.requested.isNone then []
  else s.present.filter fun p => Config.headPart s.freeCtr (8 * li + p) || s.deepWith l p

/-- Whether a layer is mirrored into another package: on a master by its holders, which a new placement has decided anew
after the command; on a follower where the master flips it (R66; assumption 83). -/
def State.mirrored (s : State) (li : Nat) : Bool :=
  let l := s.layer li
  if s.isMaster then !(if l.placing = l.heldFor then l.holders else s.holdersOf li l).isEmpty else l.shared

/-! ## Direct layers (R260) -/

/-- The Heel that a head follows: its group's, or its own (R302). -/
def State.heelOf (s : State) (h : Nat) : Heel :=
  if (s.head h).group < 32 then s.heel (256 + (s.head h).group) else s.heel h

/-- The condition of R260 that a direct layer breaks, as the status to refuse with. -/
def State.directFault (s : State) (li : Nat) : Option Nat :=
  let l := s.layer li
  let v := l.bindInput
  let ps := s.partsOf li
  if !l.direct then none
  else if ps.any fun p => p.head / 64 ≠ v / 8 then some stNotPermitted
  else if 2 < ps.length ∨ 1 < (s.clustersOf li).length then some stNotAdmitted
  else if ps.any fun p => (s.heelOf p.head).leader ≠ .input || (s.heelOf p.head).idx ≠ v then some stNotAdmitted
  else if ps.any fun p => p.rotated || decide (4 * p.across.size < (if p.across.cols then l.applied.srcW else l.applied.srcH)) ||
      decide (4 * (if p.across.cols then l.applied.srcW else l.applied.srcH) < p.across.size) then some stNotAdmitted
  else if s.mirrored li then some stNotAdmitted
  else if s.layers.any fun e => e.1 ≠ li && e.2.direct && e.2.bindInput = v then some stNoResource
  else none

/-- Go on when no direct layer breaks a condition that it met before (R260). -/
def withDirect (old new : State) (k : Res) : Res :=
  match new.layers.findSome? fun e =>
      match new.directFault e.1 with
      | some st => if (old.layer e.1).direct ∧ old.directFault e.1 = some st then none else some st
      | none => none with
  | none => k
  | some st => if st = stNotAdmitted then placementRule new.scopePkg else .err st

end Sys2Proof.Machine
end

