-- ==== Sys2Proof/Machine/Ramps.lean ====
section
/-! DEFINITION. Ramps of a synthesizer (R292-R294). -/

namespace Sys2Proof.Machine

/-! Frequencies are in mHz, times in µs, slopes in ppm/ms, and a shift in ppm is a fraction of naturals. -/

/-- A fraction. -/
abbrev Frac := Nat × Nat

/-- The sum of two fractions. -/
def fracAdd (a b : Frac) : Frac := (a.1 * b.2 + b.1 * a.2, a.2 * b.2)
/-- The difference of two fractions, not below 0. -/
def fracSub (a b : Frac) : Frac := (a.1 * b.2 - b.1 * a.2, a.2 * b.2)
/-- The product of two fractions. -/
def fracMul (a b : Frac) : Frac := (a.1 * b.1, a.2 * b.2)
/-- Whether a fraction is at most another. -/
def fracLe (a b : Frac) : Bool := a.1 * b.2 ≤ b.1 * a.2

/-- A profile of R292: its whole shift in ppm, its slope and its acceleration time. -/
structure Profile where
  whole : Frac
  s : Nat
  ta : Nat
  deriving DecidableEq, Repr

/-- The slope reaches `s`: linear, or Ta > 0 with a shift of at least s × Ta. -/
def Profile.reaches (p : Profile) : Bool := p.ta = 0 || fracLe (p.s * p.ta, 1000) p.whole

/-- Duration of a profile in µs; the square root is taken to 2^-20 µs. -/
def Profile.time (p : Profile) : Frac :=
  if p.reaches then fracAdd (1000 * p.whole.1, p.s * p.whole.2) (p.ta, 1)
  else (Nat.sqrt (4 * p.whole.1 * p.ta * 1000 * 2 ^ 40 / (p.s * p.whole.2)), 2 ^ 20)

/-- Shift reached after `t` µs, before the end of the profile. -/
def Profile.shift (p : Profile) (t : Nat) : Frac :=
  let rest := fracSub p.time (t, 1)
  let rise (x : Frac) : Frac := fracMul (p.s, 2000 * p.ta) (fracMul x x)
  if p.ta = 0 then (p.s * t, 1000)
  else if p.reaches then
    (if t ≤ p.ta then rise (t, 1)
     else if fracLe (p.ta, 1) rest then (p.s * (2 * t - p.ta), 2000)
     else fracSub p.whole (rise rest))
  else if fracLe (t, 1) rest then rise (t, 1) else fracSub p.whole (rise rest)

/-- Slope after `t` µs, in ppm/ms. -/
def Profile.slopeAt (p : Profile) (t : Nat) : Nat :=
  let rest := fracSub p.time (t, 1)
  let lim (x : Frac) : Nat := min p.s (p.s * x.1 / (max 1 p.ta * x.2))
  if p.ta = 0 then p.s else min (lim (t, 1)) (lim rest)

/-- A frequency moved by a shift in ppm. -/
def shifted (f : Nat) (up : Bool) (x : Frac) : Nat :=
  let d := (f * x.1 + 500000 * x.2) / (1000000 * x.2)
  if up then f + d else f - d

/-- Time that a ramp which starts with a slope takes to bring that slope to 0, and the frequency it then has:
the new profile starts there (R293; DESIGN CHOICE, assumption 25). -/
def Ramp.rest (r : Ramp) : Nat × Nat :=
  let t := r.s0.natAbs * r.ta / max 1 r.slope
  (t, shifted r.f0 (0 ≤ r.s0) (r.s0.natAbs * t, 2000))

/-- The profile of a ramp, from the frequency at which its slope is 0. -/
def Ramp.profile (r : Ramp) : Profile :=
  let f := r.rest.2
  let d := if f ≤ r.f1 then r.f1 - f else f - r.f1
  ⟨(d * 1000000, max 1 f), max 1 r.slope, r.ta⟩

/-- A ramp has reached its target. -/
def Ramp.over (r : Ramp) : Bool := fracLe r.profile.time (r.us - r.rest.1, 1) && r.rest.1 ≤ r.us

/-- Instantaneous frequency of a ramp. -/
def Ramp.freq (r : Ramp) : Nat :=
  let t0 := r.rest.1
  if r.us < t0 then shifted r.f0 (0 ≤ r.s0) (r.s0.natAbs * r.us * (2 * t0 - r.us), 2000 * max 1 t0)
  else if r.over then r.f1
  else shifted r.rest.2 (r.rest.2 ≤ r.f1) (r.profile.shift (r.us - t0))

/-- Instantaneous slope of a ramp. -/
def Ramp.slopeNow (r : Ramp) : Int :=
  let t0 := r.rest.1
  if r.us < t0 then r.s0 * ((t0 - r.us : Nat) : Int) / (max 1 t0 : Nat)
  else
    let v : Int := (r.profile.slopeAt (r.us - t0) : Nat)
    if r.rest.2 ≤ r.f1 then v else -v

/-- A ramp to a new target: from rest, or from the frequency and slope of the ramp in progress (R293). -/
def Synth.rampTo (y : Synth) (f0 f1 slope ta : Nat) : Ramp :=
  match y.ramp with
  | some r => { f0 := r.freq, f1, slope, ta, s0 := r.slopeNow, us := 0 }
  | none => { f0, f1, slope, ta }

end Sys2Proof.Machine
end

