-- ==== Sys2Proof/Machine/CmdClk.lean ====
section
/-! DEFINITION. The CLK and MEM commands, and what clocks and Heels share (R279-R308, R332, R384, R385). -/

namespace Sys2Proof.Machine

/-! ## Synthesizer settings (R283-R285) -/

/-- A setting N, F, P of a synthesizer. -/
structure SynSet where
  n : Nat
  f : Nat
  p : Nat
  deriving DecidableEq, Repr

/-- `round(2^24 * f * P / 25 MHz)` for a frequency of `num / den` Hz, as N and F (R284). -/
def synRound (num den p : Nat) : SynSet :=
  let x := (2 ^ 25 * num * p + 25000000 * den) / (2 * 25000000 * den)
  ⟨x / 2 ^ 24, x % 2 ^ 24, p⟩

/-- F within 16,384 of 0 or of 2^24 (R284). -/
def nearInt (f : Nat) : Bool := f ≤ 16384 || 2 ^ 24 ≤ f + 16384

/-- The setting of a pixel synthesizer for `num / den` Hz (R284). -/
def pixelSet (num den : Nat) : SynSet :=
  let p := clampN 2 512 (6000000000 * den / max 1 num)
  let a := synRound num den p
  if nearInt a.f ∧ 3000000000 * den ≤ num * (p - 1) ∧ 3 ≤ p then synRound num den (p - 1) else a

/-- The setting of a region synthesizer, P fixed at 8 (R283). -/
def regionSet (hz : Nat) : SynSet := synRound hz 1 8

/-- The setting of a memory synthesizer at a per-pin rate in Mbit/s: half the rate, with P 4, 3, 2 and 2
(R283). -/
def memorySet (mbit : Nat) : SynSet :=
  synRound (mbit * 500000) 1 (if mbit = 3200 then 4 else if mbit = 4800 then 3 else 2)

/-- Default seed of synthesizer k (R285). -/
def defaultSeed (k : Nat) : Nat := (k + 1) * 0x29A5B % 2 ^ 23

/-- Seed in force of a synthesizer. -/
def Synth.seedOf (y : Synth) (k : Nat) : Nat := if y.seed = 0 then defaultSeed k else y.seed

/-- The die of a synthesizer (R285). -/
def synthDie (k : Nat) : Nat :=
  if k < 128 then k / 64 else if k < 136 then (k - 128) / 4 else if k < 138 then k - 136 else k - 138

/-- The synthesizer of record r of a die (R308). -/
def synthOfRecord (d r : Nat) : Nat :=
  if r < 64 then 64 * d + r else if r < 68 then 128 + 4 * d + (r - 64) else if r = 68 then 136 + d else 138 + d

/-- Begin a lock to a setting: the consumer runs on the holding clock until the lock is confirmed, and a
waiting seed is loaded (R285, R289). -/
def Synth.relock (y : Synth) (a : SynSet) (mhz : Nat) : Synth :=
  let y := match y.nextSeed with
    | some (sd, dith) => { y with seed := sd, ditherOff := !dith, nextSeed := none }
    | none => y
  { y with target := mhz, n := a.n, frac := a.f, p := a.p, lock := false, agree := 0, disagree := 0,
           src := 1, ramp := none, loadTo := some (a.n, a.f, a.p) }

/-- The effective clock of a region in Hz: the holding clock while it runs on it (R287, R297), the lower
end of a ramp in progress (R294), else the target. -/
def State.regionF (s : State) (g : Nat) : Nat :=
  let y := s.synth (128 + g)
  let t := tget 1000000000 s.clk.regionHz g
  if y.src = 1 then 500000000
  else match y.ramp with
    | some r => min (min (r.f0 / 1000) (r.f1 / 1000)) t
    | none => t

/-- The six registers of a synthesizer's record (R308). -/
def State.synWords (s : State) (k : Nat) : List Nat :=
  let y := s.synth k
  [y.n + 65536 * y.p, y.frac, y.seedOf k + 2 ^ 23 * b2n (!y.ditherOff),
   synStat y (s.heel k).state (decide (k < 128)), y.count, ofS 32 (if k < 128 then (s.heel k).err else 0)]

/-! ## Heels (R298-R307) -/

/-- The pixel rate of a head in Hz as a fraction: the wall group's, else its mode's (R75, R143). -/
def Head.rate (h : Head) : Nat × Nat :=
  match h.groupRate with
  | some r => r
  | none => match h.mode with
    | some m => (m.rate, 1)
    | none => (0, 1)

/-- Whether a link in state UP leads to a package, or on the way to it (R529). -/
def State.leadsTo (s : State) (pkg : Nat) : Bool :=
  (List.range 8).any fun b => s.birtonState b = 1 && (s.birton b).state = 3 &&
    (((s.birton b).partner.map (·.pkg)) = some pkg || s.casc.members.any fun m => m.1 = pkg && m.2.1 = b)

/-- Whether a leader is valid (R300). A head of another package has the index 1,024 + 128 × package + head. -/
def State.leaderValid (s : State) (k : LeaderKind) (i : Nat) : Bool :=
  match k with
  | .none => false
  | .genlock => s.clk.genlock.enable && s.clk.genlock.valid
  | .input => (s.input i).acquired
  | .head => if i < 128 then (s.head i).running && s.headState i = 1 else s.leadsTo (i / 128 - 8)
  | .master => s.cSession && !s.casc.timingLost && decide (s.casc.lastTiming ≠ 0)

/-- Leader kinds as the codes of CLK.HEEL (R384). -/
def LeaderKind.code : LeaderKind → Nat
  | .none => 0
  | .genlock => 1
  | .input => 2
  | .head => 3
  | .master => 4

/-- The leader kind of a code. -/
def LeaderKind.ofCode : Nat → LeaderKind
  | 1 => .genlock
  | 2 => .input
  | 3 => .head
  | 4 => .master
  | _ => .none

/-- The follower as HEEL.LOCKED and COAST name it: the key of its Heel is a head, or 256 + group. -/
def State.followerScope (s : State) (key : Nat) : Nat :=
  if key < 256 then s.scopeOf 4 key else s.scopePkg

/-- Enter COAST: F is frozen at the mean of the frame periods applied over the last 16 leader periods,
the sticky bit is set and COAST is posted (R300, R305). Causes: 0 LOST, 1 RANGE, 2 REFCLK. -/
def State.coast (s : State) (key cause : Nat) : State :=
  let l := s.heel key
  let mean := if l.applied.isEmpty then l.tf else l.applied.foldl (· + ·) 0 / l.applied.length
  let s := s.setHeel key { l with state := 4, cause, tf := mean, lastEvent := none, periods := [], okCount := 0 }
  let s := if key < 128 then s.modSynth key fun y => { y with coasted := true } else s
  s.postU 0x0381 (s.followerScope key) [key, cause]

/-- The loss of a leader: every follower that has acquired it coasts, and one that has never locked
stays FREE (R300, R301, R305). -/
def State.leaderLost (s : State) (k : LeaderKind) (i cause : Nat) : State :=
  s.clk.heels.foldl (fun s e =>
    if e.2.leader = k ∧ (k = .genlock ∨ k = .master ∨ e.2.idx = i) ∧ e.2.state ≠ 0 ∧ e.2.state ≠ 4 then
      if e.2.locked ∨ e.2.state = 3 ∨ cause ≠ 1 then s.coast e.1 cause
      else s.setHeel e.1 { e.2 with state := 0, periods := [], okCount := 0 }
    else s) s

/-- The leader is valid: followers in FREE or COAST begin to acquire its frequency (R300, R306). -/
def State.leaderBack (s : State) (k : LeaderKind) (i : Nat) : State :=
  s.clk.heels.foldl (fun s e =>
    if e.2.leader = k ∧ (k = .genlock ∨ k = .master ∨ e.2.idx = i) ∧ (e.2.state = 0 ∨ e.2.state = 4) then
      s.setHeel e.1 { e.2 with state := 1, periods := [], lastEvent := none, okCount := 0, cycle := 0 }
    else s) s

/-- The head that a head follows, itself or through its wall group (R302, R303). -/
def State.headLeader (s : State) (h : Nat) : Option Nat :=
  let l := if (s.head h).group < 32 then s.heel (256 + (s.head h).group) else s.heel h
  if l.leader = .head then some l.idx else none

/-- How many heads lie above a head in its chain of leaders, up to the fuel (R303). -/
def State.chainDepth (s : State) : Nat → Nat → Nat
  | 0, _ => 0
  | n + 1, h => match s.headLeader h with
    | some l => 1 + s.chainDepth n l
    | none => 0

/-- No chain of followers is deeper than 4, so that none is a cycle (R303). -/
def State.chainsOk (s : State) : Bool := (List.range 128).all fun h => s.chainDepth 6 h ≤ 4

/-- Set a Heel from the applied words of CLK.HEEL: leader kind and index, M, D, offset, slope, Ta, return
mode, slew rate (R299). A change of leader or ratio starts over. -/
def State.setHeelWords (s : State) (key : Nat) (w : List Nat) : State :=
  let l := s.heel key
  let kind := LeaderKind.ofCode (w.getD 2 0)
  let idx := w.getD 3 0
  let m := w.getD 4 1
  let d := w.getD 5 1
  let same := l.leader = kind ∧ l.idx = idx ∧ l.m = m ∧ l.d = d
  let l := { l with
    leader := kind, idx, m, d, offset := toS 32 (w.getD 6 0), slope := w.getD 7 100, ta := w.getD 8 1000
    resync := w.getD 9 0 = 1, slew := w.getD 10 200 }
  s.setHeel key (if same then l else
    { l with state := if kind ≠ .none ∧ s.leaderValid kind idx then 1 else 0
             periods := [], applied := [], lastEvent := none, okCount := 0, cycle := 0, locked := false })

/-! ## CLK commands (R384) -/

/-- CLK.SEED (R285, R384). A number beyond 139 names no synthesizer (DEDUCED, assumption 15). -/
def bodyClkSeed : Body := fun _ c s => withLen c 3
  (let k := c.p 0
   let seed := max 1 (min (2 ^ 23 - 1) (c.p 1))
   let d := min 1 (c.p 2)
   if 140 ≤ k then .err stNotPresent
   else withUnit (s.dieState (synthDie k))
     (applied c.params [k, seed, d] [] (s.modSynth k fun y => { y with nextSeed := some (seed, d = 1) })))

/-- Target of CLK.REGION, clamped (R294). -/
def regionTarget (c : Cmd) : Nat := clampN 400000000 1100000000 (c.p 0)

/-- CLK.REGION waits for admission (R31, R294). -/
def bodyClkRegion : Body := fun _ c _ => withLen c 1 .admission

/-- Take an admitted region step: a ramp from the present frequency, or from the ramp in progress with no
step in frequency or slope (R292-R294). -/
def State.startRegion (s : State) (g hz : Nat) : State :=
  let y := s.synth (128 + g)
  let old := tget 1000000000 s.clk.regionHz g
  let r := y.rampTo (old * 1000) (hz * 1000) 100000 100
  let s := { s with clk := { s.clk with regionHz := tset s.clk.regionHz g hz } }
  if hz = old ∧ y.ramp.isNone then s
  else s.setSynth (128 + g) { y with ramp := some r, target := r.f0 }

/-- CLK.REGION at its admission: the region ramps (R294). -/
def judgeClkRegion : Body := fun _ c s => applied c.params [regionTarget c] [] (s.startRegion c.idx (regionTarget c))

/-- The applied words of CLK.HEEL: clamped as R299 states, an unknown leader or index taken as NONE. -/
def heelWords (c : Cmd) : List Nat :=
  let kind := if c.p 2 ≤ 4 ∧ !((c.p 2 = 2 ∧ 16 ≤ c.p 3) ∨ (c.p 2 = 3 ∧ 1024 ≤ c.p 3)) then c.p 2 else 0
  [min 1 (c.p 0), c.p 1, kind, if kind = c.p 2 then c.p 3 else 0, clampN 1 65535 (c.p 4),
   clampN 1 65535 (c.p 5), ofS 32 (clampI (-100000000) 100000000 (c.pS 6)), clampN 1 1000 (c.p 7),
   min 100000 (c.p 8), if c.p 9 = 1 then 1 else 0, clampN 10 5000 (c.p 10)]

/-- The leader that an index of HEAD names: a head of the package itself, or of another one. The master names every
head by 128 × package + head; on a package's own ports an index below 128 is its own head (R539; DEDUCED, assumption
27). -/
def State.leaderHead (s : State) (port i : Nat) : Nat :=
  if i / 128 = s.cfg.pkgId ∨ (port ≠ 18 ∧ i < 128) then i % 128 else 1024 + i

/-! ### Line streams of deep pairs (R539, R542) -/

/-- The link of a head's die that joins it to another package. -/
def State.pairLink (s : State) (h p : Nat) : Option Nat :=
  ((List.range 4).map (4 * (h / 64) + ·)).find? fun b => s.birtonUp b && ((s.birton b).partner.map (·.pkg)) = some p

/-- The head of another package that a head may become the deep partner of: the one that it heels to. Whether that
package holds the other conditions is a free value (R539; assumption 7). -/
def State.deepAim (s : State) (h : Nat) : Option Nat :=
  let d := s.head h
  let l := s.heel h
  if l.leader = .head ∧ 1024 ≤ l.idx ∧ l.m = 1 ∧ l.d = 1 ∧ (d.pendingBind.getD d.bind).link = 255 ∧ d.pair.isNone ∧
    32 ≤ d.group ∧ Config.peerReady s.freeCtr h then some (l.idx - 1024) else none

/-- The other head of a deep pair that is formed or may form, and whether its package composes the line stream. -/
def State.streamOf (s : State) (h : Nat) : Option (Nat × Bool) :=
  let d := s.head h
  if d.deepOwner then d.deep.map (·, true) else ((s.deepAim h).or d.deep).map (·, false)

/-- The line stream of a head: its link, the package that sends it, and its bytes per second (R542). -/
def State.streamAt (s : State) (h : Nat) : Option (Nat × Nat × Q) :=
  let d := s.head h
  match s.streamOf h, d.pendingMode.or d.mode with
  | some (j, into), some m =>
    let r := d.groupRate.getD (m.rate, 1)
    (s.pairLink h (j / 128)).map fun b =>
      (b, if into then j / 128 else s.cfg.pkgId, Q.mk' (9 * m.wa * r.1) (max 1 (r.2 * m.htot)))
  | _, _ => none

/-- Bytes per second of the line streams of a link (R542). -/
def State.streamRate (s : State) (b : Nat) : Q :=
  Q.sum (s.heads.filterMap fun e => match s.streamAt e.1 with
    | some x => if x.1 = b then some x.2.2 else none
    | none => none)

/-- 75 % of the payload rate of a link, in bytes per second (R526, R542). -/
def BLink.streamLimit (l : BLink) : Q := Q.mk' (3 * l.rate * l.lanes * 1000000000 * (64 * 64 * 32)) (32 * (66 * 72 * 34))

/-- The first head with a stream on a link whose line streams a change raises above the limit: the unit, and what is
needed and available in MB/s, as a refusal gives them (R162, R542). -/
def State.streamOver (old new : State) : Option (Nat × Nat × Nat) :=
  new.heads.findSome? fun e => match new.streamAt e.1 with
    | none => none
    | some x =>
      let a := new.streamRate x.1
      let lim := (new.birton x.1).streamLimit
      if lim.lt a && (old.streamRate x.1).lt a then
        some (noSlot x.2.1, ceilDiv a.num (max 1 a.den * 1000000), lim.num / (max 1 lim.den * 1000000))
      else none

/-- Go on when no link's line streams rise above the limit (R542). -/
def withStreams (old new : State) (k : Res) : Res :=
  match old.streamOver new with
  | some x => .notAdmitted 0 x.1 x.2.1 x.2.2
  | none => k

/-- CLK.HEEL (R299, R302, R303, R307, R384, R539). -/
def bodyClkHeel : Body := fun port c s =>
  (let w := heelWords c
   let grp := w.getD 0 0 = 1
   let key := if grp then 256 + c.p 1 else c.idx
   let kind := w.getD 2 0
   let idx := if kind = 3 then s.leaderHead port (w.getD 3 0) else w.getD 3 0
   let away := decide (kind = 3 ∧ 128 ≤ idx)
   if grp ≠ (c.level = 0) then .err stNotPermitted
   else if grp ∧ 32 ≤ c.p 1 then .err stNoResource
   else if s.role = 2 ∧ port ≠ 18 ∧ (grp ∨ kind = 4 ∨ away) then .err stNotPermitted
   else
     let k : Res :=
       if kind = 3 ∧ !away ∧ !s.mayRead 2 idx c.master then .denied 2 idx
       else if kind = 2 ∧ s.inputState idx ≠ 1 ∨ kind = 3 ∧ !away ∧ s.headState idx = 0 then .err stNotPresent
       else if away ∧ !s.cSession ∧ !s.isMember ((idx - 1024) / 128) then .err stNotPresent
       else if kind = 3 ∧ !away ∧ s.headState idx ≠ 1 then .err stFaulted
       else
         let w' := w.set 3 idx
         let s' := s.setHeelWords key w'
         if !s'.chainsOk then
           placementRule (if grp then s.scopePkg else s.scopeOf 4 c.idx)
         else
           let put : Res := if key < 128 ∧ (s.head key).stretching then
               applied c.params w [] (s.modHeel key fun l => { l with held := some w' })
             else withDirect s s' (applied c.params w [] s')
           if away then withStreams s s' put else put
     if c.level = 4 then withWrite s c 2 c.idx (withLen c 11 k) else withLen c 11 k)

/-- CLK.GENLOCK (R304, R384): disabling makes the leader invalid. -/
def bodyClkGenlock : Body := fun _ c s => withLen c 3
  (let w := [min 1 (c.p 0), min 1 (c.p 1), clampN 5000 1000000000 (c.p 2)]
   let g := s.clk.genlock
   let same := g.enable = (c.p 0 ≠ 0) ∧ g.falling = (c.p 1 ≠ 0) ∧ g.tg = clampN 5000 1000000000 (c.p 2)
   let g' : Genlock := if same then g else
     { enable := c.p 0 ≠ 0, falling := c.p 1 ≠ 0, tg := clampN 5000 1000000000 (c.p 2), glitches := g.glitches }
   let s' := { s with clk := { s.clk with genlock := g' } }
   applied c.params w [] (if g.valid ∧ !g'.valid then s'.leaderLost .genlock 0 0 else s'))

/-- Whether a reaction word is legal for a source: no field of value 3, no reserved bit, and BLOCK_RESET
only where R461 names a block (R373, R398, R463). -/
def reactionOk (n w : Nat) : Bool :=
  w < 32 && rNotify w ≠ 3 && rReset w ≠ 3 && (rReset w ≠ 1 || canBlockReset n)

/-- Write the reaction word of a source (R398, R432). -/
def State.setReact (s : State) (n w : Nat) : State :=
  { s with faults := { s.faults with reacts := tset s.faults.reacts n (w, 1) } }

/-- CLK.REFLOST writes the reaction of source 2, as FAULT.REACT would (R384, R462). -/
def bodyClkReflost : Body := fun _ c s => withLen c 1
  (if reactionOk 2 (c.p 0) then applied c.params c.params [] (s.setReact 2 (c.p 0)) else .err stRange)

/-- CLK.READ (R308, R384). -/
def bodyClkRead : Body := fun _ c s => withLen c 1
  (if 70 ≤ c.p 0 then .err stNotPresent else .ok false (s.synWords (synthOfRecord c.idx (c.p 0))) s)

/-! ## MEM commands (R385) -/

/-- The rate MEM.RATE applies: the nearest of four, the lower on ties (R332, R357). -/
def memTarget (c : Cmd) : Nat := nearest 3200 [3200, 4800, 6400, 8000] (c.p 0)

/-- MEM.RATE replies BUSY during a change of the die, and else waits for admission (R332). -/
def bodyMemRate : Body := fun _ c s => withLen c 1
  (if (s.memRate c.idx).target.isSome then .err stBusy else .admission)

/-- MEM.RATE at its admission: the idle memory core begins to lock at the new rate; the reply waits for the
end of the step (R296, R332, R376). -/
def judgeMemRate : Body := fun port c s => .wait (s.modMemRate c.idx fun r =>
  { r with target := some (memTarget c), phase := 0, issuer := some (port, c.tag) })

/-- MEM.ROWPROT: the threshold applies from the next refresh window (R328). -/
def bodyMemRowprot : Body := fun _ c s => withLen c 1
  (applied c.params [clampN 256 8192 (c.p 0)] []
    { s with mem := { s.mem with rowprotNext := clampN 256 8192 (c.p 0) } })

/-- MEM.ERRLOG: the entries are read before a clear takes effect (R338, R385). -/
def bodyMemErrlog : Body := fun _ c s => withLen c 3
  (let first := min 63 (c.p 0)
   let count := clampN 1 30 (c.p 1)
   let clear := min 1 (c.p 2)
   let r := s.region c.idx
   let es := (r.log.drop first).take count
   if clear = 1 ∧ c.cls = clsV then .err stNotPermitted
   else .ok (c.params ≠ [first, count, clear]) ([r.overwrites, es.length] ++ es.flatten)
     (if clear = 1 then s.setRegion c.idx { r with log := [], overwrites := 0 } else s))

/-- Skipped retraining steps of the pseudo-channels of a list. -/
def State.skipsOf (s : State) (l : List Nat) : Nat := min (2 ^ 32 - 1) (l.foldl (fun a p => a + (s.pc p).skipTotal) 0)

/-- Shadow buffers in use in a region. -/
def State.shadowsOf (s : State) (g : Nat) : Nat :=
  (List.range 16).foldl (fun a p => a + (s.pc (16 * g + p)).shadows.length) 0

/-- MEM.READ (R385). -/
def bodyMemRead : Body := fun _ c s => withLen c 0
  (let gs := (List.range 4).map (4 * c.idx + ·)
   .ok false ([(s.memRate c.idx).mbit] ++ gs.map (fun g => (s.pcsOf g).length) ++ gs.map s.shadowsOf ++
     [s.skipsOf ((List.range 64).map (64 * c.idx + ·))]) s)

end Sys2Proof.Machine
end

