-- ==== Sys2Proof/Machine/CmdFault.lean ====
section
/-! DEFINITION. The FAULT and IRQ commands (R398, R399, R461-R478). -/

namespace Sys2Proof.Machine

/-! ## FAULT (R398, R431, R476) -/

/-- The record that a FAULT command names: a region's collector, or a block of a die; package level is D0
(R398, R472). -/
def Cmd.record (c : Cmd) : Nat :=
  if c.level = 2 then c.idx else dieRec (if c.level = 1 then c.idx else 0) (c.p 0)

/-- Go on when the block number is one of 0-15; it is ignored at region level. -/
def withRecord (c : Cmd) (k : Res) : Res := if c.level = 2 ∨ c.p 0 < 16 then k else .err stRange

/-- FAULT.READ. -/
def bodyFaultRead : Body := fun _ c s => withLen c 1 (withRecord c
  (let r := s.frec c.record
   .ok false (words64 r.sticky.toNat ++ words64 r.live.toNat ++ r.firstWords) s))

/-- Clear sticky bits whose live bit is 0; the first-fault record ends with the last sticky bit (R431,
R470, R471). -/
def FaultRec.clear (r : FaultRec) (mask : DWord) : FaultRec :=
  let st := r.sticky &&& ~~~(mask &&& ~~~r.live)
  { r with sticky := st, firstValid := r.firstValid && st ≠ 0 }

/-- FAULT.CLEAR; the reply tells which bits were cleared. -/
def bodyFaultClear : Body := fun _ c s => withLen c 3 (withRecord c
  (let r := s.frec c.record
   let m := BitVec.ofNat 64 (c.p64 1)
   .ok false (words64 (r.sticky &&& m &&& ~~~r.live).toNat) (s.modFrec c.record (·.clear m))))

/-- Go on with a source a safety opcode may name: reserved sources are refused, absent ones not present
(R463). -/
def withSource (s : State) (n : Nat) (k : Res) : Res :=
  if srcReserved n then .err stRange else if s.srcAbsent n then .err stNotPresent else k

/-- FAULT.REACT (R398, R462, R463). -/
def bodyFaultReact : Body := fun _ c s => withLen c 2 (withSource s (c.p 0)
  (if srcVerify (c.p 0) ∨ !reactionOk (c.p 0) (c.p 1) then .err stRange else done (s.setReact (c.p 0) (c.p 1))))

/-- FAULT.BARK: a new width applies from the next start of the pulse (R398, R478). -/
def bodyFaultBark : Body := fun _ c s => withLen c 1
  (inRange 2 250 (c.p 0) (done { s with faults := { s.faults with bark := c.p 0 } }))

/-- Raise a source as if its fault had occurred, marked injected (R476). -/
def State.inject (s : State) (n : Nat) : State :=
  if srcVerify n then s.pend n
  else match sourceBit n with
    | some (rec, b, u) => s.detectAs rec b (u + 2 ^ 31) false (some n)
    | none => s.runReaction n (s.react n) (2 ^ 31) [0, 0, 0, 2 ^ 31]

/-- FAULT.INJECT. -/
def bodyFaultInject : Body := fun _ c s => withLen c 1 (withSource s (c.p 0) (done (s.inject (c.p 0))))

/-! ## IRQ (R399, R429, R430, R436, R463-R468) -/

/-- Go on with a source that an ordinary opcode may name (R463). -/
def withOrdSource (s : State) (n : Nat) (k : Res) : Res := if s.srcLive n then k else .err stNotPresent

/-- A target word that is the reserved URGENT vector, PF0 vector 127 (R399, R428). -/
def urgentVector (w : Nat) : Bool := bits w 1 0 = 0 && bits w 5 2 = 0 && bits w 12 6 = 127

/-- The lock of a die freezes the fields that HOST and GUEST commands change (R436). -/
def State.frozenFor (s : State) (c : Cmd) (die : Nat) : Bool := s.regs.locked.contains die && c.cls ≠ clsS

/-- Target word that an ordinary IRQ.ROUTE applies. -/
def routeWord (w : Nat) : Nat := min 2 (bits w 1 0) + bits w 14 2 * 4

/-- IRQ.ROUTE: for a source with a protected reaction, or to the reserved vector, it is a reaction setting
of the S-port alone (R399, R467). -/
def bodyIrqRoute : Body := fun _ c s => withLen c 2 (withOrdSource s (c.p 0)
  (let n := c.p 0
   let w := c.p 1
   let prot := rProtected (s.react n)
   if (prot ∨ urgentVector w) ∧ c.cls ≠ clsS then .err stNotPermitted
   else if s.frozenFor c (n / 256) then .err stNotPermitted
   else if (prot ∨ urgentVector w) ∧ (bits w 1 0 = 3 ∨ 32767 < w ∨ urgentVector w) then .err stRange
   else applied [n, w % 32768] [n, routeWord w] []
     { s with irq := { s.irq with target := tset s.irq.target n (routeWord w) } }))

/-- Set the mask bit of a source. -/
def State.setMask (s : State) (n : Nat) (on : Bool) : State :=
  { s with irq := { s.irq with mask :=
      if on then s.irq.mask ||| ((1 : BitVec 512) <<< n) else s.irq.mask &&& ~~~((1 : BitVec 512) <<< n) } }

/-- IRQ.MASK. -/
def bodyIrqMask : Body := fun _ c s => withLen c 2 (withOrdSource s (c.p 0)
  (let n := c.p 0
   let prot := rProtected (s.react n)
   if prot ∧ c.cls ≠ clsS then .err stNotPermitted
   else if prot ∧ 1 < c.p 1 then .err stRange
   else applied c.params [n, min 1 (c.p 1)] [] (s.setMask n (c.p 1 ≠ 0))))

/-- IRQ.HOLDOFF: a new value applies from the next start of the timer (R468). -/
def bodyIrqHoldoff : Body := fun _ c s => withLen c 2
  (if 16 ≤ c.p 0 then .err stNotPresent
   else if s.dieState (c.p 0 / 8) = 0 then .err stNotPresent
   else if s.frozenFor c (c.p 0 / 8) then .err stNotPermitted
   else applied c.params [c.p 0, min 65535 (c.p 1)] []
     { s with irq := { s.irq with holdoff := tset s.irq.holdoff (c.p 0) (min 65535 (c.p 1)) } })

/-- The bits of 32 sources from `n` on; those of reserved and absent sources read 0 (R463). -/
def State.srcBits (s : State) (v : BitVec 512) (n : Nat) : Nat :=
  maskOf ((List.range 32).filter fun i => v.getLsbD (n + i) && s.srcLive (n + i))

/-- IRQ.READ. -/
def bodyIrqRead : Body := fun _ c s => withLen c 1
  (let n := min 480 (c.p 0 / 32 * 32)
   .ok (n != c.p 0) ([s.srcBits s.irq.pend n, s.srcBits s.irq.mask n] ++
     (List.range 32).map fun i => tget 0 s.irq.target (n + i)) s)

end Sys2Proof.Machine
end

