-- ==== Sys2Proof/Machine/Flips.lean ====
section
/-! DEFINITION. Flips and wait tokens: queueing, selection, completion (R147-R157). -/

namespace Sys2Proof.Machine

/-! ## Completions (R150, R151) -/

/-- Post FLIP.DONE to the issuer: result 0 SHOWN, 1 SKIPPED, 2 CANCELLED (R150). -/
def State.flipDone (s : State) (li : Nat) (f : Flip) (result seq : Nat) : State :=
  s.postI f.issuer 0x0780 s.scopePkg ([li, f.id, f.epoch, result, seq] ++ f.bases.flatMap words64)
    (some (li, f.id))

/-- A flip has been shown: it completes, and its planes stay in the mirror set among the last 8 (R150, R534). -/
def State.flipShown (s : State) (li : Nat) (f : Flip) (seq : Nat) : State :=
  (s.modLayer li fun l => { l with recent := (f.bases :: l.recent).take 8 }).flipDone li f 0 seq

/-- Cancel flips of a layer in queue order (R153). -/
def State.cancelFlips (s : State) (li : Nat) (which : Flip → Bool) : State :=
  let l := s.layer li
  (l.queue.filter which).foldl (fun s f => s.flipDone li f 2 0)
    (s.setLayer li { l with queue := l.queue.filter (!which ·), late := l.late && !which (l.queue.headD {}) })

/-- A flip ID is busy from its queueing until its FLIP.DONE is posted; one that is held for want of room
counts as not yet posted (R148, R358). -/
def State.flipBusy (s : State) (li id : Nat) : Bool :=
  let l := s.layer li
  l.queue.any (·.id = id) || l.showing.any (·.flip.id = id) ||
  s.ports.any fun e => (e.2.out.drop 256).any (·.flip = some (li, id))

/-- Whether a flip names no token, or its token meets its condition (R156). -/
def State.tokenMet (s : State) (f : Flip) : Bool :=
  match f.token with
  | none => true
  | some (k, n) => (tget 0 s.tokens k + 65536 - n) % 65536 < 32768

/-- Whether a flip is ready: its token meets its condition, and every holder has received it (R67, R149). -/
def State.flipReady (s : State) (f : Flip) : Bool := f.pendingHolders.isEmpty && s.tokenMet f

/-- Heads of the package that a layer intersects and whose timing runs, lowest first (R149). -/
def State.runningHeads (s : State) (li : Nat) : List Nat :=
  (s.heads.filter fun e => e.2.running && (s.layer li).meets e.2).map (·.1)

/-- The lead head of a layer (R149). -/
def State.leadHead (s : State) (li : Nat) : Option Nat := (s.runningHeads li).head?

/-- Post FLIP.LATE for the first missed frame and every 16th after it (R151). -/
def State.flipLate (s : State) (li : Nat) (f : Flip) : State :=
  if f.missed % 16 = 1 then
    s.postI f.issuer 0x0781 s.scopePkg
      [li, f.id, f.epoch, (f.token.getD (0, 0)).1, tget 0 s.tokens (f.token.getD (0, 0)).1, f.missed]
  else s

/-- Sequence number of the next frame whose configuration freezes: 0 for the first frame in a new mode
(R199). -/
def Head.comingSeq (h : Head) : Nat :=
  if h.pendingMode.isSome then 0 else if h.inFrame then (h.seq + 1) % 65536 else h.seq

/-- Select flips of a layer: the longest ready run at the head of the queue; its last flip becomes
current, the others complete SKIPPED (R149). `lead` is the lead head's coming frame; without one the new
current flip completes SHOWN at once. -/
def State.selectFlips (s : State) (li : Nat) (lead : Option Nat) : State :=
  let l := s.layer li
  let run := l.queue.takeWhile s.flipReady
  let rest := l.queue.drop run.length
  let s := match run.reverse with
    | [] => s
    | f :: older =>
      let f := { f with serial := l.selections + run.length }
      let md := (run.reverse.find? (·.dynMeta.isSome)).bind (·.dynMeta)
      let s := older.reverse.foldl (fun s o => s.flipDone li o 1 0) s
      let s := s.modLayer li fun l =>
        { l with queue := rest, current := some f, selections := f.serial, rewritten := false
                 dyn := md.or l.dyn }
      match lead with
      | none => s.flipShown li f 0
      | some h => s.modLayer li fun l => { l with showing := l.showing ++
          [{ flip := f, heads := s.runningHeads li, leadSeq := (s.head h).comingSeq }] }
  match rest, lead with
  | [], _ => s.modLayer li fun l => { l with late := false }
  | _ :: _, none => s
  | f :: t, some _ =>
    let f := { f with missed := f.missed + 1 }
    (s.modLayer li fun l => { l with queue := f :: t, late := true }).flipLate li f

/-- A layer that shows a capture ring: bound to it, or bound DIRECT with the ring as its backing (R254,
R260). -/
def State.ringOf (s : State) (l : Layer) : Option Nat :=
  let i := s.input l.bindInput
  if l.bindMode = 1 ∨ (l.bindMode = 2 ∧ i.capOn) then i.newest else none

/-- A ring buffer is shown everywhere: of the ring's buffers in use for the layer, it and later selections stay
(R255). -/
def State.ringShown (s : State) (li b : Nat) : State :=
  let later := (s.layer li).showing.filterMap (·.flip.ring)
  s.modInput (s.layer li).bindInput fun i => { i with
    inUse := i.inUse.filter fun e => e.2 ≠ li || e.1 = b || later.contains e.1 }

/-- A buffer of a layer's ring as a selection. -/
def State.ringFlip (s : State) (l : Layer) (b : Nat) : Flip :=
  let i := s.input l.bindInput
  let n := (tget (0, 0) i.stamps b).1
  { bases := i.bufs.getD b [], capStamp := n, ring := some b }

/-- The selection that a ring offers a layer: the newest complete buffer, and for a mirrored layer the newest that
every holder has received (R254, R535). -/
def State.ringOffer (s : State) (l : Layer) : Option Flip :=
  if l.holders.isEmpty then (s.ringOf l).map (s.ringFlip l)
  else (l.ringQ.filter (·.pendingHolders.isEmpty)).getLast?

/-- Select the newest complete buffer of a ring for a layer (R254, R255). -/
def State.selectRing (s : State) (li : Nat) (lead : Option Nat) : State :=
  let l := s.layer li
  match s.ringOffer l with
  | none => s
  | some f =>
    let b := f.ring.getD 0
    if (l.current.bind (·.ring)) = some b ∧ (l.current.map (·.capStamp)) = some f.capStamp then s
    else
      let f : Flip := { f with serial := l.selections + 1 }
      let s := s.setLayer li { l with
        current := some f, selections := l.selections + 1, rewritten := false
        showing := match lead with
          | some h => l.showing ++ [{ flip := f, heads := s.runningHeads li, leadSeq := (s.head h).comingSeq }]
          | none => l.showing }
      let s := s.modInput l.bindInput fun i => { i with inUse := if i.inUse.contains (b, li) then i.inUse else i.inUse ++ [(b, li)] }
      if lead.isNone then s.ringShown li b else s

/-- Make the selection of a layer without a lead head (R149). -/
def State.selectIdle (s : State) (li : Nat) : State :=
  if (s.leadHead li).isNone ∧ !(s.layer li).queue.isEmpty then s.selectFlips li none else s

/-- A head has completed a frame that showed selections of a layer up to a serial (R150). -/
def Layer.shownOn (l : Layer) (h serial : Nat) : Layer :=
  { l with showing := l.showing.map fun e =>
      if e.flip.serial ≤ serial then { e with heads := dropOf e.heads h } else e }

/-- Whether a head still has to complete a frame before a selected flip counts as shown: it runs, and
shows the layer in its frame or in the pending configuration (R150). -/
def State.owes (s : State) (li h : Nat) : Bool :=
  (s.head h).running && ((s.layer li).meets (s.head h) ||
    (match (s.head h).frozen with
    | some f => f.layers.any (·.id = li)
    | none => false) ||
    match (s.head h).coming with
    | some f => f.layers.any (·.id = li)
    | none => false)

/-- Post SHOWN for the flips of a layer that no head owes a frame any more (R150); a ring selection has no
completion (R254). -/
def State.endShowing (s : State) (li : Nat) : State :=
  let l := s.layer li
  let es := l.showing.map fun e => { e with heads := e.heads.filter (s.owes li) }
  (es.filter (·.heads.isEmpty)).foldl (fun s e => match e.flip.ring with
      | some b => s.ringShown li b
      | none => s.flipShown li e.flip e.leadSeq)
    (s.setLayer li { l with showing := es.filter (!·.heads.isEmpty) })

/-- Keep flips going after any step: completions that are due, and selections of layers without a lead
head (R149, R150). -/
def State.settleFlips (s : State) : State :=
  s.layers.foldl (fun s e =>
    let s := if e.2.showing.isEmpty then s else s.endShowing e.1
    if e.2.queue.isEmpty then s else s.selectIdle e.1) s

/-- Add to a wait token (R156). -/
def State.fireToken (s : State) (k n : Nat) : State :=
  { s with tokens := tset s.tokens k ((tget 0 s.tokens k + n) % 65536) }

end Sys2Proof.Machine
end

