-- ==== Sys2Proof/Machine/CmdLayer.lean ====
section
/-! DEFINITION. The LAYER commands (R56, R57, R85-R92, R98-R107, R114, R123, R127, R133, R147-R154,
R388, R389, R575). -/

namespace Sys2Proof.Machine

/-- Go on with the layer that the first parameter names, when the command's master may write it. -/
def withLayer (s : State) (c : Cmd) (k : Res) : Res :=
  if c.n = 0 then badLength c
  else if 1024 ≤ c.p 0 then .err stNoResource
  else withWrite s c 1 (c.p 0) k

/-! ## LAYER.PLACE and LAYER.SCALE (R56, R98, R105-R107) -/

/-- LAYER.PLACE waits for admission. -/
def bodyLayerPlace : Body := fun _ c s => withLayer s c (withLen c 12 .admission)

/-- Start a layer again from its requested taps and full extent (R105, R107). -/
def Layer.unreduced (l : Layer) : Layer :=
  { l with taps := l.scale.taps, cutW := l.applied.srcW, cutH := l.applied.srcH }

/-- Go on with a layer reduced for the Trestle; a layer that cannot fit fails check 1 (R105, R106). -/
def withReduced (s : State) (li : Nat) (k : State → Res) : Res :=
  match s.reduce li with
  | some s => k s
  | none =>
    let s := s.modLayer li fun l => { l with taps := 2 }
    let c := ((s.clustersOf li).find? fun c => 384 < s.segsLeast li c).getD 0
    .notAdmitted 1 (noSlot (s.scopeOf 3 c)) (s.segsLeast li c) 384

/-- Whether a package that is to hold a copy of a layer has no window for it that admits the mirror writer
(R66; assumption 83). -/
def State.windowless (s : State) (li : Nat) : Bool :=
  s.isMaster && s.present.any fun p =>
    Config.headPart s.freeCtr (8 * li + p) && !Config.mirrorWindow s.freeCtr (8 * li + p)

/-- Go on unless a holder of a layer has no window for its copy (R66). -/
def withHolders (s : State) (li : Nat) (k : Res) : Res := if s.windowless li then .err stNoResource else k

/-- The effect of LAYER.PLACE that admission judges. -/
def judgeLayerPlace : Body := fun _ c s =>
  let li := c.p 0
  let a := clampPlace (s.layer li).source c.place
  let s' := s.modLayer li fun l => { l with requested := some c.place, applied := a }.unreduced
  withPlacing s s' (withDirect s s' (withHolders s li (withReduced s' li fun t =>
    applied c.params (li :: a.words) (t.placeExtra li) t)))

/-- Applied words of LAYER.SCALE after the layer ID (R388). -/
def scaleWords (c : Cmd) : List Nat :=
  [nearest 2 [2, 4, 6] (c.p 1), min 15 (c.p 2), min 15 (c.p 3), min 1 (c.p 4), min 1 (c.p 5), min 1 (c.p 6)]

/-- Scaler settings as words. -/
def Scale.words (x : Scale) : List Nat :=
  [x.taps, x.hset, x.vset, b2n x.interp, b2n x.hCentred, b2n x.vCentred]

/-- Scaler settings from their words. -/
def Scale.ofWords (w : List Nat) : Scale :=
  { taps := w.getD 0 6, hset := w.getD 1 1, vset := w.getD 2 1, interp := w.getD 3 1 = 1
    hCentred := w.getD 4 0 = 1, vCentred := w.getD 5 1 = 1 }

/-- LAYER.SCALE waits for admission. -/
def bodyLayerScale : Body := fun _ c s => withLayer s c (withLen c 7 .admission)

/-- The effect of LAYER.SCALE that admission judges. -/
def judgeLayerScale : Body := fun _ c s =>
  let li := c.p 0
  let s' := s.modLayer li fun l => { l with scale := .ofWords (scaleWords c) }.unreduced
  withReduced s' li fun t => applied c.params (li :: scaleWords c) (t.placeExtra li) t

/-! ## LAYER.REMOVE and LAYER.SOURCE (R85, R107, R133, R153, R575) -/

/-- LAYER.REMOVE waits for admission, which it always passes (R160). -/
def bodyLayerRemove : Body := fun _ c s => withLayer s c (withLen c 1 .admission)

/-- A layer after LAYER.REMOVE: not placed, with the default source description and no binding. -/
def Layer.removed (l : Layer) : Layer :=
  { l with requested := none, source := defaultSource, sourced := false
           current := none, late := false, rewritten := false, bindMode := 0, nosignal := false, shared := false }

/-- Give back the ring buffers that a layer has in use (R255). -/
def State.releaseRing (s : State) (li : Nat) : State :=
  { s with inputs := s.inputs.map fun e => (e.1, { e.2 with inUse := e.2.inUse.filter (·.2 ≠ li) }) }

/-- The effect of LAYER.REMOVE. -/
def judgeLayerRemove : Body := fun _ c s =>
  done (((s.cancelFlips (c.p 0) fun _ => true).modLayer (c.p 0) Layer.removed).releaseRing (c.p 0))

/-- The format that LAYER.SOURCE applies (R89). -/
def sourceFormat (c : Cmd) : Nat := if c.p 1 ≤ 10 then c.p 1 else 0

/-- The source description that LAYER.SOURCE applies: sizes clamped, bases rounded down, strides
rounded up (R85, R86). -/
def sourceOf (c : Cmd) : Source :=
  let f := sourceFormat c
  let tiled := c.p 2 ≠ 0
  let g := srcGrain f
  let w := ceilDiv (clampN 1 65536 (c.p 3)) g.1 * g.1
  let h := ceilDiv (clampN 1 65536 (c.p 4)) g.2 * g.2
  let al := if tiled then 4096 else 256
  { format := f, tiled, width := w, height := h
    bases := (List.range (fmtPlanes f)).map fun i => c.p64 (5 + 3 * i) / al * al
    strides := (List.range (fmtPlanes f)).map fun i =>
      if tiled then c.p (7 + 3 * i)
      else max (minStride f i w) (ceilDiv (min 0xFFFFFF00 (c.p (7 + 3 * i))) 256 * 256) }

/-- A source description as the words of LAYER.SOURCE after the layer ID. -/
def Source.words (x : Source) : List Nat :=
  [x.format, b2n x.tiled, x.width, x.height] ++
    (List.range (fmtPlanes x.format)).flatMap fun i => words64 (x.bases.getD i 0) ++ [x.strides.getD i 0]

/-- Black for a format family, opaque (R133). -/
def blackFill (f : Nat) (full : Bool) : Fill :=
  if fmtYcc f then { c0 := if full then 0 else 4096, c1 := 32768, c2 := 32768 } else {}

/-- LAYER.SOURCE waits for admission. -/
def bodyLayerSource : Body := fun _ c s =>
  withLayer s c (withLen c (5 + 3 * fmtPlanes (sourceFormat c)) .admission)

/-- An applied source extent after a new buffer: an extent that was cut keeps its cut, limited to the new
source rectangle (R105, R107). -/
def keepCut (cut old new : Nat) : Nat := if cut = old then new else min cut new

/-- Give a layer a source description, as LAYER.SOURCE and INPUT.BIND do: the placement is derived again,
the fill turns black, and the current buffer is no longer valid (R107, R133, R153). -/
def Layer.resourced (l : Layer) (src : Source) : Layer :=
  let a := match l.requested with
    | some p => clampPlace src p
    | none => l.applied
  { l with
    source := src, sourced := true, applied := a, current := none, late := false
    cutW := keepCut l.cutW l.applied.srcW a.srcW, cutH := keepCut l.cutH l.applied.srcH a.srcH
    fill := blackFill src.format l.colour.full }

/-- The effect of LAYER.SOURCE that admission judges. -/
def judgeLayerSource : Body := fun _ c s =>
  let li := c.p 0
  let src := sourceOf c
  let s' := (s.cancelFlips li fun _ => true).modLayer li (·.resourced src)
  let s' := if src.format = 9 then { s' with palettes := tdel s'.palettes li } else s'
  withPlacing s s' (withDirect s s' (applied c.params (li :: src.words) [] s'))

/-! ## LAYER.FLIP (R65, R147, R148, R154) -/

/-- The flip that LAYER.FLIP names, with its bases rounded down. -/
def flipOf (port : Nat) (c : Cmd) (src : Source) : Flip :=
  let al := if src.tiled then 4096 else 256
  { id := bits (c.p 1) 15 0, epoch := bits (c.p 1) 23 16, issuer := port
    bases := (List.range (fmtPlanes src.format)).map fun i => c.p64 (6 + 2 * i) / al * al
    token := if bit (c.p 2) 8 then some (bits (c.p 2) 7 0, bits (c.p 2) 31 16) else none
    dynMeta := if bit (c.p 3) 0 then some (clampN 100 10000 (c.p 4), clampN 16384 32768 (c.p 5)) else none }

/-- Regions that hold a plane. -/
def regionsOf (bases : List Nat) : List Nat := bases.map (· / regionSpan)

/-- Queue a flip; its reply carries the applied words and the entries occupied. -/
def State.queueFlip (s : State) (port : Nat) (c : Cmd) : Res :=
  let li := c.p 0
  let l := s.layer li
  let f := flipOf port c l.source
  let s' := s.setLayer li { l with queue := l.queue ++ [f] }
  let m := f.dynMeta.getD (c.p 4, c.p 5)
  let given := [li, c.p 1 % 2 ^ 24, c.p 2 &&& 0xFFFF01FF, c.p 3 % 2] ++ c.params.drop 4
  applied given ([li, c.p 1 % 2 ^ 24, c.p 2 &&& 0xFFFF01FF, c.p 3 % 2, m.1, m.2] ++ f.bases.flatMap words64)
    [l.queue.length + 1] s'

/-- LAYER.FLIP: the checks, the ID before the queue; a flip into a region that holds no plane of the
current buffer waits for admission (R148, R154, R254). -/
def bodyLayerFlip : Body := fun port c s => withLayer s c
  (let l := s.layer (c.p 0)
   withLen c (6 + 2 * fmtPlanes l.source.format)
    (if !l.placed then .err stNoResource
     else if l.bindMode ≠ 0 then .err stNotPermitted
     else if s.role = 2 ∧ port ≠ 18 ∧ l.shared then .err stNotPermitted
     else if s.flipBusy (c.p 0) (bits (c.p 1) 15 0) then .err stTagBusy
     else if 4 ≤ l.queue.length then .err stBusy
     else if (regionsOf (flipOf port c l.source).bases).all
         (regionsOf ((l.current.map (·.bases)).getD [])).contains then s.queueFlip port c
     else .admission))

/-- The effect of LAYER.FLIP that admission judges. -/
def judgeLayerFlip : Body := fun port c s =>
  if 4 ≤ (s.layer (c.p 0)).queue.length then .err stBusy
  else if (s.layer (c.p 0)).placed then s.queueFlip port c else .err stNoResource

/-! ## LAYER.COLOUR, FILL, POLICY and PALETTE (R91, R114, R131, R133, R152) -/


/-- Applied words of LAYER.COLOUR after the layer ID, clamped as R114 states. -/
def colourWords (c : Cmd) (half : Bool) : List Nat :=
  let s14 (i : Nat) : List Nat := (List.range 9).map fun j => clampS (-131072) 131071 (c.p (i + j))
  [enumOr 4 1 (c.p 1), enumOr 2 0 (c.p 2)] ++ s14 3 ++ (List.range 3).map (fun j => min 65535 (c.p (12 + j))) ++
  [if half then 4 else enumOr 6 2 (c.p 15), min 15 (c.p 16), enumOr 4 0 (c.p 17)] ++ s14 18 ++
  [enumOr 4 0 (c.p 27), min 15 (c.p 28), clampN 100 10000 (c.p 29), clampN 16384 32768 (c.p 30),
   enumOr 3 1 (c.p 31), min 65535 (c.p 32)]

/-- Colour settings as the words of LAYER.COLOUR. -/
def Colour.words (k : Colour) : List Nat :=
  [k.matrix, b2n k.full] ++ k.coeffs.map (ofS 32) ++ k.offsets ++ [k.transfer, k.eotfSlot, k.primaries] ++
  k.gamut.map (ofS 32) ++ [k.tone, k.toneSlot, k.lm, k.knee, k.alphaMode, k.ga]

/-- Colour settings from the words of LAYER.COLOUR. -/
def Colour.ofWords (w : List Nat) : Colour :=
  { matrix := w.getD 0 1, full := w.getD 1 0 = 1, coeffs := ((w.drop 2).take 9).map (toS 32)
    offsets := (w.drop 11).take 3, transfer := w.getD 14 2, eotfSlot := w.getD 15 0, primaries := w.getD 16 0
    gamut := ((w.drop 17).take 9).map (toS 32), tone := w.getD 26 0, toneSlot := w.getD 27 0
    lm := w.getD 28 1000, knee := w.getD 29 24576, alphaMode := w.getD 30 1, ga := w.getD 31 65535 }

/-- A half-float layer's transfer function is LINEAR whatever its setting (R114). -/
def Layer.transferOf (l : Layer) : Nat := if l.source.format = 4 then 4 else l.colour.transfer

/-- LAYER.COLOUR (R114); it ends dynamic metadata (R131). -/
def bodyLayerColour : Body := fun _ c s => withLayer s c (withLen c 33
  (let w := colourWords c ((s.layer (c.p 0)).source.format = 4)
   applied c.params (c.p 0 :: w) []
     (s.modLayer (c.p 0) fun l => { l with colour := .ofWords w, dyn := none })))

/-- A fill colour as two words (R388). -/
def Fill.words (f : Fill) : List Nat := [f.c0 + 65536 * f.c1, f.c2 + 65536 * f.a]

/-- A fill colour from two words. -/
def Fill.ofWords (a b : Nat) : Fill :=
  { c0 := bits a 15 0, c1 := bits a 31 16, c2 := bits b 15 0, a := bits b 31 16 }

/-- LAYER.FILL (R133). -/
def bodyLayerFill : Body := fun _ c s => withLayer s c (withLen c 3
  (applied c.params c.params [] (s.modLayer (c.p 0) fun l => { l with fill := .ofWords (c.p 1) (c.p 2) })))

/-- LAYER.POLICY (R152). -/
def bodyLayerPolicy : Body := fun _ c s => withLayer s c (withLen c 2
  (applied c.params [c.p 0, min 2 (c.p 1)] [] (s.modLayer (c.p 0) fun l => { l with policy := min 2 (c.p 1) })))

/-- LAYER.PALETTE: entries past 255 are dropped (R91, R388). -/
def bodyLayerPalette : Body := fun _ c s => withLayer s c
  (let first := min 255 (c.p 1)
   let count := clampN 1 240 (c.p 2)
   withLen c (3 + count)
    (let n := min count (256 - first)
     let old := tget [] s.palettes (c.p 0)
     let new := tsetMany old ((List.range n).map fun i => (first + i, c.p (3 + i)))
     applied [c.p 1, c.p 2] [first, n] [] { s with palettes := tset s.palettes (c.p 0) new }))

/-! ## Coefficient sets and tables (R99, R101, R123, R127, R389) -/

/-- The order in which a phase's taps take up what is missing from 1,024, by source offset: the centre
tap, the other of 0 and 1, then outwards (R99). -/
def tapOrder (phase : Nat) : List Int :=
  (if phase < 32 then [0, 1] else [1, 0]) ++ [-1, 2, -2, 3, -3, 4]

/-- Add the difference from 1,024 to one tap after another, each clamped, until it is used up (R99). -/
def resum (first : Int) (k : List Int) : List Int → List Int
  | [] => k
  | d :: t =>
    let rest := 1024 - k.foldl (· + ·) 0
    if rest = 0 then k
    else
      let i := (d - first).toNat
      if d < first ∨ k.length ≤ i then resum first k t
      else resum first (k.set i (clampI (-2048) 2047 (k.getD i 0 + rest))) t

/-- Clamp the coefficients of one form of a phase and restore their sum; `first` is the source offset of
tap 0 (R99). -/
def fixPhase (phase : Nat) (first : Int) (k : List Int) : List Int :=
  resum first (k.map (clampI (-2048) 2047)) (tapOrder phase)

/-- Coefficients of built-in set 2 for one phase: 8 horizontal, then 6 vertical (R100). -/
def linearPhase (p : Nat) : List Int :=
  let q : Int := 16 * p
  [0, 0, 0, 1024 - q, q, 0, 0, 0, 0, 0, 1024 - q, q, 0, 0]

/-- Built-in set 2, 14 coefficients for each of the 64 phases. -/
def linearSet : List Int := (List.range 64).flatMap linearPhase

/-- Signed 16-bit halves of a word, low half first. -/
def halves (w : Nat) : List Int := [toS 16 (w % 65536), toS 16 (w / 65536)]

/-- Go on unless the staging copy of this kind holds unfinished content of another set (R389). -/
def withStage {α : Type} (st : Option (Nat × α)) (i : Nat) (k : Res) : Res :=
  match st with
  | some (j, _) => if j = i then k else .err stBusy
  | none => k

/-- LAYER.COEFSET (R99, R389). -/
def bodyLayerCoefset : Body := fun _ c s =>
  let i := clampN 3 15 (c.p 0)
  let first := min 63 (c.p 1)
  let count := clampN 1 32 (c.p 2)
  let last := min 1 (c.p 3)
  withLen c (4 + 7 * count) (withStage s.coefStage i
    (let n := min count (64 - first)
     let base := match s.coefStage with
       | some (_, l) => l
       | none => (tfind s.coefSets i).getD linearSet
     let given := (List.range n).map fun j => ((c.params.drop (4 + 7 * j)).take 7).flatMap halves
     let new := (List.range n).map fun j =>
       let k := given.getD j []
       fixPhase (first + j) (-3) (k.take 8) ++ fixPhase (first + j) (-2) (k.drop 8)
     let all := base.take (14 * first) ++ new.flatten ++ base.drop (14 * (first + n))
     let mask := maskOf (((List.range n).filter fun j => given.getD j [] ≠ new.getD j []).map (first + ·))
     let out := given.flatten.any fun k => k < -2048 ∨ 2047 < k
     .ok (out ∨ c.params.take 4 ≠ [i, first, n, last]) (words64 mask)
       (if last = 1 then { s with coefSets := tset s.coefSets i all, coefStage := none }
        else { s with coefStage := some (i, all) })))

/-- An EOTF slot that has never been loaded: LINEAR (R123). -/
def linearEotf : List Nat := (List.range 1025).map (1024 * ·)
/-- A tone slot that has never been loaded: unity gain (R127). -/
def unityTone : List Nat := List.replicate 4096 16384

/-- The content of a staged load: the staging copy, or the slot in force (R389). -/
def stagedOr (st : Option (Nat × List Nat)) (t : Tab (List Nat)) (i : Nat) (blank : List Nat) : List Nat :=
  match st with
  | some (_, l) => l
  | none => (tfind t i).getD blank

/-- Put entries into a list from an index on. -/
def splice (l : List Nat) (first : Nat) (new : List Nat) : List Nat :=
  l.take first ++ new ++ l.drop (first + new.length)

/-- LAYER.EOTFTABLE (R123, R389). -/
def bodyLayerEotftable : Body := fun _ c s =>
  let i := min 15 (c.p 0)
  let first := min 1024 (c.p 1)
  let count := clampN 1 240 (c.p 2)
  let last := min 1 (c.p 3)
  withLen c (4 + count) (withStage s.eotfStage i
    (let n := min count (1025 - first)
     let all := splice (stagedOr s.eotfStage s.eotf i linearEotf) first
       (((c.params.drop 4).take n).map (· % 2 ^ 28))
     .ok (c.params.take 4 ≠ [i, first, n, last]) [first, n]
       (if last = 1 then { s with eotf := tset s.eotf i all, eotfStage := none }
        else { s with eotfStage := some (i, all) })))

/-- LAYER.TONETABLE (R127, R389). -/
def bodyLayerTonetable : Body := fun _ c s =>
  let i := min 15 (c.p 0)
  let first := min 4095 (c.p 1)
  let count := clampN 1 480 (c.p 2)
  let last := min 1 (c.p 3)
  withLen c (4 + (count + 1) / 2) (withStage s.toneStage i
    (let n := min count (4096 - first)
     let all := splice (stagedOr s.toneStage s.tone i unityTone) first
       (((c.params.drop 4).flatMap fun w => [w % 65536, w / 65536]).take n)
     .ok (c.params.take 4 ≠ [i, first, n, last]) [first, n]
       (if last = 1 then { s with tone := tset s.tone i all, toneStage := none }
        else { s with toneStage := some (i, all) })))

/-! ## LAYER.READ (R388) -/

/-- LAYER.READ: each section in its command's layout, the layer ID included. -/
def bodyLayerRead : Body := fun _ c s =>
  if c.n = 0 then badLength c
  else if 1024 ≤ c.p 0 then .err stNoResource
  else withRead s c 1 (c.p 0) (withLen c 1
    (let li := c.p 0
     let l := s.layer li
     let f := l.current.getD {}
     .ok false (li :: l.applied.words ++ s.placeExtra li ++ li :: l.source.words ++ li :: l.scale.words ++
       li :: { l.colour with transfer := l.transferOf }.words ++ li :: l.fill.words ++ [li, l.policy] ++
       [f.id, f.epoch, l.queue.length]) s))

end Sys2Proof.Machine
end

