-- ==== Sys2Proof/Machine/Links.lean ====
section
/-! DEFINITION. What output links carry: timings, capacity, time slots, depths, the joint mode list and
training candidates (R219-R245, R391). -/

namespace Sys2Proof.Machine

/-! ## Timings (R391) -/

/-- A timing as its 7 words. -/
def Mode.words (m : Mode) : List Nat :=
  [match m.listed with
   | some i => 2 * i
   | none => 1,
   m.rate, m.wa + 65536 * m.htot, m.hss + 65536 * m.hsw, m.ha + 65536 * m.vtot, m.vss + 65536 * m.vsw,
   b2n m.hpos + 2 * b2n m.vpos]

/-- The explicit timing in the 7 words of a command from word `i` on. -/
def Cmd.timing (c : Cmd) (i : Nat) : Mode :=
  { rate := c.p (i + 1), wa := bits (c.p (i + 2)) 15 0, htot := bits (c.p (i + 2)) 31 16
    hss := bits (c.p (i + 3)) 15 0, hsw := bits (c.p (i + 3)) 31 16, ha := bits (c.p (i + 4)) 15 0
    vtot := bits (c.p (i + 4)) 31 16, vss := bits (c.p (i + 5)) 15 0, vsw := bits (c.p (i + 5)) 31 16
    hpos := bit (c.p (i + 6)) 0, vpos := bit (c.p (i + 6)) 1 }

/-- Whether a head can take a timing: active size, pixel rate, sync and blanking (R49, R391). -/
def Mode.legal (m : Mode) : Bool :=
  64 ≤ m.wa && m.wa ≤ 8192 && 64 ≤ m.ha && m.ha ≤ 8192 && 10000000 ≤ m.rate && m.rate ≤ 1500000000 &&
  m.wa + m.hss + m.hsw ≤ m.htot && m.ha + m.vss + m.vsw ≤ m.vtot && m.wa + 32 ≤ m.htot && m.ha + 3 ≤ m.vtot

/-- The fail-safe mode: 640 × 480 at 60 Hz (R227). -/
def failSafe : Mode :=
  { rate := 25175000, wa := 640, htot := 800, hss := 16, hsw := 96, ha := 480, vtot := 525, vss := 10, vsw := 2 }

/-- Frame period of a mode at its nominal rate: seconds as a fraction (R75). -/
def Mode.period (m : Mode) : Nat × Nat := (m.htot * m.vtot, m.rate)

/-- The effective commit distance of a mode at `num / den` Hz: at least two lines and 6 µs (R144). -/
def commitOf (c : Nat) (m : Option Mode) (rate : Nat × Nat) : Nat :=
  match m with
  | none => c
  | some m => max c (2 + ceilDiv (6 * rate.1) (1000000 * (m.htot * rate.2)))

/-! ## Capacity (R229, R239) -/

/-- 128b/132b coding (R219). -/
def Cand.wide (k : Cand) : Bool := 10000 ≤ k.rate
/-- Coding as the events and replies name it: 0 8b/10b, 1 128b/132b. -/
def Cand.coding (k : Cand) : Nat := b2n k.wide
/-- Payload rate P of a trained configuration in units of 100 bit/s (R229). -/
def Cand.payload (k : Cand) : Nat := k.lanes * k.rate * (if k.wide then 9671 else 8000)
/-- Whether a configuration carries `num / den` Hz at depth n (R229). -/
def Cand.carries (k : Cand) (num den n : Nat) : Bool := 1005 * 3 * n * num ≤ 995 * 100 * k.payload * den
/-- Time slots of an MST stream (R239). -/
def Cand.slots (k : Cand) (num den n : Nat) : Nat := ceilDiv (64 * 1005 * 3 * n * num) (995 * 100 * k.payload * den)

/-- The binding a head has, or takes at its next vertical blanking (R237). -/
def Head.bindP (h : Head) : Bind := h.pendingBind.getD h.bind

/-- Heads bound to a link, counting a binding that is about to change under both links (R237). -/
def State.boundTo (s : State) (l : Nat) : List Nat :=
  (s.heads.filter fun e => e.2.bind.link = l || e.2.bindP.link = l).map (·.1)

/-- Pixel rate of a head in its pending mode: the group's rate, or the mode's (R75). -/
def Head.rateP (h : Head) : Nat × Nat :=
  match h.groupRate with
  | some r => r
  | none => match h.modeP with
    | some m => (m.rate, 1)
    | none => (0, 1)

/-- Time slots that the other MST streams of a head's link use (R239). -/
def State.otherSlots (s : State) (h : Nat) (k : Cand) : Nat :=
  ((s.boundTo (s.head h).bindP.link).filter (· ≠ h)).foldl (fun a j =>
    let r := (s.head j).rateP
    a + (if (s.head j).bindP.mst ∧ !(s.head j).bindP.held ∧ (s.head j).modeP.isSome then
      k.slots r.1 r.2 ((s.head j).pendingDepth.getD (s.head j).depth) else 0)) 0

/-- Whether the link of a head carries it at a rate and depth, in SST or within the 63 slots of MST. -/
def State.carriesAt (s : State) (h : Nat) (k : Cand) (num den n : Nat) : Bool :=
  if (s.head h).bindP.mst then k.slots num den n + s.otherSlots h k ≤ 63 else k.carries num den n

/-- The trained configuration of a head's link, for a binding that is not held. -/
def State.trainedOf (s : State) (h : Nat) : Option Cand :=
  let b := (s.head h).bindP
  if b.link < 96 ∧ !b.held then (s.link b.link).trained else none

/-- Whether the trained configuration of a head's link carries `num / den` Hz at 8 bits; an untrained
link carries any (R231). -/
def State.carried (s : State) (h num den : Nat) : Bool :=
  match s.trainedOf h with
  | none => true
  | some k => s.carriesAt h k num den 8

/-- Depths a sink supports (R227). -/
def sinkDepth (d : SinkDesc) (n : Nat) : Bool := n = 8 || d.depths.contains n

/-- The depth applied: the largest of 8, 10 and 12 that is requested, supported and carried; while the
link is not trained, the one requested (R230; DEDUCED, assumption 16). -/
def State.depthFor (s : State) (h want : Nat) : Nat :=
  match s.trainedOf h with
  | none => want
  | some k =>
    let r := (s.head h).rateP
    let snk := (s.link (s.head h).bindP.link).sink
    ([12, 10, 8].find? fun n => n ≤ want && (match snk with
      | some d => sinkDepth d n
      | none => n = 8) && s.carriesAt h k r.1 r.2 n).getD 8

/-- Decide the depth of a head again: a change takes effect at the start of a vertical blanking, at once
where the timing does not run, and is posted for an armed head (R230, R574). -/
def State.setDepth (s : State) (h : Nat) : State :=
  let hd := s.head h
  let d := s.depthFor h hd.colour.depth
  if d = hd.pendingDepth.getD hd.depth then s
  else
    let s := if hd.running then s.setHead h { hd with pendingDepth := some d }
      else s.setHead h { hd with depth := d, pendingDepth := none }
    if hd.armed then
      s.postS 0x0985 (s.scopeOf 4 h) [h, d, if hd.running then (hd.seq + 1) % 65536 else hd.seq]
    else s

/-! ## Candidates (R219, R220, R232) -/

/-- Rates of DP mode, and of eDP mode, in Mbit/s per lane. -/
def dpRates : List Nat := [1620, 2700, 5400, 8100, 10000, 13500, 20000]
def edpRates : List Nat := [1620, 2160, 2430, 2700, 3240, 4320, 5400, 8100]

/-- Insert a candidate by rate, then lanes, highest first. -/
def insertCand (k : Cand) : List Cand → List Cand
  | [] => [k]
  | a :: t => if a.rate < k.rate ∨ (a.rate = k.rate ∧ a.lanes < k.lanes) then k :: a :: t else a :: insertCand k t

/-- Every combination that the sink and LINK.CONFIG allow, in list order. -/
def Link.allCands (l : Link) (d : SinkDesc) : List Cand :=
  let rates := (if l.edp then edpRates else dpRates).filter fun r => d.rates.contains r && r ≤ l.maxRate
  let lanes := [1, 2, 4].filter fun n => n ≤ d.maxLanes && n ≤ l.maxLanes
  (rates.flatMap fun r => lanes.map fun n => ({ rate := r, lanes := n } : Cand)).foldr insertCand []

/-- The rate that governs a link's training: that of a bound head's mode, or of the sink's preferred
timing (R232). -/
def State.governing (s : State) (li : Nat) (d : SinkDesc) : Option (Nat × Nat) :=
  match ((s.boundTo li).filter fun h => (s.head h).modeP.isSome).head? with
  | some h => some (s.head h).rateP
  | none => d.modes.head?.map fun m => (m.rate, 1)

/-- The candidate list of a training: those that carry the governing mode at 8 bits, or the single best
combination (R232). -/
def State.candidates (s : State) (li : Nat) : List Cand :=
  match (s.link li).sink with
  | none => []
  | some d =>
    let all := (s.link li).allCands d
    let ok := match s.governing li d with
      | none => all
      | some r => all.filter fun k => k.carries r.1 r.2 8
    if ok.isEmpty then
      match all with
      | [] => []
      | k :: t => [t.foldl (fun b x => if b.payload < x.payload then x else b) k]
    else ok

/-- The candidates from a chosen one on; one that is not in the list stands for the next lower (R392). -/
def fromCand (rate lanes : Nat) (l : List Cand) : List Cand :=
  let d := l.dropWhile fun k => rate < k.rate || (k.rate = rate && lanes < k.lanes)
  if d.isEmpty then l.drop (l.length - 1) else d

/-- Attempt limit of a candidate in ms (R233). -/
def Cand.limitMs (k : Cand) (lttprs : Nat) : Nat := if k.wide then 50 + 50 * lttprs else 10

/-! ## The joint mode list (R228) -/

/-- A sink's timing as a mode. -/
def sinkMode (m : SinkMode) : Mode :=
  { rate := m.rate, wa := m.wa, htot := m.htot, hss := m.hss, hsw := m.hsw, ha := m.ha, vtot := m.vtot
    vss := m.vss, vsw := m.vsw, hpos := m.hpos, vpos := m.vpos }

/-- Whether a timing goes before another: more active pixels, then a higher refresh rate. -/
def Mode.before (a b : Mode) : Bool :=
  if a.wa * a.ha ≠ b.wa * b.ha then b.wa * b.ha < a.wa * a.ha
  else b.rate * (a.htot * a.vtot) < a.rate * (b.htot * b.vtot)

/-- Insert an entry in list order, after its equals. -/
def insertMode (e : ModeEntry) : List ModeEntry → List ModeEntry
  | [] => [e]
  | a :: t => if e.mode.before a.mode then e :: a :: t else a :: insertMode e t

/-- The entry of a sink's timing on a trained configuration, if it may enter the list. -/
def listEntry (d : SinkDesc) (k : Cand) (m : SinkMode) : Option ModeEntry :=
  if m.unsupported ∨ m.wa < 64 ∨ 8192 < m.wa ∨ m.ha < 64 ∨ 8192 < m.ha ∨ 1500000000 < m.rate ∨
    !k.carries m.rate 1 8 then none
  else some { mode := sinkMode m, origin := m.origin, tile := m.tile
              depth := ([12, 10, 8].find? fun n => sinkDepth d n && k.carries m.rate 1 n).getD 8 }

/-- The joint mode list of a trained configuration: the preferred timing first, the others in order,
each timing once, 64 at most; the fail-safe mode alone where the base block was discarded (R227, R228). -/
def jointModes (d : SinkDesc) (k : Cand) : List ModeEntry :=
  if !d.baseOk then [{ mode := failSafe, depth := 8 }]
  else
    let es := d.modes.filterMap (listEntry d k)
    let one (l : List ModeEntry) : List ModeEntry := l.foldl (fun a e =>
      if a.any (·.mode = e.mode) then a else a ++ [e]) []
    let pref := match d.modes.head? with
      | some m => (listEntry d k m).toList
      | none => []
    ((one (pref ++ es.foldl (fun a e => insertMode e a) [])).take 64)

/-- Post LINK.MODES (R228, R404). -/
def State.postModes (s : State) (li : Nat) : State :=
  let ms := (s.link li).modes
  s.postU 0x0981 s.scopePkg ([li, ms.length] ++ (List.range ms.length).flatMap fun i =>
    let e := ms.getD i {}
    { e.mode with listed := some i }.words ++ [e.depth, e.origin])

/-- Build the list again after a training; it is posted when it changes, and after every training
(R228, R235). -/
def State.buildModes (s : State) (li : Nat) (always : Bool) : State :=
  let l := s.link li
  match l.sink, l.trained with
  | some d, some k =>
    let ms := jointModes d k
    let s' := s.setLink li { l with modes := ms, everListed := true }
    if always ∨ ms ≠ l.modes then s'.postModes li else s'
  | _, _ => s

/-! ## Places for discovery and training (R224) -/

/-- A link that holds one of its die's 16 places. -/
def Link.working (l : Link) : Bool := (l.state = 2 || l.state = 3 || l.state = 5) && !l.waiting

/-- Places in use on a die. -/
def State.placesUsed (s : State) (d : Nat) : Nat := (s.links.filter fun e => e.1 / 48 = d && e.2.working).length

/-- Put a link into DISCOVER, TRAIN or RECOVER; it waits where 16 links of its die are at work. -/
def State.enterWork (s : State) (li st : Nat) : State :=
  let s := s.modLink li fun l => { l with state := st, waiting := true, auxTries := 0, auxDefers := 0 }
  if s.placesUsed (li / 48) < 16 then s.modLink li fun l => { l with waiting := false } else s

/-- The stream of every head bound to a link stops; its timing runs on (R236). -/
def State.stopStreams (s : State) (li : Nat) : State :=
  { s with heads := s.heads.map fun e =>
      if e.2.bind.link = li then (e.1, { e.2 with streaming := false }) else e }

/-- Whether a head bound to a link is sending. -/
def State.sending (s : State) (li : Nat) : Bool := s.heads.any fun e => e.2.bind.link = li && e.2.streaming

/-- Begin the retraining that a LINK.TRAIN or LINK.CONFIG asked for, once no head of the link is sending
(R234). -/
def State.beginRetrain (s : State) (li : Nat) : State :=
  let l := s.link li
  if l.retrainAll ∧ l.state = 4 ∧ !s.sending li then
    (s.modLink li fun l => { l with retrainAll := false, trained := none }).enterWork li 3
  else s

/-- The command in progress of an opcode whose first parameter is a unit: its port and itself. -/
def State.commandOn (s : State) (op i : Nat) : Option (Nat × Cmd) :=
  s.ports.findSome? fun e => (e.2.running.find? fun c => c.op = op && c.p 0 = i).map (e.1, ·)

end Sys2Proof.Machine
end

