-- ==== Sys2Proof/Machine/CmdHead.lean ====
section
/-! DEFINITION. The HEAD commands (R49-R55, R74-R80, R115, R136, R144, R172, R230, R231, R237, R238,
R390, R391). -/

namespace Sys2Proof.Machine

/-- The heads that a command to one head applies to: both heads of a pair, Hn first (R78). -/
def State.pairHeads (s : State) (h : Nat) : List Nat :=
  match (s.head h).pair with
  | some (j, _) => [min h j, max h j]
  | none => [h]

/-! ## HEAD.PLACE (R46-R52, R79) -/

/-- The canvas gap and arrangement of a pair, from the tiled-display block of the panel of Hn (R79). -/
def State.tileOf (s : State) (h : Nat) : Nat × Nat :=
  match (s.link (s.head h).bindP.link).sink with
  | some d => d.tiled.getD (0, 0)
  | none => (0, 0)

/-- Place one head; `none` when its viewport cannot fit in the usable window (R49, R50). -/
def State.placeHead (s : State) (h ox oy orient : Nat) (mirror : Bool) : Option State :=
  let hd := { s.head h with orient, mirror }
  let v := hd.view
  if s.usableW < v.w ∨ s.usableH < v.h then none
  else some (s.setHead h { hd with ox := clampN s.wx (s.wx + s.usableW - max 1 v.w) ox
                                   oy := clampN s.wy (s.wy + s.usableH - max 1 v.h) oy })

/-- Place a pair: Hn, and Hn+1 beside or below it; `none` when the pair does not fit (R79). -/
def State.placePair (s : State) (n m arr ox oy orient : Nat) (mirror : Bool) : Option State :=
  let a := { s.head n with orient, mirror }
  let v := a.view
  let gap := (s.tileOf n).2
  let w := if arr = 0 then 2 * v.w + gap else v.w
  let h := if arr = 0 then v.h else 2 * v.h + gap
  if s.usableW < w ∨ s.usableH < h then none
  else
    let x := clampN s.wx (s.wx + s.usableW - max 1 w) ox
    let y := clampN s.wy (s.wy + s.usableH - max 1 h) oy
    let b := { s.head m with orient, mirror }
    some ((s.setHead n { a with ox := x, oy := y }).setHead m
      (if arr = 0 then { b with ox := x + v.w + gap, oy := y } else { b with ox := x, oy := y + v.h + gap }))

/-- Place a head, or both heads of its pair. -/
def State.placeAny (s : State) (h ox oy orient : Nat) (mirror : Bool) : Option State :=
  match (s.head h).pair with
  | some (j, arr) => s.placePair (min h j) (max h j) arr ox oy orient mirror
  | none => s.placeHead h ox oy orient mirror

/-- Origins of the heads of a pair, for the replies that name them (R390). -/
def State.origins (s : State) (hs : List Nat) : List Nat :=
  hs.flatMap fun h => [(s.head h).ox, (s.head h).oy]

/-- HEAD.PLACE waits for admission. -/
def bodyHeadPlace : Body := fun _ c s => withHeads s c (s.pairHeads c.idx) (withLen c 4 .admission)

/-- The effect of HEAD.PLACE that admission judges. -/
def judgeHeadPlace : Body := fun _ c s =>
  let h := c.idx
  let o := if c.p 2 ≤ 3 then c.p 2 else 0
  match s.placeAny h (c.p 0) (c.p 1) o (c.p 3 ≠ 0) with
  | none => placementRule (s.scopeOf 4 h)
  | some t =>
    let lead := (s.pairHeads h).headD h
    withPlacing s t (withDirect s t
      (applied c.params [(t.head lead).ox, (t.head lead).oy, o, min 1 (c.p 3)]
        (if (s.head h).pair.isSome then t.origins (t.pairHeads h) else []) t))

/-! ## HEAD.TIMING (R49, R75, R78, R199, R231, R295, R391) -/

/-- The timing that HEAD.TIMING applies to a head, or none where it is refused: an entry of the last list
of the bound link, or a legal explicit timing; the trained link carries it (R231, R391). -/
def State.timingFor (s : State) (h : Nat) (c : Cmd) : Option Mode :=
  let l := s.link (s.head h).bindP.link
  let m : Option Mode :=
    if bit (c.p 0) 0 then (if (c.timing 0).legal then some (c.timing 0) else none)
    else if 96 ≤ (s.head h).bindP.link ∨ !l.everListed then none
    else (l.modes[bits (c.p 0) 6 1]?).map fun e => { e.mode with listed := some (bits (c.p 0) 6 1) }
  m.filter fun m => s.carried h m.rate 1

/-- Heads of a wall group in the package (R74). -/
def State.members (s : State) (g : Nat) : List Nat := (s.heads.filter (·.2.group = g)).map (·.1)

/-- Pixel rate that gives a mode a frame period (R75). -/
def Mode.rateFor (m : Mode) (period : Nat × Nat) : Nat × Nat :=
  let n := m.htot * m.vtot * period.2
  (n / max 1 (Nat.gcd n period.1), period.1 / max 1 (Nat.gcd n period.1))

/-- A group's rate lies within 0.5 % of the mode's nominal rate and within 1.5 Gpix/s (R75). -/
def rateOk (m : Mode) (r : Nat × Nat) : Bool :=
  995 * m.rate * r.2 ≤ 1000 * r.1 && 1000 * r.1 ≤ 1005 * m.rate * r.2 && r.1 ≤ 1500000000 * r.2

/-- Settle the rate of a group member for a mode: the only member sets the group's frame period, any
other takes it (R75). `none` where the rate is refused. -/
def State.groupRateFor (s : State) (h g : Nat) (m : Mode) : Option State :=
  if 32 ≤ g then some (s.modHead h fun d => { d with groupRate := none })
  else
    match (s.grp g).period with
    | some p =>
      if ((s.members g).filter (· ≠ h)).all fun j => (s.head j).modeP.isNone then
        some ((s.modGrp g fun x => { x with period := some m.period }).modHead h fun d => { d with groupRate := none })
      else
        let r := m.rateFor p
        if rateOk m r then some (s.modHead h fun d => { d with groupRate := some r }) else none
    | none => some ((s.modGrp g fun x => { x with period := some m.period }).modHead h fun d => { d with groupRate := none })

/-- Apply a mode to a head whose timing does not run, or have it wait for the next vertical blanking
(R295, R574). A new mode restarts the frame count and the accumulators (R199, R499, R502). -/
def Head.takeMode (h : Head) (m : Mode) : Head :=
  { h with mode := some m, pendingMode := none, seq := 0, lum := [], dwell := [], frameLum := [], frameSig := []
           prevSig := [], slack := [], slackMin := 0 }

/-- Begin to run a head's synthesizer at its pixel rate: from rest, or to a frequency that needs another
P, it re-locks (R284, R289). -/
def State.tunePixel (s : State) (h : Nat) : State :=
  let r := (s.head h).rate
  if r.1 = 0 then s
  else s.modSynth h fun y => y.relock (pixelSet r.1 r.2) (r.1 * 1000 / r.2)

/-- Set a mode on one head (R78, R199, R295). -/
def State.setMode (s : State) (h : Nat) (m : Mode) : State :=
  let hd := s.head h
  if hd.modeP = some m then s
  else if hd.running then s.setHead h { hd with pendingMode := some m }
  else (s.setHead h (hd.takeMode m)).tunePixel h

/-- Set a mode on the heads of a list, with their group rates; `none` where one is refused (R75). -/
def State.setModes (s : State) (m : Mode) : List Nat → Option State
  | [] => some s
  | h :: t =>
    match (s.setMode h m).groupRateFor h (s.head h).group m with
    | some s => s.setModes m t
    | none => none

/-- Effective commit distance of a head from its own settings (R144). -/
def Head.cEff (h : Head) : Nat := commitOf h.commit h.modeP h.rateP

/-- Commit distance that a head uses: the largest of its wall group and pair (R145). -/
def State.commitFor (s : State) (h : Nat) : Nat :=
  let hs := if (s.head h).group < 32 then s.members (s.head h).group else [h]
  (hs.flatMap s.pairHeads).foldl (fun a j => max a (s.head j).cEff) (s.head h).cEff

/-- Bring the commit distances of heads without timing up to date (R145, R574). -/
def State.settleCommits (s : State) : State :=
  { s with heads := s.heads.map fun e =>
      if e.2.running then e else (e.1, { e.2 with commitNow := s.commitFor e.1 }) }

/-- HEAD.TIMING waits for admission. -/
def bodyHeadTiming : Body := fun _ c s => withHeads s c (s.pairHeads c.idx) (withLen c 7 .admission)

/-- The effect of HEAD.TIMING that admission judges. -/
def judgeHeadTiming : Body := fun _ c s =>
  let h := c.idx
  match s.timingFor h c with
  | none => placementRule (s.scopeOf 4 h)
  | some m =>
    match s.setModes m (s.pairHeads h) with
    | none => placementRule (s.scopeOf 4 h)
    | some t =>
      let hd := t.head ((t.pairHeads h).headD h)
      match t.placeAny h hd.ox hd.oy hd.orient hd.mirror with
      | none => placementRule (s.scopeOf 4 h)
      | some t =>
        let t := ((t.pairHeads h).foldl State.setDepth t).settleCommits
        let given := if bit (c.p 0) 0 then c.timing 0 else m
        withPlacing s t (withDirect s t
          (.ok (given ≠ { m with listed := given.listed }) (m.words ++
            [(t.head h).pendingDepth.getD (t.head h).depth, (t.head h).cEff]) t))

/-! ## HEAD.BIND (R33, R237-R239) -/

/-- The binding in the words of a command from word `i` on. -/
def Cmd.bind (c : Cmd) (i : Nat) : Bind :=
  { link := c.p i, mst := c.p (i + 1) ≠ 0, path := c.p (i + 2) &&& 0xFFF3 }

/-- A binding as words. -/
def Bind.words (b : Bind) : List Nat := [b.link, b2n b.mst, b.path]

/-- Whether other bindings stand in the way on the link (R237). -/
def State.bindClash (s : State) (h : Nat) (b : Bind) : Bool :=
  let others := (s.boundTo b.link).filter (· ≠ h)
  let mstOn (j : Nat) : Bool :=
    if (s.head j).bindP.link = b.link then (s.head j).bindP.mst else (s.head j).bind.mst
  if b.mst then
    others.any (fun j => !mstOn j) || 4 ≤ others.length ||
    others.any fun j => (s.head j).bindP.link = b.link && (s.head j).bindP.path = b.path
  else !others.isEmpty

/-- Whether discovery has found what the sink of a link is (R238). -/
def Link.known (l : Link) : Bool := l.state = 3 || l.state = 4 || l.state = 5

/-- Whether a sink offers an MST path (R238). -/
def SinkOffers (d : SinkDesc) (path : Nat) : Bool := d.mstCap && d.paths.contains path

/-- Put a binding into force on a head: the old link's stream stops (R237). -/
def State.putBind (s : State) (h : Nat) (b : Bind) : State :=
  let s := s.modHead h fun d => { d with bind := b, pendingBind := none, streaming := false }
  (if b.mst ∧ !b.held ∧ b.link < 96 then s.modLink b.link fun l => { l with mst := true } else s).setDepth h

/-- HEAD.BIND. -/
def bodyHeadBind : Body := fun _ c s => withWrite s c 2 c.idx (withLen c 3
  (let h := c.idx
   let b := c.bind 0
   let l := s.link b.link
   let w := [c.p 0, min 1 (c.p 1), c.p 2 &&& 0xFFF3]
   let given := [c.p 0, c.p 1, c.p 2 &&& 0xFFF3]
   let go (b : Bind) : Res :=
     let t := s.modHead h fun d => { d with pendingBind := some b }
     let r := (s.head h).rateP
     if b.mst ∧ !b.held ∧ (s.head h).modeP.isSome ∧ !t.carried h r.1 r.2 then placementRule (s.scopeOf 4 h)
     else applied given w [] (if (s.head h).running then t.setDepth h else t.putBind h b)
   if b.link = 255 then go b
   else if 96 ≤ b.link then .err stNotPresent
   else withUnit (s.linkState b.link)
     (if b.link / 48 ≠ h / 64 then .err stNotPermitted
      else if s.bindClash h b then .err stNoResource
      else if !b.mst then go b
      else match l.sink, l.known with
        | some d, true => if SinkOffers d b.path then go b else placementRule (s.scopeOf 4 h)
        | _, _ => go { b with held := true })))

/-! ## HEAD.GROUP and HEAD.PAIR (R74-R80) -/

/-- HEAD.GROUP waits for admission. -/
def bodyHeadGroup : Body := fun _ c s => withHeads s c (s.pairHeads c.idx) (withLen c 1
  (if c.p 0 < 32 ∨ c.p 0 = 255 then .admission else .err stNoResource))

/-- Put one head into a group, or take it out; the group's first member is aligned with it (R75, R76). -/
def State.joinGroup (s : State) (h g : Nat) : Option State :=
  let hd := s.head h
  if hd.group = g then some s
  else
    let alone := (s.members g).isEmpty
    let s := s.setHead h { hd with group := g, aligned := decide (g < 32) && (alone || !hd.running) }
    let s := if g < 32 ∧ alone then s.modGrp g fun x => { x with period := none } else s
    match hd.modeP with
    | some m => s.groupRateFor h g m
    | none => some (s.modHead h fun d => { d with groupRate := none })

/-- The effect of HEAD.GROUP that admission judges. -/
def judgeHeadGroup : Body := fun _ c s =>
  let h := c.idx
  match (s.pairHeads h).foldl (fun (t : Option State) j => t.bind (·.joinGroup j (c.p 0))) (some s) with
  | none => placementRule (s.scopeOf 4 h)
  | some t =>
    if !t.chainsOk then placementRule (s.scopeOf 4 h)
    else
      let t := ((t.pairHeads h).foldl State.setDepth t).settleCommits
      withDirect s t (applied c.params [c.p 0] [b2n (t.head h).aligned] t)

/-- HEAD.PAIR names Hn with n even, and waits for admission (R78). -/
def bodyHeadPair : Body := fun _ c s =>
  if c.idx % 2 = 1 then .err stNotPermitted
  else withHeads s c [c.idx, c.idx + 1] (withLen c 1 .admission)

/-- Form a pair: Hn+1 takes the mode, orientation, mirror and group of Hn and heels to it (R78). -/
def State.formPair (s : State) (n : Nat) : Option State :=
  let arr := (s.tileOf n).1
  let a := s.head n
  let s := s.modHead n fun h => { h with pair := some (n + 1, arr) }
  let s := s.modHead (n + 1) fun h => { h with pair := some (n, arr), group := a.group, aligned := a.aligned }
  let s := s.modHeel (n + 1) fun l => { l with leader := .head, idx := n, m := 1, d := 1, offset := 0, state := 0 }
  let s := match a.modeP with
    | some m => (s.setMode (n + 1) m).modHead (n + 1) fun h => { h with groupRate := a.groupRate }
    | none => s
  s.placePair n (n + 1) arr a.ox a.oy a.orient a.mirror

/-- Dissolve a pair. -/
def State.breakPair (s : State) (n : Nat) : State :=
  if (s.head n).pair.isNone then s
  else ((s.modHead n fun h => { h with pair := none }).modHead (n + 1) fun h => { h with pair := none }).modHeel
    (n + 1) fun l => { l with leader := .none, state := 0 }

/-- The effect of HEAD.PAIR that admission judges. -/
def judgeHeadPair : Body := fun _ c s =>
  let n := c.idx
  match (if c.p 0 = 0 then some (s.breakPair n) else s.formPair n) with
  | none => placementRule (s.scopeOf 4 n)
  | some t =>
    let t := ((t.setDepth n).setDepth (n + 1)).settleCommits
    if !t.chainsOk then placementRule (s.scopeOf 4 n)
    else withPlacing s t (withDirect s t (.ok (1 < c.p 0) (t.origins [n, n + 1]) t))

/-! ## HEAD.COLOUR (R115, R136, R230) -/

/-- Applied words of HEAD.COLOUR, clamped as R115 states. -/
def headColourWords (c : Cmd) : List Nat :=
  let f := enumOr 4 0 (c.p 0)
  let lr := clampN 80 1000 (c.p 2)
  [f, enumOr 3 0 (c.p 1), lr, if 2 ≤ f then clampN 100 (min 10000 (16 * lr)) (c.p 3) else lr,
   nearest 8 [8, 10, 12] (c.p 4), enumOr 3 1 (c.p 5), enumOr 2 0 (c.p 6), enumOr 3 1 (c.p 7),
   enumOr 2 0 (c.p 8), min 16777215 (c.p 9), min 16777215 (c.p 10), min 16777215 (c.p 11),
   min 1 (c.p 12)] ++ words64 (c.p64 13 / 256 * 256)

/-- Colour settings of a head as the words of HEAD.COLOUR. -/
def HeadColour.words (k : HeadColour) : List Nat :=
  [k.oetf, k.primaries, k.lr, k.lt, k.depth, k.dither, b2n k.ycc, k.matrix, b2n k.full] ++ k.bg ++
  [b2n k.lutOn] ++ words64 k.lutAddr

/-- Colour settings from the words of HEAD.COLOUR. -/
def HeadColour.ofWords (w : List Nat) : HeadColour :=
  { oetf := w.getD 0 0, primaries := w.getD 1 0, lr := w.getD 2 203, lt := w.getD 3 203, depth := w.getD 4 8
    dither := w.getD 5 1, ycc := w.getD 6 0 = 1, matrix := w.getD 7 1, full := w.getD 8 0 = 1
    bg := (w.drop 9).take 3, lutOn := w.getD 12 0 = 1, lutAddr := cat64 (w.getD 13 0) (w.getD 14 0) }

/-- The cluster's staging store holds a load that is in progress or not yet swapped in (R136). -/
def State.stagingBusy (s : State) (c : Nat) : Bool :=
  ((List.range 4).map (4 * c + ·)).any fun h => (s.head h).lutBusy.isSome || (s.head h).staged.isSome

/-- HEAD.COLOUR (R115); naming an image starts its read (R136). -/
def bodyHeadColour : Body := fun port c s => withWrite s c 2 c.idx (withLen c 15
  (let h := c.idx
   let w := headColourWords c
   let k := HeadColour.ofWords w
   if k.lutOn ∧ s.stagingBusy (h / 4) then .err stBusy
   else
     let s' := s.modHead h fun d => { d with colour := k }
     let s' := if k.lutOn then s'.modHead h fun d => { d with lutBusy := some (k.lutAddr, c.master), lutIssuer := port }
       else s'
     let s' := s'.setDepth h
     applied c.params w [(s'.head h).pendingDepth.getD (s'.head h).depth] s'))

/-! ## HEAD.COMMIT, HEAD.POLICY and HEAD.READ (R144, R145, R172, R390) -/

/-- HEAD.COMMIT: a running head takes the new distance at its next vertical blanking (R145). -/
def bodyHeadCommit : Body := fun _ c s => withWrite s c 2 c.idx (withLen c 1
  (let k := clampN 2 64 (c.p 0)
   let t := (s.modHead c.idx fun d => { d with commit := k }).settleCommits
   applied c.params [k] [(t.head c.idx).cEff] t))

/-- HEAD.POLICY. -/
def bodyHeadPolicy : Body := fun _ c s => withWrite s c 2 c.idx (withLen c 3
  (applied [c.p 0, c.p 1, c.p 2 % 65536] [min 1 (c.p 0), c.p 1, c.p 2 % 65536] []
    (s.modHead c.idx fun d => { d with policy := min 1 (c.p 0)
                                       urColour := [bits (c.p 1) 15 0, bits (c.p 1) 31 16, bits (c.p 2) 15 0] })))

/-- The pair-partner word: a head of the same package, 256 + 128 × package + head for a deep partner, or
255 (R390, R539). -/
def Head.partner (h : Head) : Nat :=
  match h.deep, h.pair with
  | some d, _ => 256 + d
  | none, some (j, _) => j
  | none, none => 255

/-- HEAD.READ: each section as its command's reply gives it. -/
def bodyHeadRead : Body := fun _ c s => withRead s c 2 c.idx (withLen c 0
  (let h := s.head c.idx
   let d := h.pendingDepth.getD h.depth
   .ok false ([h.ox, h.oy, h.orient, b2n h.mirror] ++ (match h.modeP with
       | some m => m.words
       | none => [0, 0, 0, 0, 0, 0, 0]) ++ [d, h.cEff] ++ h.bindP.words ++ h.colour.words ++ [d] ++
     [h.commit, h.cEff, h.policy, h.urColour.getD 0 0 + 65536 * h.urColour.getD 1 0, h.urColour.getD 2 0,
      h.group, h.partner, h.seq, b2n h.armed]) s))

end Sys2Proof.Machine
end

