-- ==== Sys2Proof/Machine/CmdLink.lean ====
section
/-! DEFINITION. The LINK commands (R220, R223, R234, R244, R245, R392). -/

namespace Sys2Proof.Machine

/-- Go on with a link that is in service; an index is never clamped (DEDUCED, assumption 15). -/
def withLink (s : State) (c : Cmd) (k : Res) : Res :=
  if 96 ≤ c.p 0 then .err stNotPresent else withUnit (s.linkState (c.p 0)) k

/-- The largest value of a rising list that is at most `v`, or the smallest of the list. -/
def atMost (l : List Nat) (v : Nat) : Nat := ((l.filter (· ≤ v)).getLast?).getD (l.headD 0)

/-- Applied words of LINK.CONFIG after the link (R392). -/
def linkConfigWords (c : Cmd) : List Nat :=
  [min 1 (c.p 1), min 1 (c.p 2), atMost (if c.p 2 = 0 then dpRates else edpRates) (c.p 3),
   atMost [1, 2, 4] (c.p 4), min 1 (c.p 5)]

/-- Settings of a link as the words of LINK.CONFIG after the link. -/
def Link.configWords (l : Link) : List Nat :=
  [b2n l.enabled, b2n l.edp, l.maxRate, l.maxLanes, b2n l.spread]

/-- End a LINK.TRAIN in progress with the configuration trained, or zeros where none trained (R234, R392);
the clamped bit tells that the candidate was not the one asked for. -/
def State.endTrainCmd (s : State) (li : Nat) (first : Option Cand) : State :=
  match s.commandOn 0x0902 li with
  | none => s
  | some (port, c) =>
    let t := (s.link li).trained
    let h := ((s.boundTo li).head?).getD 128
    let d := (s.head h).pendingDepth.getD (s.head h).depth
    let other := match first with
      | some k => k.rate != c.p 1 || k.lanes != c.p 2
      | none => false
    s.finish port c (replyWord stOk (c.p 1 != 0 && other) 0 :: (match t with
      | some k => [k.rate, k.lanes, k.coding, d]
      | none => [0, 0, 0, d]))

/-- Take a link out of service: its lanes go idle and its streams stop (R223, R236). -/
def State.dropLink (s : State) (li st : Nat) : State :=
  ((s.modLink li (·.into st)).endTrainCmd li none).stopStreams li

/-- LINK.CONFIG (R220, R223, R234, R392). -/
def bodyLinkConfig : Body := fun _ c s => withLen c 6 (withLink s c
  (let li := c.p 0
   let w := linkConfigWords c
   let l := s.link li
   let l' := { l with enabled := w.getD 0 0 = 1, edp := w.getD 1 0 = 1, maxRate := w.getD 2 0
                      maxLanes := w.getD 3 0, spread := w.getD 4 0 = 1 }
   let s' := s.setLink li l'
   applied c.params (li :: w) []
     (if !l'.enabled then (if l.enabled then (s'.dropLink li 0).modLink li fun x => { x with hpd := false } else s')
      else if !l.enabled then s'.modLink li (·.into 1)
      else if l.configWords ≠ w ∧ l.state = 4 then
        ((s'.modLink li fun x => { x with retrainAll := true, cands := s'.candidates li }).beginRetrain li)
      else s')))

/-- LINK.TRAIN: a retraining of an active link, from the chosen candidate on (R234, R392). -/
def bodyLinkTrain : Body := fun _ c s => withLen c 3 (withLink s c
  (let li := c.p 0
   let l := s.link li
   let ks := if c.p 1 = 0 then s.candidates li else fromCand (c.p 1) (c.p 2) (s.candidates li)
   if l.state ≠ 4 ∨ l.retrainAll ∨ l.retrainCmd then .err stBusy
   else .wait ((s.setLink li { l with cands := ks, retrainAll := true, retrainCmd := true }).beginRetrain li)))

/-- Whether a write touches DPCD registers that the host may not write (R245). -/
def auxProtected (a n : Nat) : Bool :=
  [(0x100, 0x11F), (0x200, 0x20F), (0x1C0, 0x1C2), (0x2C0, 0x2C0), (0x246, 0x270)].any fun r =>
    a ≤ r.2 && r.1 < a + n

/-- The next LINK.AUX of a link begins its transaction when the channel is free (R245). -/
def State.nextAux (s : State) (li : Nat) : State :=
  if (s.link li).auxWait.isSome then s
  else match s.commandOn 0x0903 li with
    | none => s
    | some (p, c) => s.modLink li fun l => { l with auxWait := some (p, c.tag, min 1 (c.p 1)), auxTries := 0, auxDefers := 0 }

/-- Words of LINK.AUX after clamping: operation, address and count. -/
def auxWords (c : Cmd) : List Nat := [min 1 (c.p 1), min 0xFFFFF (c.p 2), clampN 1 16 (c.p 3)]

/-- LINK.AUX waits for the sink's reply (R245). -/
def bodyLinkAux : Body := fun port c s => withLen c 8 (withLink s c
  (let li := c.p 0
   let l := s.link li
   let w := auxWords c
   if l.state = 2 ∨ l.state = 3 ∨ l.state = 5 then .err stBusy
   else if w.getD 0 0 = 1 ∧ auxProtected (w.getD 1 0) (w.getD 2 0) then .err stNotPermitted
   else .wait (if l.auxWait.isSome then s else
     s.setLink li { l with auxWait := some (port, c.tag, w.getD 0 0), auxTries := 0, auxDefers := 0 })))

/-- End the LINK.AUX in progress on a link with a reply code, 0 ACK to 3 TIMEOUT, and the bytes read; the
next one begins (R245, R392). -/
def State.endAux (s : State) (li code : Nat) (data : List Byte) : State :=
  match (s.link li).auxWait with
  | none => s
  | some (p, tag, op) =>
    let s := s.modLink li fun l => { l with auxWait := none, auxTries := 0, auxDefers := 0 }
    match s.runningCmd p tag with
    | none => s.nextAux li
    | some c =>
      let w := auxWords c
      let bs := ((if op = 0 ∧ code = 0 then data.take (w.getD 2 0) else []) ++ List.replicate 16 0).take 16
      let s := if op = 1 ∧ code = 0 then
          s.modLink li fun l => { l with dpcd := (List.range (w.getD 2 0)).foldl (fun t i =>
            if w.getD 1 0 + i ≤ 0xFFFFF then tset t (w.getD 1 0 + i) (c.p (4 + i / 4) / 256 ^ (i % 4) % 256) else t) l.dpcd }
        else s
      (s.finish p c ([replyWord stOk (decide ((c.params.drop 1).take 3 ≠ w)) 0, code] ++ ofLeWords bs)).nextAux li

/-- LINK.AUTOSTART stores a binding and a mode rule for the next start (R244); a timing outside what a
head can take is stored as sent. -/
def bodyLinkAutostart : Body := fun _ c s => withWrite s c 2 c.idx (withLen c 12
  (let b := c.bind 1
   let rule := min 1 (c.p 4)
   let t := c.timing 5
   let w := [min 1 (c.p 0), c.p 1, min 1 (c.p 2), b.path, rule]
   if b.link ≠ 255 ∧ (96 ≤ b.link ∨ s.linkState b.link = 0) then .err stNotPresent
   else if b.link ≠ 255 ∧ b.link / 48 ≠ c.idx / 64 then .err stNotPermitted
   else .ok (decide (w ≠ [c.p 0, c.p 1, c.p 2, c.p 3 &&& 0xFFF3, c.p 4]))
     (w ++ c.params.drop 5)
     (s.modHead c.idx fun h => { h with autoEn := c.p 0 ≠ 0, autoBind := b, autoRule := rule, autoMode := t })))

/-- LINK.READ, to a port that may read every head bound to the link (R392, R413). -/
def bodyLinkRead : Body := fun _ c s => withLen c 1 (withLink s c
  (let l := s.link (c.p 0)
   match (s.boundTo (c.p 0)).find? fun h => !s.mayRead 2 h c.master with
   | some h => .denied 2 h
   | none => .ok false ([l.state] ++ (match l.trained with
       | some k => [k.rate, k.lanes, k.coding]
       | none => [0, 0, 0]) ++ [match l.sink with
         | some d => d.lttprs
         | none => 0, l.glitches, l.attempts]) s))

end Sys2Proof.Machine
end

