-- ==== Sys2Proof/Machine/Inputs.lean ====
section
/-! DEFINITION. What video inputs, audio rings and the audio of heads share: their events, the loss of a
stream, ring writes, and changes at zero crossings (R243, R246-R278). -/

namespace Sys2Proof.Machine

/-! ## Master IDs and sources (R405, R461) -/

/-- The request of a ring or capture write: audio keys 0-3 are ports, 16-31 inputs. -/
def ioReq (key : Nat) : Req := ⟨2, if key < 16 then 42 + key else 26 + (key - 16), 0⟩

/-- Interrupt source of a video input. -/
def inputSource (v : Nat) : Nat := 256 * (v / 8) + 82 + v % 8

/-! ## Input states (R257, R259, R404) -/

/-- Words of INPUT.STATE after the input, and of INPUT.STATUS: timing, encoding and depth. -/
def Input.streamWords (v : Input) : List Nat := v.msa.words ++ [v.encoding, v.depth]

/-- Post INPUT.STATE; a state with a collector bit sets it, any other raises the input's source
(R404, R472). -/
def State.postInput (s : State) (v st : Nat) : State :=
  let i := s.input v
  let s := s.postU 0x0A80 s.scopePkg ([v, st, i.reason] ++ i.streamWords ++ [i.colorimetry])
  match st with
  | 2 => s.detect (dieRec (v / 8) 7) 0 (v % 8)
  | 6 => s.detect (dieRec (v / 8) 7) 1 (v % 8)
  | 3 => s.detect (dieRec (v / 8) 7) 2 (v % 8)
  | 4 => s.detect (dieRec (v / 8) 7) 3 (v % 8)
  | _ => s.raise (inputSource v)

/-- Layers bound to an input, in RING or DIRECT mode. -/
def State.boundLayers (s : State) (v : Nat) : List Nat :=
  (s.layers.filter fun e => e.2.bindMode ≠ 0 && e.2.bindInput = v).map (·.1)

/-- The no-signal timeout has passed: post NOSIGNAL, and every bound layer shows its no-signal fill from
its next commit line (R259). -/
def State.noSignal (s : State) (v : Nat) : State :=
  let s := s.modInput v fun i => { i with state := 5, lostAt := none }
  ((s.boundLayers v).foldl (fun s l => s.modLayer l fun x => { x with nosignal := true }) s).postInput v 5

/-- A stream is lost or held from now on: the timeout of R259 begins, and one of 0 ends at once. -/
def State.startNoSignal (s : State) (v : Nat) : State :=
  let s := s.modInput v fun i => { i with lostAt := some s.now }
  if (s.input v).timeout = 0 then s.noSignal v else s

/-! ## Audio rings (R268-R274) -/

/-- Bytes of one channel of a frame (R273). -/
def Audio.chBytes (a : Audio) : Nat := if a.width = 16 then 2 else if a.pack4 then 4 else 3

/-- The bytes of a frame, channel 1 first (R273); PACK4 widens by the sign. -/
def Audio.frameBytes (a : Audio) (x y : Int) : List Byte :=
  leBytes a.chBytes (ofS (8 * a.chBytes) x) ++ leBytes a.chBytes (ofS (8 * a.chBytes) y)

/-- Write the gathered bytes of a ring's block to HBM; a denied or failed write is dropped and counted
(R274). -/
def State.audioFlush (s : State) (k : Nat) : State :=
  let a := s.aud k
  if a.block.isEmpty then s
  else
    let r := s.write (a.base + a.blockOff) a.block (ioReq k)
    if r.1 = .ok then r.2
    else
      let s := r.2.modAud k fun a => { a with denied := satInc 32 a.denied }
      if k < 4 then s.detect (dieRec (k / 2) 8) 3 (k % 2) else s

/-- Take one byte into a ring's block; a full block is written (R274). -/
def State.audioByte (s : State) (k : Nat) (b : Byte) : State :=
  let a := s.aud k
  let a := { a with block := a.block ++ [b], blockAt := a.blockAt.or (some s.now) }
  if (a.blockOff + a.block.length) % 64 = 0 then
    let s := (s.setAud k a).audioFlush k
    s.modAud k fun a => { a with block := [], blockAt := none, blockOff := (a.blockOff + a.block.length) % max 1 a.size }
  else s.setAud k a

/-- The writes of the oldest `n` frames not wholly written have completed: the write offset is the byte
after the last of them (R274). -/
def Audio.completed (a : Audio) (n : Nat) : Audio :=
  { a with offset := (a.offset + n * (2 * a.chBytes)) % max 1 a.size, frames := (a.frames + n) % 2 ^ 32
           framePend := a.framePend - n }

/-- Write a partial block, with every frame formed so far (R274). -/
def State.audioPartial (s : State) (k : Nat) : State :=
  (s.audioFlush k).modAud k fun a => { (a.completed a.framePend) with blockAt := none }

/-- Write one frame into a ring (R273, R274); a block that fills completes the frames before this one, and
this one where it ends with the block. -/
def State.audioFrame (s : State) (k : Nat) (x y : Int) : State :=
  let a := s.aud k
  let bs := a.frameBytes x y
  let s := bs.foldl (fun s b => s.audioByte k b) s
  s.modAud k fun b =>
    let full := b.block.length ≠ a.block.length + bs.length
    let b := { b with framePend := b.framePend + 1 }
    if full then b.completed (if b.block.isEmpty then b.framePend else b.framePend - 1) else b

/-! ## Audio of heads (R243, R275-R278) -/

/-- Why a head's audio is held (R243): 0 not held, 1 no route, 2 the sink does not declare the rate, 3 the
horizontal blanking is below 64 pixels (DESIGN CHOICE on the codes, assumption 17). -/
def State.audioHold (s : State) (h : Nat) : Nat :=
  let hd := s.head h
  if hd.audioSrc = 255 then 1
  else
    let declared := match (s.link hd.bind.link).sink with
      | some d => d.audioRates.contains (s.aud hd.audioSrc).nearest
      | none => false
    if !declared then 2
    else match hd.mode with
      | some m => if m.wa + 64 ≤ m.htot then 0 else 3
      | none => 3

/-- Zero-crossing timeout of a source in ns; none without a source. -/
def State.zcOf (s : State) (src : Nat) : Nat := if src = 255 then 0 else (s.aud src).zc * 1000000

/-- Replace the entry of a channel. -/
def chSet {α : Type} (l : List α) (ch : Nat) (v : α) : List α := l.set ch v

/-- A waiting change of a channel takes effect: kinds 0 mute, 1 unmute, 2 the mute of a route change and 3
its unmute. AUDIO.CHANGED says whether at a crossing (0) or at the timeout (1) (R276, R277). -/
def State.audioEffect (s : State) (h ch kind how : Nat) : State :=
  let hd := s.head h
  let hd := { hd with audioWait := chSet hd.audioWait ch none }
  let hd := match kind with
    | 0 => { hd with audioMuted := chSet hd.audioMuted ch true }
    | 1 => { hd with audioMuted := chSet hd.audioMuted ch false, audioSilent := chSet hd.audioSilent ch (hd.audioCh.getD ch 255 = 255) }
    | 2 => { hd with audioCh := chSet hd.audioCh ch hd.audioSrc, audioSilent := chSet hd.audioSilent ch true
                     audioPrev := chSet hd.audioPrev ch 0
                     audioWait := if hd.audioSrc = 255 then hd.audioWait
                       else chSet hd.audioWait ch (some (3, s.now + s.zcOf hd.audioSrc)) }
    | _ => { hd with audioSilent := chSet hd.audioSilent ch false }
  (s.setHead h hd).postI (hd.audioIssuer.getD ch 0) 0x0B82 (s.scopeOf 4 h) [h, ch, how]

/-- Changes of a channel whose timeout is 0, or that wait on no source, take effect at once; at most the
two halves of a route change (R276, R277). -/
def State.audioAtOnce (s : State) (h ch : Nat) : Nat → State
  | 0 => s
  | n + 1 =>
    match (s.head h).audioWait.getD ch none with
    | some (k, t) => if t ≤ s.now then (s.audioEffect h ch k 1).audioAtOnce h ch n else s
    | none => s

/-- Begin a change of a channel; it replaces one that waits (R278). -/
def State.audioChange (s : State) (h ch kind port : Nat) : State :=
  let s := s.modHead h fun d => { d with
    audioWait := chSet d.audioWait ch (some (kind, s.now + s.zcOf (d.audioCh.getD ch 255)))
    audioIssuer := chSet d.audioIssuer ch port }
  s.audioAtOnce h ch 2

/-- Route a head: a change from one source to another is a mute and then an unmute, a first route an
unmute, a removal a mute (R277). -/
def State.audioRouteTo (s : State) (h src port : Nat) : State :=
  let s := s.modHead h fun d => { d with audioSrc := src }
  (List.range 2).foldl (fun s ch =>
    if (s.head h).audioCh.getD ch 255 ≠ 255 then s.audioChange h ch 2 port
    else if src = 255 then s.modHead h fun d => { d with audioWait := chSet d.audioWait ch none }
    else (s.modHead h fun d => { d with audioCh := chSet d.audioCh ch src, audioSilent := chSet d.audioSilent ch true
                                        audioPrev := chSet d.audioPrev ch 0 }).audioChange h ch 3 port) s

/-- A zero crossing at sample `b` after the previous sample (R276). -/
def zeroCross (prev b : Int) : Bool := b = 0 || (decide (prev < 0) != decide (b < 0))

/-- One sample of a source reaches a channel of a head: a waiting change takes effect at a crossing or
after its timeout, and the stream carries the sample or zero (R243, R275-R277). -/
def State.audioSample (s : State) (h ch : Nat) (b : Int) : State :=
  let hd := s.head h
  let s := match hd.audioWait.getD ch none with
    | some (k, t) =>
      if zeroCross (hd.audioPrev.getD ch 0) b then s.audioEffect h ch k 0
      else if t ≤ s.now then s.audioEffect h ch k 1 else s
    | none => s
  let hd := s.head h
  let carried := s.audioHold h = 0 && (s.link hd.bind.link).trained.isSome
  let quiet := hd.audioMuted.getD ch false || hd.audioSilent.getD ch true || !carried
  s.setHead h { hd with audioPrev := chSet hd.audioPrev ch b, audioOut := chSet hd.audioOut ch (if quiet then 0 else b) }

/-- The samples of a frame of a source reach every channel that carries the source. -/
def State.audioToHeads (s : State) (src : Nat) (x y : Int) : State :=
  s.heads.foldl (fun s e => (List.range 2).foldl (fun s ch =>
    if (s.head e.1).audioCh.getD ch 255 = src then s.audioSample e.1 ch (if ch = 0 then x else y) else s) s) s

/-- Routed heads of a source carry zero samples (R267, R272). -/
def State.audioQuiet (s : State) (src : Nat) : State :=
  { s with heads := s.heads.map fun e =>
      let on (ch : Nat) : Bool := e.2.audioCh.getD ch 255 = src
      if on 0 || on 1 then (e.1, { e.2 with
        audioSilent := (List.range 2).map fun ch => on ch || e.2.audioSilent.getD ch true
        audioOut := (List.range 2).map fun ch => if on ch then 0 else e.2.audioOut.getD ch 0 }) else e }

/-- Each route from a source that has returned resumes as an unmute (R278). -/
def State.audioResume (s : State) (src : Nat) : State :=
  s.heads.foldl (fun s e => (List.range 2).foldl (fun s ch =>
    if (s.head e.1).audioCh.getD ch 255 = src ∧ ((s.head e.1).audioWait.getD ch none).isNone ∧
        (s.head e.1).audioSilent.getD ch true then
      s.audioChange e.1 ch 3 ((s.head e.1).audioIssuer.getD ch 0)
    else s) s) s

/-- A source stops: 2 STOPPED, 3 RANGE. The partial block is written, routed heads fall silent, the event
is posted, and the source waits to be acquired again (R267, R272). -/
def State.audioStop (s : State) (k st : Nat) : State :=
  if !(s.aud k).acquired then s
  else
    let s := (s.audioPartial k).modAud k fun a => { a with acquired := false, state := st }
    let s := (s.audioQuiet k).postU 0x0B80 s.scopePkg [k, st - 1, (s.aud k).rate]
    if k < 4 then s.detect (dieRec (k / 2) 8) (st - 2) (k % 2) else s

/-- Stop a source and restart its ring at offset 0 for new settings; it must be acquired again (R268). -/
def Audio.restart (a : Audio) : Audio :=
  { a with acquired := false, prev := [0, 0], offset := 0, block := [], blockAt := none
           blockOff := 0, framePend := 0 }

/-! ## Loss of an input's stream (R257, R258, R265, R267) -/

/-- An input loses its stream: LOST is posted, the frame in progress is discarded, followers coast, and its
audio stops. -/
def State.inputLost (s : State) (v : Nat) : State :=
  let i := s.input v
  if !i.acquired ∧ i.state ≠ 4 then s.modInput v fun i => { i with good := 0, writing := false }
  else
    let s := s.setInput v { i with
      state := 2, reason := 0, acquired := false, good := 0, rateCnt := 0, writing := false, directLine := []
      dropped := if i.writing then satInc 32 i.dropped else i.dropped }
    ((((s.postInput v 2).leaderLost .input v 0).audioStop (16 + v) 2).startNoSignal v)

end Sys2Proof.Machine
end

