-- ==== Sys2Proof/Machine/CmdInput.lean ====
section
/-! DEFINITION. The INPUT and AUDIO commands (R246-R278, R393, R394). -/

namespace Sys2Proof.Machine

/-- Go on with a video input that is in service. -/
def withInput (s : State) (v : Nat) (k : Res) : Res :=
  if 16 ≤ v then .err stNotPresent else withUnit (s.inputState v) k

/-! ## INPUT.CONFIG and INPUT.EDID (R247, R248) -/

/-- INPUT.CONFIG: an enabled input drives HPD high, a disabled one holds it low and loses its stream. -/
def bodyInputConfig : Body := fun _ c s => withLen c 2 (withInput s (c.p 0)
  (let v := c.p 0
   let i := s.input v
   let s' := if c.p 1 = 0 then
       (if i.enabled then
         (s.inputLost v).modInput v fun i => { i with enabled := false, hpd := false, trained := none }
        else s)
     else if i.enabled then s else s.setInput v { i with enabled := true, hpd := true }
   applied c.params [v, min 1 (c.p 1)] [] s'))

/-- INPUT.EDID loads 1 to 4 blocks; an enabled input then holds HPD low until its timer ends (R247). -/
def bodyInputEdid : Body := fun _ c s =>
  let n := clampN 1 4 (c.p 1)
  withLen c (2 + 32 * n) (withInput s (c.p 0)
    (let i := s.input (c.p 0)
     let img := (c.params.drop 2).flatMap fun w => (leBytes 4 w).map (·.toNat)
     .ok (n ≠ c.p 1) [n] (s.setInput (c.p 0) { i with edid := img, hpd := false })))

/-! ## INPUT.CAPTURE (R250-R253) -/

/-- The capture format that INPUT.CAPTURE applies. -/
def capFormatOf (c : Cmd) : Nat := if [0, 3, 5, 6, 7, 8].contains (c.p 1) then c.p 1 else 0

/-- Ring buffers that INPUT.CAPTURE applies. -/
def capBuffers (c : Cmd) : Nat := clampN 2 8 (c.p 5)

/-- Index of the stride words, and of the words after them. -/
def capStrideAt (c : Cmd) : Nat := 6 + 2 * fmtPlanes (capFormatOf c) * capBuffers c
def capTailAt (c : Cmd) : Nat := capStrideAt c + if c.p 2 = 0 then fmtPlanes (capFormatOf c) else 0

/-- Base addresses of the ring, buffer by buffer, rounded down (R85, R86). -/
def capBases (c : Cmd) : List (List Nat) :=
  let al := if c.p 2 = 0 then 256 else 4096
  let n := fmtPlanes (capFormatOf c)
  (List.range (capBuffers c)).map fun b => (List.range n).map fun p => c.p64 (6 + 2 * (b * n + p)) / al * al

/-- Strides of a linear ring, rounded up (R85). -/
def capStridesOf (c : Cmd) : List Nat :=
  if c.p 2 = 0 then (List.range (fmtPlanes (capFormatOf c))).map fun p =>
    max (minStride (capFormatOf c) p (clampN 64 8192 (c.p 3))) (ceilDiv (min 0xFFFFFF00 (c.p (capStrideAt c + p))) 256 * 256)
  else []

/-- Applied words of INPUT.CAPTURE. A token word beyond 255 stands for none (DESIGN CHOICE, assumption
18). -/
def captureWords (c : Cmd) : List Nat :=
  let t := capTailAt c
  [c.p 0, capFormatOf c, min 1 (c.p 2), clampN 64 8192 (c.p 3), clampN 64 8192 (c.p 4), capBuffers c] ++
    (capBases c).flatMap (·.flatMap words64) ++ capStridesOf c ++
    [c.p t, clampN 1 240 (c.p (t + 1)), min 10000 (c.p (t + 2)), min 1 (c.p (t + 3))]

/-- INPUT.CAPTURE waits for admission. -/
def bodyInputCapture : Body := fun _ c s => withLen c (capTailAt c + 4) (withInput s (c.p 0) .admission)

/-- The effect of INPUT.CAPTURE that admission judges: the ring starts again at its first buffer. -/
def judgeInputCapture : Body := fun _ c s =>
  let v := c.p 0
  let t := capTailAt c
  let i := s.input v
  applied c.params (captureWords c) [] (s.setInput v { i with
    capFormat := capFormatOf c, capTiled := c.p 2 ≠ 0, capW := clampN 64 8192 (c.p 3), capH := clampN 64 8192 (c.p 4)
    bufs := capBases c, capStrides := capStridesOf c, capToken := if c.p t < 256 then some (c.p t) else none
    fmax := clampN 1 240 (c.p (t + 1)), timeout := min 10000 (c.p (t + 2)), capOn := c.p (t + 3) ≠ 0
    stamps := [], writeBuf := 0, writing := false, sinceStart := none, newest := none, inUse := [] })

/-! ## INPUT.BIND (R254, R259, R260-R263) -/

/-- The format in which a stream's colours are described to a layer: its encoding and depth (R83, R251). -/
def Input.streamFormat (i : Input) : Nat :=
  match i.encoding with
  | 0 => if 8 < i.depth then 3 else 0
  | 1 => 8
  | 2 => 7
  | _ => if 8 < i.depth then 6 else 5

/-- The source description that a ring gives a bound layer, as LAYER.SOURCE would (R254). -/
def Input.ringSource (i : Input) : Source :=
  { format := i.capFormat, tiled := i.capTiled, width := i.capW, height := i.capH
    strides := if i.capTiled then [] else i.capStrides, bases := i.bufs.headD [] }

/-- The source description of a direct layer: the stream's size and family where one is established, else
that of the backing ring (R262; DESIGN CHOICE, assumption 19). -/
def Input.directSource (i : Input) : Source :=
  if i.linePs = 0 then i.ringSource
  else { i.ringSource with format := i.streamFormat, width := i.msa.wa, height := i.msa.ha }

/-- Offset of the last source element that reaches a step value, one way along an axis (R98, R262). -/
def Axis.lastDep (a : Axis) (t : Nat) (k : Int) : Int :=
  let i := idxOf a.step k
  let r := if a.scaled then runTaps a.step t / 2 else 0
  max 0 (min ((a.cut : Int) - 1) (i + r)) + a.org

/-- Largest of a list of integers; 0 for none. -/
def maxI : List Int → Int
  | [] => 0
  | a :: t => t.foldl max a

/-- How far along an axis the head lags behind the source, largest over the part: the time of the last
dependency less that of the panel position, in units the two factors give (R262). -/
def Axis.lag (a : Axis) (t : Nat) (panel : Int → Int) (fs fh : Int) : Int :=
  maxI ((List.range a.len).map fun (n : Nat) =>
    a.lastDep t (a.kLo + n) * fs - panel (a.coord (a.kLo + n)) * fh)

/-- Pixel rate of a head that heels to an input: M × Tf = D × Tl where that lies within 0.5 % of its own rate, else its
own rate (R299-R301). -/
def State.heeledRate (s : State) (h : Nat) (i : Input) : Nat × Nat :=
  let r := (s.head h).rateP
  let m := (s.head h).modeP.getD {}
  let l := s.heelOf h
  let f := (m.htot * m.vtot * l.m * 10 ^ 12, i.linePs * i.msa.vtot * l.d)
  if 0 < f.2 ∧ 995 * r.1 * f.2 ≤ 1000 * f.1 * r.2 ∧ 1000 * f.1 * r.2 ≤ 1005 * r.1 * f.2 then f else r

/-- The fixed heel offset Δ of a direct layer in units of 0.5 ns: the smallest at which every destination
pixel enters the packer no earlier than 23 clocks after its last dependency; whole line periods of the
head for a vertically scaled layer (R262). -/
def State.deltaOf (s : State) (li : Nat) : Int :=
  let l := s.layer li
  let i := s.input l.bindInput
  if !l.direct ∨ i.linePs = 0 then 0
  else maxI ((s.partsOf li).map fun p =>
    let hd := s.head p.head
    let r := s.heeledRate p.head i
    let m := hd.modeP.getD {}
    let v := hd.view
    let den : Int := (i.msa.htot * r.1 : Nat)
    let px (x : Int) : Int := if hd.alongRev then (hd.ox : Int) + v.w - 1 - x else x - hd.ox
    let py (y : Int) : Int := if hd.acrossRev then (hd.oy : Int) + v.h - 1 - y else y - hd.oy
    let ps : Int := (10 ^ 12 * r.2 * i.msa.htot : Nat)
    let lagX := p.along.lag 6 px (i.linePs * r.1 : Nat) ps
    let lagY := p.across.lag l.taps py (i.linePs * i.msa.htot * r.1 : Nat) ((m.htot : Int) * ps)
    let pipe : Int := ((23 * 10 ^ 12 / max 1 (s.regionF (p.head / 16)) : Nat) : Int) * den
    let total := lagX + lagY + pipe
    let up (a b : Int) : Int := 0 - (0 - a) / max 1 b
    if p.across.scaled then up (up total (m.htot * ps) * (m.htot * ps)) (500 * den) else up total (500 * den))

/-- Keep Δ of a direct layer up to date (R262). -/
def State.setDelta (s : State) (li : Nat) : State :=
  s.modLayer li fun l => { l with delta := s.deltaOf li }

/-- INPUT.BIND waits for admission, after the checks of the layer and the input. -/
def bodyInputBind : Body := fun _ c s => withLayer s c (withLen c 6 (withInput s (c.p 1) .admission))

/-- The effect of INPUT.BIND that admission judges (R254, R259, R260). -/
def judgeInputBind : Body := fun port c s =>
  let li := c.p 0
  let v := c.p 1
  let mode := min 2 (c.p 2)
  let own := min 1 (c.p 3)
  let fill : Fill := { c0 := bits (c.p 4) 15 0, c1 := bits (c.p 4) 31 16, c2 := bits (c.p 5) 15 0, a := bits (c.p 5) 31 16 }
  let w := [li, v, mode, own, c.p 4, c.p 5]
  if mode ≠ 0 ∧ 8 ≤ ((s.layers.filter fun e => e.1 ≠ li && e.2.bindMode = 1 && e.2.bindInput = v)).length ∧ mode = 1 then
    .err stNoResource
  else
    let s' := if mode = 0 then s else (s.cancelFlips li fun _ => true)
    let s' := (s'.releaseRing li).modLayer li fun l =>
      let l := { l with bindMode := mode, bindInput := v, bindOwn := own = 1, bindFill := fill, bindIssuer := port
                        nosignal := mode ≠ 0 && (s.input v).state = 5 }
      if mode = 1 then l.resourced (s.input v).ringSource
      else if mode = 2 then l.resourced (s.input v).directSource else l
    let s' := if mode = 2 then s'.setDelta li else s'.modLayer li fun l => { l with delta := 0 }
    withPlacing s s' (withDirect s s' (withReduced s' li fun t =>
      applied c.params w [ofS 32 (t.layer li).delta] t))

/-! ## INPUT.AUDIO and INPUT.STATUS (R266, R393) -/

/-- Nearest legal sample width, not above the slot width. -/
def sampleWidth (slot v : Nat) : Nat := if slot < 24 then 16 else nearest 16 [16, 24] v
/-- Ring size of R268: rounded down to 4 KiB, then clamped. -/
def ringSizeOf (v : Nat) : Nat := clampN 4096 16777216 (v / 4096 * 4096)
/-- Ring base: a multiple of 256 (R268). -/
def ringBaseOf (v : Nat) : Nat := v / 256 * 256

/-- Applied words of INPUT.AUDIO. -/
def inputAudioWords (c : Cmd) : List Nat :=
  [c.p 0, min 1 (c.p 1), nearest 16 [16, 24] (c.p 2), if c.p 3 = 1 then 1 else 0] ++ words64 (ringBaseOf (c.p64 4)) ++
    [ringSizeOf (c.p 6), min 50 (c.p 7)]

/-- INPUT.AUDIO waits for admission. -/
def bodyInputAudio : Body := fun _ c s => withLen c 8 (withInput s (c.p 0) .admission)

/-- The effect of INPUT.AUDIO that admission judges (R266, R268). -/
def judgeInputAudio : Body := fun _ c s =>
  let k := 16 + c.p 0
  let w := inputAudioWords c
  let s' := if (s.aud k).enabled then s.audioQuiet k else s
  applied c.params w [] (s'.modAud k fun a =>
    { a.restart with enabled := w.getD 1 0 = 1, width := w.getD 2 24, pack4 := w.getD 3 0 = 1
                     base := ringBaseOf (c.p64 4), size := w.getD 6 65536, zc := w.getD 7 5 })

/-- INPUT.STATUS (R393). -/
def bodyInputStatus : Body := fun _ c s => withLen c 1 (withInput s (c.p 0)
  (let i := s.input (c.p 0)
   .ok false ([i.state, i.reason, i.linePs / 1000, i.framePs / 1000] ++ i.streamWords ++
     [i.capCount, i.dropped, i.glitches]) s))

/-! ## The AUDIO commands (R268, R275, R276, R394) -/

/-- Go on with an audio port that is in service. -/
def withAud (s : State) (a : Nat) (k : Res) : Res :=
  if 4 ≤ a then .err stNotPresent else withUnit (s.audState a) k

/-- Applied words of AUDIO.CONFIG. -/
def audioWords (c : Cmd) : List Nat :=
  let slot := nearest 16 [16, 24, 32] (c.p 3)
  [c.p 0, min 1 (c.p 1), if c.p 2 = 1 then 1 else 0, slot, sampleWidth slot (c.p 4), if c.p 5 = 1 then 1 else 0] ++
    words64 (ringBaseOf (c.p64 6)) ++ [ringSizeOf (c.p 8), min 50 (c.p 9)]

/-- AUDIO.CONFIG waits for admission. -/
def bodyAudioConfig : Body := fun _ c s => withLen c 10 (withAud s (c.p 0) .admission)

/-- The effect of AUDIO.CONFIG that admission judges (R268). -/
def judgeAudioConfig : Body := fun _ c s =>
  let k := c.p 0
  let w := audioWords c
  let s' := if (s.aud k).enabled then s.audioQuiet k else s
  applied c.params w [] (s'.modAud k fun a =>
    { a.restart with enabled := w.getD 1 0 = 1, leftJust := w.getD 2 0 = 1, slot := w.getD 3 32, width := w.getD 4 24
                     pack4 := w.getD 5 0 = 1, base := ringBaseOf (c.p64 6), size := w.getD 8 65536, zc := w.getD 9 5 })

/-- Status of a source that AUDIO.ROUTE names: never clamped (R394). -/
def State.sourceStatus (s : State) (src : Nat) : Nat :=
  if src = 255 then 1
  else if src < 4 then s.audState src
  else if 16 ≤ src ∧ src < 32 then s.inputState (src - 16) else 0

/-- Heads that AUDIO.ROUTE names. -/
def routeHeads (c : Cmd) : List Nat := c.params.drop 2

/-- Go on when every head of a list is in service. -/
def withHeadUnits (s : State) : List Nat → Res → Res
  | [], k => k
  | h :: t, k => if 128 ≤ h then .err stNotPresent else withUnit (s.headState h) (withHeadUnits s t k)

/-- AUDIO.ROUTE; the mask has bit i for the i-th head of the list (R275, R394; DEDUCED, assumption 17). -/
def bodyAudioRoute : Body := fun port c s =>
  let n := clampN 1 16 (c.p 1)
  let hs := routeHeads c
  withHeads s c (hs.filter (· < 128)) (withLen c (2 + n) (withUnit (s.sourceStatus (c.p 0)) (withHeadUnits s hs
    (let s' := hs.foldl (fun s h => s.audioRouteTo h (c.p 0) port) s
     applied c.params ([c.p 0, n] ++ hs)
       [maskOf ((List.range hs.length).filter fun i => s'.audioHold (hs.getD i 0) ≠ 0 && c.p 0 != 255)] s'))))

/-- AUDIO.MUTE (R276, R278). -/
def bodyAudioMute : Body := fun port c s => withWrite s c 2 c.idx (withLen c 2
  (.ok (decide (1 < c.p 1)) []
    ((bitsOf 2 (c.p 0)).foldl (fun s ch => s.audioChange c.idx ch (if c.p 1 = 0 then 0 else 1) port) s)))

/-- AUDIO.STATUS of a port, or of an input's audio by the numbers of AUDIO.ROUTE (R266, R274; DEDUCED,
assumption 17). -/
def bodyAudioStatus : Body := fun _ c s => withLen c 1
  (if c.p 0 = 255 then .err stNotPresent else withUnit (s.sourceStatus (c.p 0))
    (let a := s.aud (c.p 0)
     .ok false [a.offset, a.frames, a.rate, a.nearest, b2n a.offStd, a.state, a.glitches, a.slotErrs, a.denied] s))

end Sys2Proof.Machine
end

