-- ==== Sys2Proof/Machine/CmdAcc.lean ====
section
/-! DEFINITION. The ACC and CANVAS commands (R46, R316, R319, R386, R387, R409-R418). -/

namespace Sys2Proof.Machine

/-! ## Windows (R316, R319, R409, R412) -/

/-- Reserve tail and content of a Mantel area: 64 MiB from its base (R178). -/
def areaBytes : Nat := 0x4000000

/-- Data addresses at which a Mantel area begins in a region (R178). -/
def State.areasIn (s : State) (g : Nat) : List Nat :=
  ([s.mantel.areaA, s.mantel.areaB].filter (· / regionSpan = g)).map (· % regionSpan)

/-- Whether a window holds a byte range of its region. -/
def Window.holds (w : Window) (a n : Nat) : Bool :=
  w.valid && w.band * bandBytes ≤ a && a + n ≤ (w.band + w.bands) * bandBytes

/-- Whether two windows share a band. -/
def Window.overlaps (a b : Window) : Bool :=
  a.valid && b.valid && a.band < b.band + b.bands && b.band < a.band + a.bands

/-- Whether the bands that two windows share keep their physical places (R317, R318): order 0 hashes the
row within the window modulo 256, orders 2 and 3 depend on the window's bounds, and with fewer than 16
pseudo-channels the rows do too (R343). -/
def sameMap (n : Nat) (a b : Window) : Bool :=
  a.valid && b.valid && a.order = b.order &&
  ((a.band = b.band && (a.bands = b.bands || a.order ≤ 1)) ||
   (n = 16 && (a.order = 1 || (a.order = 0 && a.band % 256 = b.band % 256))))

/-- Make the content of a band range of a region undefined (R319). -/
def State.forgetBands (s : State) (g first n : Nat) : State :=
  if n = 0 then s
  else
    let lo := g * regionSpan + first * bandBytes
    { s with mem := { s.mem with memory := s.mem.memory.forget lo (lo + n * bandBytes - 1) s.freeCtr }
             freeCtr := s.freeCtr + 1 }

/-- Replace a window; the contents of bands whose mapping changes are undefined (R319). -/
def State.setWindow (s : State) (g n : Nat) (w : Window) : State :=
  let old := tget {} (s.windows g) n
  let s' := s.modRegion g fun r => { r with windows := some (tset (s.windows g) n w) }
  if !w.valid then s'
  else if sameMap (s.pcsOf g).length old w then
    (s'.forgetBands g w.band (old.band - w.band)).forgetBands g (max w.band (old.band + old.bands))
      (w.band + w.bands - max w.band (old.band + old.bands))
  else s'.forgetBands g w.band w.bands

/-- What a new descriptor may not do to a protected window (R412). -/
def State.protectedOk (s : State) (g n : Nat) (w : Window) : Bool :=
  let old := tget {} (s.windows g) n
  !old.prot ||
  (w.valid && w.order = old.order && w.rmask = old.rmask && w.wmask = old.wmask &&
    ((s.areasIn g).filter (old.holds · areaBytes)).all (w.holds · areaBytes))

/-- The descriptor that ACC.WINDOW names, its base rounded down and its end up to bands (R316). -/
def windowOf (c : Cmd) (prot : Bool) : Window :=
  let b := c.p64 1 / bandBytes
  if c.p64 3 = 0 then {}
  else { valid := true, band := b, bands := ceilDiv (c.p64 1 + c.p64 3) bandBytes - b, order := c.p 5, prot
         rmask := BitVec.ofNat 64 (c.p64 6), wmask := BitVec.ofNat 64 (c.p64 8) }

/-- ACC.WINDOW (R316, R386, R412). -/
def bodyAccWindow : Body := fun _ c s => withLen c 10
  (let g := c.idx
   let old := tget {} (s.windows g) (c.p 0)
   let w := windowOf c old.prot
   if 255 < c.p 0 ∨ 3 < c.p 5 ∨ regionData ≤ c.p64 1 ∨ regionData < c.p64 1 + c.p64 3 then .err stRange
   else if (s.windows g).any fun e => e.1 ≠ c.p 0 && e.2.overlaps w then .err stRange
   else if !s.protectedOk g (c.p 0) w then .err stRange
   else .ok false (words64 (c.p64 1 / bandBytes * bandBytes) ++ words64 (w.bands * bandBytes))
     (s.setWindow g (c.p 0) w))

/-! ## Object tables (R413, R414, R418) -/

/-- How many objects of a kind there are: register blocks of both dies, layers, heads, channels. -/
def objCount (kind : Nat) : Nat := [2048, 1024, 128, 32].getD kind 0

/-- State of the unit that an object belongs to, as the capability descriptor gives it. -/
def State.objState (s : State) (kind i : Nat) : Nat :=
  match kind with
  | 0 => s.dieState (i / 1024)
  | 1 => 1
  | 2 => if s.headState i = 0 then 0 else 1
  | _ => s.chanState i

/-- Write an object's table. -/
def State.setObjTab (s : State) (kind i : Nat) (t : ObjTab) : State :=
  { s with acc := match kind with
    | 0 => { s.acc with blocks := tset s.acc.blocks i t }
    | 1 => { s.acc with layers := tset s.acc.layers i t }
    | 2 => { s.acc with heads := tset s.acc.heads i t }
    | _ => { s.acc with chans := tset s.acc.chans i t } }

/-- The master ID under which a port's flips were queued; a C-port carries that of the upstream link. -/
def State.portMaster (s : State) (port : Nat) : Nat := masterOf port (s.casc.upstream.getD 0)

/-- ACC.TABLE: bit 16 stays 1, and a master that loses a layer's write bit loses its queued flips, before
the reply (R413, R414, R418). -/
def bodyAccTable : Body := fun _ c s => withLen c 6
  (let kind := c.p 0
   let i := c.p 1
   let r := BitVec.ofNat 64 (c.p64 2) ||| 0x10000
   let w := BitVec.ofNat 64 (c.p64 4) ||| 0x10000
   if 3 < kind ∨ objCount kind ≤ i then .err stRange
   else withUnit (s.objState kind i)
     (let old := s.objTab kind i
      let s' := s.setObjTab kind i { rmask := r, wmask := w }
      let s' := if kind = 1 then s'.cancelFlips i fun f =>
          admits old.wmask (s.portMaster f.issuer) && !admits w (s.portMaster f.issuer)
        else s'
      .ok false ([kind, i] ++ words64 r.toNat ++ words64 w.toNat) s'))

/-- ACC.READ: a window at level REG, any other kind at level PKG (R386). -/
def bodyAccRead : Body := fun _ c s => withLen c 2
  (let kind := c.p 0
   let i := c.p 1
   if 4 < kind ∨ (kind = 4) ≠ (c.level = 2) then .err stRange
   else if kind = 4 then
     (if 255 < i then .err stRange
      else
        let w := tget {} (s.windows c.idx) i
        .ok false ([i] ++ words64 (w.band * bandBytes) ++ words64 (w.bands * bandBytes) ++ [w.order] ++
          words64 w.rmask.toNat ++ words64 w.wmask.toNat) s)
   else if objCount kind ≤ i then .err stRange
   else withUnit (s.objState kind i)
     (let t := s.objTab kind i
      .ok false ([kind, i] ++ words64 t.rmask.toNat ++ words64 t.wmask.toNat) s))

/-! ## The canvas window (R38, R46, R387) -/

/-- Clamp the origin of every head into the usable window (R46, R49, R54). -/
def State.clampHeads (s : State) : State :=
  { s with heads := s.heads.map fun e =>
      let v := e.2.view
      (e.1, { e.2 with ox := clampN s.wx (s.wx + s.usableW - max 1 v.w) e.2.ox
                       oy := clampN s.wy (s.wy + s.usableH - max 1 v.h) e.2.oy }) }

/-- CANVAS.WINDOW: BUSY once a frame has been committed; a package without followers keeps its window at
(0, 0) (R46). -/
def bodyCanvasWindow : Body := fun _ c s => withLen c 2
  (let lone := s.role = 0 ∨ (s.role ≠ 2 ∧ s.casc.members.isEmpty)
   let x := if lone then 0 else min 65528 (c.p 0 / 8 * 8)
   let y := if lone then 0 else min 65528 (c.p 1 / 8 * 8)
   if s.framed then .err stBusy
   else applied c.params [x, y] [] ({ s with wx := x, wy := y, windowSet := true }).clampHeads)

/-- CANVAS.READ (R387). -/
def bodyCanvasRead : Body := fun _ c s => withLen c 0 (.ok false [s.wx, s.wy, b2n s.windowSet] s)

end Sys2Proof.Machine
end

