-- ==== Sys2Proof/Machine/CmdDev.lean ====
section
/-! DEFINITION. The DEV and PWR commands (R378-R383, R507-R511). -/

namespace Sys2Proof.Machine

/-! ## Identity (R379) -/

/-- A byte of a stored image that lists its nonzero bytes. -/
def imgByte (t : Tab Nat) (o : Nat) : Nat := tget 0 t o
/-- A little-endian value of `n` bytes of an image. -/
def imgVal (t : Tab Nat) (o n : Nat) : Nat := (List.range n).foldl (fun a i => a + imgByte t (o + i) * 256 ^ i) 0

/-- Version of the sealed image, 0 when none is sealed (R379, R396). -/
def State.sealedVersion (s : State) : Nat :=
  match s.mantel.store with
  | some t => imgVal t 0x01098624 2
  | none => 0

/-- The part number (R379). -/
def State.part (s : State) : Nat := if s.cfg.dies = 2 then 0x9128 else 0x9064

/-- Words 1-8 of the identity block (R379). -/
def State.identity (s : State) : List Nat :=
  [s.part + 65536 * b2n s.cfg.nVariant,
   s.cfg.step0 % 256 + 256 * (if s.dieState 1 = 0 then 0xFF else s.cfg.step1 % 256),
   s.cfg.fw % 2 ^ 24] ++ words64 s.cfg.serial.toNat ++
  [s.cfg.pkgId + 8 * b2n s.cfg.cascMaster,
   s.sealedVersion + 65536 * min 65535 s.mantel.seals,
   s.repair.ledger.length % 65536]

/-- DEV.IDENTIFY (R378, R379). -/
def bodyDevIdentify : Body := fun _ c s => withLen c 0 (.ok false s.identity s)

/-! ## Capabilities (R380) -/

/-- Pack 2-bit states into words, 16 each, lowest first. -/
def pack2 (l : List Nat) : Nat := l.foldr (fun v a => a * 4 + v % 4) 0
/-- Cut a packed number into `n` words. -/
def cut (n v : Nat) : List Nat := (List.range n).map fun i => v / 2 ^ (32 * i) % 2 ^ 32
/-- The states of `n` units in index order, as words. -/
def stateWords (n : Nat) (f : Nat → Nat) : List Nat :=
  cut ((2 * n + 31) / 32) (pack2 ((List.range n).map f))
/-- Whether a master is present, and the hops to it, 0 on the master (R380). -/
def State.hopsNow (s : State) : Nat :=
  if s.role = 1 ∨ s.role = 3 then 0 else if s.casc.master.isSome then min 3 s.casc.hops else 0
/-- Whether the package has a master, itself or another (R380). -/
def State.hasMaster (s : State) : Bool := s.role = 1 || s.role = 3 || s.casc.master.isSome

/-- Words 1-60 of the capability descriptor (R380). -/
def State.caps (s : State) : List Nat :=
  [s.dieState 0 + 4 * s.dieState 1 + 16 * pack2 ((List.range 8).map s.regionState)] ++
  stateWords 32 s.clusterState ++ stateWords 288 s.slotState ++
  cut 4 ((List.range 32).foldr (fun c a => a * 16 + (s.kennelSlot c).getD 15) 0) ++
  stateWords 32 s.pairState ++ stateWords 128 s.headState ++ stateWords 96 s.linkState ++
  stateWords 16 s.inputState ++
  [pack2 ((List.range 4).map s.audState) + 256 * pack2 ((List.range 8).map s.birtonState)] ++
  stateWords 128 s.pcState ++
  [pack2 ((List.range 4).map s.bureauState) + 256 * pack2 ((List.range 8).map fun u => s.dieState (u / 4))] ++
  stateWords 32 s.chanState ++
  [s.wx + 65536 * s.wy,
   s.cfg.pkgId + 8 * b2n s.cfg.cascMaster + 16 * b2n s.hasMaster + 32 * s.hopsNow] ++
  words64 s.mantel.areaA ++ words64 s.mantel.areaB

/-- DEV.CAPS (R378, R380). -/
def bodyDevCaps : Body := fun _ c s => withLen c 0 (.ok false s.caps s)

/-! ## Events, time and no operation (R378) -/

/-- The subscription a port may hold: MANTEL, CTM and VERIFY only on the S-port. -/
def subsMask (port m : Nat) : Nat := m &&& (if port = 16 then 0x7FFFFE else 0x7F8FFE)

/-- DEV.EVENTS sets the port's subscriptions (R358, R378). -/
def bodyDevEvents : Body := fun port c s => withLen c 1
  (applied [c.p 0 &&& 0x7FFFFE] [subsMask port (c.p 0)] []
    (s.modPort port fun q => { q with subs := some (subsMask port (c.p 0)) }))

/-- DEV.TIME returns the measurement reference and the time in µs (R280, R378). -/
def bodyDevTime : Body := fun _ c s => withLen c 0 (.ok false (words64 s.ticks ++ words64 s.us) s)

/-- DEV.NOP returns its words (R378). -/
def bodyDevNop : Body := fun _ c s => if c.n ≤ 16 then .ok false c.params s else badLength c

/-! ## Power (R382, R383, R510, R511) -/

/-- Whether any head is armed (R511). -/
def State.anyArmed (s : State) : Bool := s.heads.any (·.2.armed)

/-- A start or a wake is running (R513). -/
def State.starting (s : State) : Bool := s.pwr.step ≠ .done

/-- What forbids a sleep entry (R511). -/
def State.sleepBusy (s : State) : Bool :=
  s.chans.any (fun c => c.2.state = 1 || c.2.state = 2) || s.mem.rates.any (·.2.target.isSome) ||
  s.mantel.sealing.isSome || s.mantel.sealed.isSome || s.heads.any (·.2.migration.isSome) ||
  s.repair.bureaus.any (·.2.failedPair.isSome)

/-- The transitions that PWR.SET may take, by class (R510): 0 allowed, else the status. -/
def State.pwrAllowed (s : State) (t : PState) (cls : Nat) : Nat :=
  match s.pwr.state, t with
  | .ready, .active => stOk
  | .active, .ready => stOk
  | .ready, .retain => stOk
  | .active, .retain => stOk
  | .ready, .standby => stOk
  | .active, .standby => stOk
  | .ready, .service => if cls = clsS then stOk else stNotPermitted
  | .active, .service => if cls = clsS then stOk else stNotPermitted
  | .service, .ready => if cls = clsS then stOk else stNotPermitted
  | .service, .active => if cls = clsS then stOk else stNotPermitted
  | _, _ => if t = .service ∧ cls ≠ clsS then stNotPermitted else stBusy

/-- A sleep state. -/
def PState.sleep : PState → Bool
  | .standby => true
  | .retain => true
  | _ => false

/-- The transition is decided: it completes by its own step, after the reply where it removes the port's
power (R382, R510). -/
def State.decide (s : State) (t : PState) (cause : Nat) : State :=
  { s with pwr := { s.pwr with target := some t, cause, pendingWake := false } }

/-- PWR.SET (R382, R383, R510, R511). -/
def bodyPwrSet : Body := fun _ c s => withLen c 1
  (match PState.ofCode (c.p 0) with
   | none => .ok true [s.pwr.state.code, 0] s
   | some t =>
     let st := s.pwrAllowed t c.cls
     if s.starting ∨ s.pwr.target.isSome then .err stBusy
     else if st ≠ stOk then .err st
     else if (t = .ready ∨ t.sleep) ∧ c.cls = clsH ∧ s.anyArmed then .err stNotPermitted
     else if t.sleep ∧ s.sleepBusy then .err stBusy
     else if t.sleep ∧ s.pwr.wakeNow &&& s.pwr.wakeMask ≠ 0 then .ok false [s.pwr.state.code, 1] s
     else .ok false [t.code, 0] (s.decide t 0x0201))

/-- PWR.WAKE sets the wake mask (R382, R512). -/
def bodyPwrWake : Body := fun _ c s => withLen c 1
  (applied [c.p 0 % 64] [c.p 0 % 64] [] { s with pwr := { s.pwr with wakeMask := c.p 0 % 64 } })

/-- PWR.READ (R382, R514). -/
def bodyPwrRead : Body := fun _ c s => withLen c 0
  (.ok false [s.pwr.state.code, s.pwr.wakeMask, s.pwr.lastWake,
    maskOf ((List.range 8).filter fun g => (s.region g).gated)] s)

end Sys2Proof.Machine
end

