-- ==== Sys2Proof/Machine/Mantels.lean ====
section
/-! DEFINITION. The Mantel areas, versions and the sealed image: what MANTEL, CTM and VERIFY commands and
the Mantel Engines share (R175-R217, R396). -/

namespace Sys2Proof.Machine

/-! ## Layout of an area (R180) -/

/-- Offset of the Canvas Tile Map. -/
def ctmPart : Nat := 0x1000000
/-- Offset of a head's sprite list in a buffer: buffer 0 of every head first (DEDUCED, assumption 20). -/
def spriteAt (buf h : Nat) : Nat := 0x3000000 + buf * 524288 + h * 4096
/-- Offset of a palette bank in a set. -/
def paletteAt (buf bank : Nat) : Nat := 0x3100000 + buf * 32768 + bank * 2048
/-- Offset of a head's backdrop and fault colours in a set. -/
def coloursAt (buf h : Nat) : Nat := colourPart + buf * colourSet + h * 136
/-- Offset of a place of the reference store (R205). -/
def refAt (h group slot : Nat) : Nat := 0x3200000 + ((h * 256 + group) * 8 + slot) * 8

/-- The Bureau's accesses on behalf of a Mantel command carry the S-port's ID (R408). -/
def mantelReq : Req := ⟨6, 16, 0⟩
/-- A fetch of a Mantel Engine (R323, R405). -/
def engineReq (copy : Nat) : Req := ⟨0, 55, if copy = 0 then 0 else 3⟩

/-- Write both copies (R181). -/
def State.mantelWrite (s : State) (off : Nat) (d : List Byte) : State :=
  ((s.write (s.mantel.areaA + off) d mantelReq).2.write (s.mantel.areaB + off) d mantelReq).2

/-- Syndrome of the first bad word of a 64-byte block. -/
def State.blockSyn (s : State) (a : Nat) : Nat :=
  match (wordsOf (a / 64 * 64) 64).find? fun w => 2 ≤ (s.mem.memory.judge w).kind with
  | some w => (s.mem.memory.judge w).syn
  | none => 0

/-- Post MANTEL.COPYFAULT: area (0 A, 1 B), offset and syndrome (R181). -/
def State.copyFault (s : State) (area off syn : Nat) : State :=
  s.postS 0x0C80 s.scopePkg [area, off, syn]

/-- Read part of a 64-byte block of the Mantel content: copy A, and copy B where A errs; `none` when both
err; a fault of one copy sets bit 47 of the region that holds it (R181, R182, R469). -/
def State.mantelBlock (s : State) (off n : Nat) : Option (List Byte) × State :=
  let r := s.readBlock (s.mantel.areaA + off) n (engineReq 0)
  if r.1 = .ok then (some r.2.1, r.2.2)
  else
    let s := r.2.2.copyFault 0 (off / 64 * 64) (s.blockSyn (s.mantel.areaA + off))
    let q := s.readBlock (s.mantel.areaB + off) n (engineReq 1)
    if q.1 = .ok then (some q.2.1, q.2.2.detect (s.mantel.areaA / regionSpan) 47 0)
    else (none, q.2.2.copyFault 1 (off / 64 * 64) (s.blockSyn (s.mantel.areaB + off)))

/-- Read a range of the Mantel content block by block; a block unreadable in both copies is `none`. -/
def State.mantelBlocks (s : State) (off n : Nat) : List (Option (List Byte) × Nat) × State :=
  (blocksOf off n).foldl (fun acc b =>
    let r := acc.2.mantelBlock b.1 b.2
    (acc.1 ++ [(r.1, b.2)], r.2)) ([], s)

/-- The bytes of a range, zeros where a block is unreadable, and whether all were readable. -/
def State.mantelRead (s : State) (off n : Nat) : List Byte × Bool × State :=
  let r := s.mantelBlocks off n
  (r.1.flatMap fun e => e.1.getD (List.replicate e.2 0), r.1.all (·.1.isSome), r.2)

/-! ## Versions (R195, R196) -/

/-- The buffer set that takes pending writes; none of them is taken during a commit. -/
def State.pendingBuf (s : State) : Nat := 1 - s.mantel.buf

/-- The version and buffer set that a head shows from its next commit line on, and whether it sees the
sealed CTM changes. During a commit a head that has not switched stays with the version in force. -/
def State.shownBy (s : State) (h : Nat) : Nat × Nat × Bool :=
  match s.mantel.sealed with
  | none => (s.mantel.version, s.mantel.buf, false)
  | some v => if (s.head h).switched then (v, 1 - s.mantel.buf, true) else (s.mantel.version, s.mantel.buf, false)

/-- Copy part of one buffer set to the other, in both areas. -/
def Memory.mirrorPart (m : Memory) (areas : List Nat) (src dst n gen : Nat) : Memory :=
  areas.foldl (fun m a => m.copyFrom m (a + src) (a + dst) n gen) m

/-- Entries that a CTM change writes: index in the window and value (R192, R194). -/
def CtmOp.entriesOf (o : CtmOp) : List (Nat × Nat) :=
  if o.fill then
    let e := o.entries.headD 0
    (List.range (o.last / 65536 + 1 - o.first / 65536)).flatMap fun y =>
      (List.range (o.last % 65536 + 1 - o.first % 65536)).map fun x =>
        ((o.first / 65536 + y) * 4096 + o.first % 65536 + x, e)
  else (List.range o.entries.length).map fun i => (o.first + i, o.entries.getD i 0)

/-- The value that a list of CTM changes gives an entry, the newest change first. -/
def ctmOverlay (ops : List CtmOp) (i : Nat) : Option Nat :=
  ops.reverse.findSome? fun o =>
    if o.fill then
      (if o.first / 65536 ≤ i / 4096 ∧ i / 4096 ≤ o.last / 65536 ∧ o.first % 65536 ≤ i % 4096 ∧ i % 4096 ≤ o.last % 65536
       then o.entries.head? else none)
    else if o.first ≤ i then o.entries[i - o.first]? else none

/-- Put the sealed CTM changes into the map of both areas. -/
def State.applyCtm (s : State) (ops : List CtmOp) : State :=
  ops.foldl (fun s o => o.entriesOf.foldl (fun s e => s.mantelWrite (ctmPart + 2 * e.1) (leBytes 2 e.2)) s) s

/-- End of a commit: the sealed version is in force, and the pending state starts as its copy; COMMITTED
is posted (R195, R196). -/
def State.endCommit (s : State) (v : Nat) : State :=
  let s := s.applyCtm s.mantel.sealedCtm
  let b := 1 - s.mantel.buf
  let areas := [s.mantel.areaA, s.mantel.areaB]
  let g := s.freeCtr
  let m := s.mem.memory.mirrorPart areas (spriteAt b 0) (spriteAt (1 - b) 0) 524288 g
  let m := m.mirrorPart areas (paletteAt b 0) (paletteAt (1 - b) 0) 32768 g
  let m := m.mirrorPart areas (coloursAt b 0) (coloursAt (1 - b) 0) colourSet g
  let lens := (List.range 128).foldl (fun t h => tset t (2 * h + (1 - b)) (tget 0 t (2 * h + b))) s.mantel.lens
  let s := { s with
    freeCtr := g + 1, mem := { s.mem with memory := m }
    mantel := { s.mantel with buf := b, version := v, sealed := none, sealedCtm := [], lens } }
  s.postS 0x0C82 s.scopePkg [v]

/-- A head that shows the sealed version, and whose frame in progress shows it too. -/
def Head.onVersion (h : Head) (v : Nat) : Bool :=
  !h.running || (h.switched && (!h.inFrame || (match h.frozen with
    | some f => f.version = v
    | none => true)))

/-- A commit ends when every head with running timing has switched (R196). -/
def State.settleMantel (s : State) : State :=
  match s.mantel.sealed with
  | none => s
  | some v => if s.heads.all fun e => e.2.onVersion v then s.endCommit v else s

/-- MANTEL.COMMIT seals the pending state; heads without running timing switch at once (R195, R196). -/
def State.seal (s : State) (v : Nat) : State :=
  { s with
    mantel := { s.mantel with sealed := some v, sealedCtm := s.mantel.pendingCtm, pendingCtm := [], ctmWrites := 0
                              ctmFills := 0, dirty := false }
    heads := s.heads.map fun e => (e.1, { e.2 with switched := !e.2.running }) }

/-! ## Arming (R197) -/

/-- Whether any head is armed, or is about to be. -/
def State.armedOrPending (s : State) : Bool := s.heads.any fun e => e.2.armed || e.2.pendingArm = some true

/-- Arm or disarm one head at its next commit line, or at once without running timing (R197, R574). -/
def State.armHead (s : State) (h : Nat) (on : Bool) : State :=
  s.modHead h fun d =>
    if d.running then { d with pendingArm := some on }
    else { d with armed := on, pendingArm := none }

/-! ## The image CRC (R201, R396) -/

/-- Bytes of the Mantel image. -/
def imageBytes : Nat := 0x01098628

/-- XOR of the columns of a 32 x 32 matrix that a word selects. -/
def gfMul : List Nat → Nat → Nat
  | [], _ => 0
  | c :: t, v => (if v % 2 = 1 then c else 0) ^^^ gfMul t (v / 2)

/-- Feed `n` zero bytes: the operator of one byte is squared for each bit of `n`. -/
def feedZeros : Nat → List Nat → Nat → Nat → Nat
  | 0, _, _, c => c
  | f + 1, m, n, c => feedZeros f (m.map (gfMul m)) (n / 2) (if n % 2 = 1 then gfMul m c else c)

/-- The operator of one zero byte. -/
def zeroByte : List Nat := (List.range 32).map fun i => crcShift 0x82F63B78 8 (2 ^ i)

/-- CRC-32C of `n` bytes of which a table lists those that are not 0. -/
def sparseCrc (t : Tab Nat) (n : Nat) : Nat :=
  let r := t.foldl (fun (acc : Nat × Nat) e =>
    if e.1 < n then (e.1 + 1, feed (feedZeros 26 zeroByte (e.1 - acc.1) acc.2) e.2) else acc) (0, 0xFFFFFFFF)
  (feedZeros 26 zeroByte (n - r.1) r.2) ^^^ 0xFFFFFFFF

/-! ## Moving the areas (R179) -/

/-- Bytes of each area that both copies hold, and the reference store of area A. -/
def copiedBytes : Nat := 0x3120000
def refPart : Nat := 0x3200000
def refBytes : Nat := 0x200000

/-- Blocks of a range whose words list an error that is not correctable. -/
def State.badBlocks (s : State) (a n : Nat) : List Nat :=
  ((s.mem.memory.err.filter fun e => a ≤ 8 * e.1 && 8 * e.1 < a + n && ((2 ≤ (s.mem.memory.judge e.1).kind : Bool))).map
    fun e => e.1 / 8 * 64).eraseDups

/-- The content of both areas moves to new bases: a block unreadable in the old area A comes from B, and
one unreadable in both is written poisoned and posted (R179). -/
def State.moveAreas (s : State) (na nb : Nat) : State :=
  let a := s.mantel.areaA
  let b := s.mantel.areaB
  let old := s.mem.memory
  let g := s.freeCtr
  let m := (old.copyFrom old a na copiedBytes g).copyFrom old a nb copiedBytes g
  let m := m.copyFrom old (a + refPart) (na + refPart) refBytes g
  let bad := s.badBlocks a copiedBytes
  let lost := bad.filter fun x => (wordsOf (b + (x - a)) 64).any fun w => 2 ≤ (old.judge w).kind
  let m := bad.foldl (fun (m : Memory) x =>
    if lost.contains x then
      [na, nb].foldl (fun (m : Memory) t => (wordsOf (t + (x - a)) 64).foldl (fun (m : Memory) w => m.setErr w poisonPat) m) m
    else [na, nb].foldl (fun (m : Memory) t => m.putBytes (t + (x - a)) (old.read (b + (x - a)) 64)) m) m
  let m := (s.badBlocks (a + refPart) refBytes).foldl (fun (m : Memory) x =>
    (wordsOf (na + (x - a)) 64).foldl (fun (m : Memory) w => if 2 ≤ (old.judge (w - na / 8 + a / 8)).kind then m.setErr w poisonPat else m) m) m
  let s := { s with freeCtr := g + 1, mem := { s.mem with memory := m }
                    mantel := { s.mantel with areaA := na, areaB := nb, newAreas := none } }
  lost.foldl (fun s x => s.copyFault 0 (x - a) 0) s

end Sys2Proof.Machine
end

