-- ==== Sys2Proof/Machine/CmdMantel.lean ====
section
/-! DEFINITION. The MANTEL, CTM and VERIFY commands (R175-R216, R395-R397). None of their parameters is
ever clamped (R176). -/

namespace Sys2Proof.Machine

/-- Refuse a safety command unless a condition holds (R176, R357). -/
def safe (b : Bool) (k : Res) : Res := if b then k else .err stRange

/-- Go on unless a commit is in progress (R196). -/
def noCommit (s : State) (k : Res) : Res := if s.mantel.sealed.isSome then .err stBusy else k

/-- The bytes of a list of words. -/
def wordBytes (l : List Nat) : List Byte := l.flatMap (leBytes 4)

/-! ## MANTEL.AREA (R178, R179, R412) -/

/-- Masks of a window that may hold a Mantel area (R416). -/
def mantelMasks (w : Window) : Bool := w.rmask = 0x0180000003FC0000 && w.wmask = 0x10000

/-- Whether an area may begin at an address: a multiple of 64 MiB, wholly in one present region and in one
window with the Mantel masks (R178, R412). -/
def State.areaOk (s : State) (a : Nat) : Bool :=
  a % areaBytes = 0 && a / regionSpan < 8 && s.regionState (a / regionSpan) = 1 &&
  a % regionSpan + areaBytes ≤ regionData &&
  (s.windows (a / regionSpan)).any fun w => w.2.holds (a % regionSpan) areaBytes && mantelMasks w.2

/-- MANTEL.AREA replies when the content has been copied; the present bases copy nothing (R179). -/
def bodyMantelArea : Body := fun port c s => withLen c 4
  (let a := c.p64 0
   let b := c.p64 2
   safe (s.areaOk a && s.areaOk b && a / regionSpan / 2 != b / regionSpan / 2)
     (if s.armedOrPending then .err stBusy
      else if a = s.mantel.areaA ∧ b = s.mantel.areaB then done s
      else .wait { s with mantel := { s.mantel with newAreas := some (a, b, port, c.tag) } }))

/-- Set the protected bits of the windows that hold an area, and clear all others (R412). -/
def State.markAreas (s : State) : State :=
  (List.range 8).foldl (fun s g =>
    s.modRegion g fun r => { r with windows := some ((s.windows g).map fun w =>
      (w.1, { w.2 with prot := (s.areasIn g).any fun a => w.2.holds a areaBytes })) }) s

/-! ## MANTEL.ATLAS, PALETTE, BACKDROP and SPRITES (R185-R189) -/

/-- MANTEL.ATLAS writes both copies at once (R181, R185). -/
def bodyMantelAtlas : Body := fun _ c s =>
  let n := c.p 1
  let d := wordBytes (c.params.drop 2)
  safe (1 ≤ n && n ≤ 960 && c.n = 2 + ceilDiv n 4 && c.p 0 + n ≤ 0x1000000 && (d.drop n).all (· = 0))
    (done (s.mantelWrite (c.p 0) (d.take n)))

/-- Reserved bits of palette entries and colours (R187). -/
def colourOk (l : List Nat) : Bool := l.all fun w => w &&& 0xF000F000 = 0

/-- Pending state has been written (R195). -/
def State.dirty (s : State) : State := { s with mantel := { s.mantel with dirty := true } }

/-- MANTEL.PALETTE (R187). -/
def bodyMantelPalette : Body := fun _ c s =>
  safe (c.p 0 ≤ 15 && c.p 1 ≤ 255 && 1 ≤ c.p 2 && c.p 2 ≤ 120 && c.p 1 + c.p 2 ≤ 256 && c.n = 3 + 2 * c.p 2 &&
      colourOk (c.params.drop 3))
    (noCommit s (done ((s.mantelWrite (paletteAt s.pendingBuf (c.p 0) + 8 * c.p 1) (wordBytes (c.params.drop 3))).dirty)))

/-- MANTEL.BACKDROP: 16 backdrop colours and the fault colour (R187). -/
def bodyMantelBackdrop : Body := fun _ c s =>
  safe (c.n = 34 && colourOk c.params)
    (noCommit s (done ((s.mantelWrite (coloursAt s.pendingBuf c.idx) (wordBytes c.params)).dirty)))

/-- Whether the four words of a sprite entry are in range (R189). -/
def spriteOk (l : List Nat) : Bool :=
  let ax := bits (l.getD 0 0) 15 0
  let ay := bits (l.getD 0 0) 31 16
  let w := bits (l.getD 1 0) 15 0
  let h := bits (l.getD 1 0) 31 16
  ax ≤ 4095 && ay ≤ 4095 && 1 ≤ w && w ≤ 512 && 1 ≤ h && h ≤ 512 && ax + w ≤ 4096 && ay + h ≤ 4096 &&
    bits (l.getD 3 0) 31 7 = 0

/-- MANTEL.SPRITES (R189). -/
def bodyMantelSprites : Body := fun _ c s =>
  let l := c.params.drop 3
  safe (c.p 0 ≤ 255 && 1 ≤ c.p 1 && c.p 1 ≤ 60 && c.p 0 + c.p 1 ≤ 256 && c.p 2 ≤ 256 && c.n = 3 + 4 * c.p 1 &&
      (List.range (c.p 1)).all fun i => spriteOk ((l.drop (4 * i)).take 4))
    (noCommit s
      (let t := (s.mantelWrite (spriteAt s.pendingBuf c.idx + 16 * c.p 0) (wordBytes l)).dirty
       done { t with mantel := { t.mantel with lens := tset t.mantel.lens (2 * c.idx + s.pendingBuf) (c.p 2) } }))

/-! ## MANTEL.COMMIT, ARM, STORE and READ (R195-R197, R216, R395) -/

/-- MANTEL.COMMIT (R195, R196). -/
def bodyMantelCommit : Body := fun _ c s =>
  safe (c.n = 1 && c.p 0 ≤ 65535)
    (noCommit s (safe (c.p 0 != s.mantel.version) (.ok false [c.p 0] (s.seal (c.p 0)))))

/-- MANTEL.ARM applies to both heads of a pair (R197). -/
def bodyMantelArm : Body := fun _ c s =>
  safe (c.n = 1 && c.p 0 ≤ 1) (done ((s.pairHeads c.idx).foldl (fun s h => s.armHead h (c.p 0 = 1)) s))

/-- Put bytes into the staging image; zeros are not listed. -/
def stageBytes (t : Tab Nat) (off : Nat) (d : List Byte) : Tab Nat :=
  (List.range d.length).foldl (fun t i =>
    let v := (d.getD i 0).toNat
    if v = 0 then tdel t (off + i) else tset t (off + i) v) t

/-- MANTEL.STORE: BEGIN empties the staging image, DATA copies bytes into it, SEAL checks the CRC and
seals it (R216, R395). -/
def bodyMantelStore : Body := fun port c s =>
  let phase := c.p 0
  let n := c.p 2
  let k := ceilDiv n 4
  let d := wordBytes ((c.params.drop 3).take k)
  safe (phase ≤ 2 && n ≤ 960 && c.n = 3 + k + (if phase = 2 then 1 else 0) && c.p 1 + n ≤ imageBytes &&
      (d.drop n).all (· = 0))
    (match phase, s.mantel.staging with
     | 0, _ => .ok false [0] { s with mantel := { s.mantel with staging := some [], storeHigh := 0 } }
     | _, none => .err stRange
     | 1, some t =>
       .ok false [s.mantel.storeHigh + n]
         { s with mantel := { s.mantel with staging := some (stageBytes t (c.p 1) (d.take n)), storeHigh := s.mantel.storeHigh + n } }
     | _, some t =>
       if sparseCrc t imageBytes = c.p (3 + k) then
         .wait { s with mantel := { s.mantel with sealing := some (port, c.tag) } }
       else .err stRange)

/-- MANTEL.READ (R395). -/
def bodyMantelRead : Body := fun _ c s =>
  safe (c.n = 0)
    (.ok false ([s.mantel.version, b2n s.mantel.dirty, b2n s.mantel.sealed.isSome] ++
      cut 3 ((List.range 32).foldr (fun k a => a * 8 + (if s.clusterState k = 0 then 0 else (s.pair k).state)) 0) ++
      cut 4 (maskOf ((s.heads.filter (·.2.armed)).map (·.1))) ++
      words64 s.mantel.areaA ++ words64 s.mantel.areaB) s)

/-! ## CTM (R192, R194) -/

/-- Entries packed two per word, lower index low. -/
def entriesOf (n : Nat) (l : List Nat) : List Nat :=
  (List.range n).map fun i => l.getD (i / 2) 0 / 65536 ^ (i % 2) % 65536

/-- Pack entries two per word. -/
def packEntries (l : List Nat) : List Nat :=
  (List.range (ceilDiv l.length 2)).map fun i => l.getD (2 * i) 0 + 65536 * l.getD (2 * i + 1) 0

/-- Queue a change for the pending version. -/
def State.addCtm (s : State) (o : CtmOp) (writes fills : Nat) : State :=
  { s with mantel := { s.mantel with
    pendingCtm := s.mantel.pendingCtm ++ [o], ctmWrites := s.mantel.ctmWrites + writes
    ctmFills := s.mantel.ctmFills + fills, dirty := true } }

/-- CTM.WRITE (R194). -/
def bodyCtmWrite : Body := fun _ c s =>
  let n := c.p 1
  let es := entriesOf n (c.params.drop 2)
  safe (1 ≤ n && n ≤ 480 && c.n = 2 + ceilDiv n 2 && c.p 0 + n ≤ 0x1000000 && es.all (· / 4096 ≤ 2) &&
      (n % 2 = 0 || c.p (1 + ceilDiv n 2) < 65536))
    (noCommit s (if 65536 < s.mantel.ctmWrites + n then .err stNoResource
      else done (s.addCtm { first := c.p 0, entries := es } n 0)))

/-- CTM.FILL: both corners in canvas tiles of the window, the second not before the first (R194). -/
def bodyCtmFill : Body := fun _ c s =>
  let wx := s.wx / 8
  let wy := s.wy / 8
  let x0 := bits (c.p 0) 15 0
  let y0 := bits (c.p 0) 31 16
  let x1 := bits (c.p 1) 15 0
  let y1 := bits (c.p 1) 31 16
  safe (c.n = 3 && c.p 2 < 12288 && wx ≤ x0 && x0 ≤ x1 && x1 < wx + 4096 && wy ≤ y0 && y0 ≤ y1 && y1 < wy + 4096)
    (noCommit s (if 256 ≤ s.mantel.ctmFills then .err stNoResource
      else done (s.addCtm { first := (x0 - wx) + 65536 * (y0 - wy), last := (x1 - wx) + 65536 * (y1 - wy), fill := true
                            entries := [c.p 2] } 0 1)))

/-- CTM.READ returns the version in force (R194). -/
def bodyCtmRead : Body := fun _ c s =>
  let n := c.p 1
  safe (c.n = 2 && 1 ≤ n && n ≤ 480 && c.p 0 + n ≤ 0x1000000)
    (let r := s.mantelRead (ctmPart + 2 * c.p 0) (2 * n)
     .ok false (packEntries ((List.range n).map fun i => ofLe ((r.1.drop (2 * i)).take 2))) r.2.2)

/-! ## VERIFY (R204-R214, R397) -/

/-- Reaction defaults by result kind (R210). -/
def reactOf (k : Nat) : React :=
  [{ notify := 2, errPin := true }, { notify := 1 }, { notify := 2 }, { notify := 1 }, { threshold := 2, notify := 1 }].getD k {}

/-- The reaction setting of a head for a result kind. -/
def Head.reaction (h : Head) (k : Nat) : React := tget (reactOf k) h.reacts k

/-- Distance of a sequence number from another, modulo 2^16. -/
def seqDist (a b : Nat) : Nat := (a + 65536 - b % 65536) % 65536

/-- The three words of entry `i` of VERIFY.EXPECT: group, sequence number, version and signature. -/
def expectAt (c : Cmd) (i : Nat) : Nat × Nat × Nat × Nat :=
  (bits (c.p (3 * i)) 7 0, bits (c.p (3 * i)) 31 16, bits (c.p (3 * i + 1)) 15 0, c.p (3 * i + 2))

/-- Store one expected signature in a head's occupied places: the place it takes, or none when the 8 of its
group are full (R205, R206). -/
def Head.placeRef (h : Head) (g q v : Nat) : Option (Nat × Head) :=
  match h.refs.find? fun e => e.group = g && e.q = q && e.ver = v with
  | some e => some (e.slot, h)
  | none =>
    match (List.range 8).find? fun k => !(h.refs.any fun e => e.group = g && e.slot = k) with
    | some k => some (k, { h with refs := h.refs ++ [{ group := g, q, ver := v, slot := k }] })
    | none => none

/-- Store entries one after another; `none` when a group has no place left (R206). -/
def State.storeRefs (s : State) (h : Nat) : List (Nat × Nat × Nat × Nat) → Option State
  | [] => some s
  | (g, q, v, sig) :: t =>
    match (s.head h).placeRef g q v with
    | none => none
    | some (k, hd) =>
      ((s.setHead h hd).write (s.mantel.areaA + refAt h g k) (leBytes 8 (q + 65536 * v + 2 ^ 32 * sig)) mantelReq).2.storeRefs h t

/-- Entries behind the next frame to be compared are free (R206). -/
def Head.dropStale (h : Head) : Head :=
  { h with refs := h.refs.filter fun e => seqDist e.q h.seq < 32768 }

/-- VERIFY.EXPECT (R205, R206). -/
def bodyVerifyExpect : Body := fun _ c s =>
  let n := c.n / 3
  let h := c.idx
  let k := (s.head h).seq
  let es := (List.range n).map (expectAt c)
  let stale (q : Nat) : Bool := 1 ≤ seqDist k q && seqDist k q ≤ 64
  safe (c.n = 3 * n && 1 ≤ n && n ≤ 80 &&
      (List.range n).all fun i => bits (c.p (3 * i)) 15 8 = 0 && bits (c.p (3 * i + 1)) 31 16 = 0 &&
        (seqDist (es.getD i (0, 0, 0, 0)).2.1 k < 64 || stale (es.getD i (0, 0, 0, 0)).2.1))
    (match (s.modHead h Head.dropStale).storeRefs h (es.filter fun e => !stale e.2.1) with
     | none => .err stNoResource
     | some t =>
       let old := (List.range n).filter fun i => stale (es.getD i (0, 0, 0, 0)).2.1
       .ok false ([n - old.length, old.length] ++ old) t)

/-- VERIFY.REACT sets a reaction of one head, or of all (R210). -/
def bodyVerifyReact : Body := fun _ c s =>
  safe (c.n = 5 && c.p 0 ≤ 4 && 1 ≤ c.p 1 && c.p 1 ≤ 16 && c.p 2 ≤ 2 && c.p 3 ≤ 1 && c.p 4 ≤ 2)
    (let r : React := { threshold := c.p 1, notify := c.p 2, errPin := c.p 3 = 1, action := c.p 4 }
     let hs := if c.level = 4 then [c.idx] else List.range 128
     done (hs.foldl (fun s h => s.modHead h fun d => { d with reacts := tset d.reacts (c.p 0) r }) s))

/-- VERIFY.RELEASE: the normal picture returns at the next commit line, at once without running timing, and
the counters are 0 (R213). -/
def bodyVerifyRelease : Body := fun _ c s =>
  safe (c.n = 0) (done (s.modHead c.idx fun d =>
    { d with releasing := d.running && (d.action ≠ 0 || d.pendingAction.isSome), action := if d.running then d.action else 0
             pendingAction := if d.running then d.pendingAction else none
             counters := [0, 0, 0, 0, 0], fired := [false, false, false, false, false] }))

/-- VERIFY.TILES (R204). -/
def bodyVerifyTiles : Body := fun _ c s =>
  safe (c.n = 1 && c.p 0 ≤ 255) (done (s.modHead c.idx fun d => { d with tilesReq := addTo d.tilesReq (c.p 0) }))

/-- Whether the echo can run on a head: an SST binding to a sink that computes the test CRC (R214). -/
def State.echoAble (s : State) (h : Nat) : Bool :=
  let b := (s.head h).bind
  b.link < 96 && !b.mst && (match (s.link b.link).sink with
    | some d => d.testCrc
    | none => false)

/-- VERIFY.ECHO (R214). -/
def bodyVerifyEcho : Body := fun _ c s =>
  safe (c.n = 1 && c.p 0 ≤ 1)
    (.ok false [b2n (!s.echoAble c.idx)] (s.modHead c.idx fun d =>
      { d with echo := c.p 0 = 1, echoResult := if c.p 0 = 1 then 3 else 0, echoIdle := 0, testCrcs := [] }))

/-- VERIFY.SAFEFILL (R212). -/
def bodyVerifySafefill : Body := fun _ c s =>
  safe (c.n = 2 && c.p 0 &&& 0xF000F000 = 0 && c.p 1 ≤ 0xFFF)
    (done (s.modHead c.idx fun d => { d with safe := [bits (c.p 0) 11 0, bits (c.p 0) 27 16, c.p 1] }))

/-- VERIFY.READ (R397). -/
def bodyVerifyRead : Body := fun _ c s =>
  safe (c.n = 0)
    (let d := s.head c.idx
     .ok false (d.counters ++ (List.range 5).flatMap (fun k =>
       let r := d.reaction k
       [k, r.threshold, r.notify, b2n r.errPin, r.action]) ++ [d.action]) s)

end Sys2Proof.Machine
end

