-- ==== Sys2Proof/Machine/Load.lean ====
section
/-! DEFINITION. The quantities of admission: span costs and their assignment to LEs, Blender load, and
the bandwidth reserved in each region (R160-R168). -/

namespace Sys2Proof.Machine

/-! ## Spans (R108-R111, R163, R164) -/

/-- Line period of a head in compositor clocks of `f` Hz. -/
def Head.clocks (h : Head) (f : Nat) : Q :=
  let r := h.rateP
  Q.mk' ((h.modeP.getD {}).htot * f * r.2) (max 1 r.1)

/-- A span on its way to an LE. -/
structure Span where
  head : Nat
  z : Nat
  layer : Nat
  /-- First destination pixel of the span in its head part, in panel order. -/
  first : Nat
  /-- Its cost in clocks and its share of a line period. -/
  cost : Nat
  weight : Q
  direct : Bool
  /-- Index of its head part. -/
  part : Nat
  deriving DecidableEq, Repr

/-- First destination pixel of span `i` of `m` in a head part of `w` pixels (R164). -/
def spanStart (w m i : Nat) : Nat := if i = m then w else 64 * (i * w / (64 * m))

/-- New across-axis lines of a part's heaviest line: all its taps on the first line, one line where the
axis is not scaled (R94, R103). -/
def Part.newMax (p : Part) (t : Nat) : Nat := if p.across.scaled then runTaps p.across.step t else 1

/-- Cost of the destination pixels `a` up to `b` of a head part, in panel order (R108, R163, R261). -/
def Part.cost (p : Part) (l : Layer) (a b : Nat) : Nat :=
  let w := if b ≤ a then 0 else if l.direct then p.along.cut
    else if p.alongDown then p.width l.source (p.along.kHi - (b - 1 : Nat)) (p.along.kHi - a)
    else p.width l.source (p.along.kLo + a) (p.along.kLo + (b - 1 : Nat))
  max (ceilDiv (b - a) 2) (ceilDiv (w * p.newMax l.taps) 4) + 16 + (if l.source.format = 9 then 128 else 0)

/-- The spans of a head part cut into `m`. -/
def State.spansOf (s : State) (f : Nat) (pi m : Nat) (p : Part) : List Span :=
  let l := s.layer p.layer
  let c := (s.head p.head).clocks f
  (List.range m).map fun i =>
    let a := spanStart p.along.len m i
    let cost := p.cost l a (spanStart p.along.len m (i + 1))
    { head := p.head, z := l.applied.z, layer := p.layer, first := a, cost
      weight := Q.mk' (cost * c.den) (max 1 c.num), direct := l.direct, part := pi }

/-- Whether a span comes before another: the heavier first, then by head, z and layer. -/
def Span.before (a b : Span) : Bool :=
  b.weight.lt a.weight || (!a.weight.lt b.weight &&
    (a.head < b.head || a.head = b.head && (a.z < b.z || a.z = b.z &&
      (a.layer < b.layer || a.layer = b.layer && a.first < b.first))))

/-- Insert a span into an ordered list. -/
def Span.insert (x : Span) : List Span → List Span
  | [] => [x]
  | y :: t => if x.before y then x :: y :: t else y :: Span.insert x t

/-- Spans in the order of R164. -/
def sortSpans (l : List Span) : List Span := l.foldl (fun a x => x.insert a) []

/-- What an LE slot carries. -/
structure LeLoad where
  slot : Nat
  load : Q := Q.zero
  spans : List Span := []
  deriving DecidableEq, Repr

/-- The LE that takes a span: the one that holds the same direct layer, else the least loaded, the lower
slot on ties (R164, R261). -/
def pickLe (les : List LeLoad) (x : Span) : Nat :=
  match les.find? fun e => x.direct && e.spans.any (·.layer = x.layer) with
  | some e => e.slot
  | none => match les with
    | [] => 15
    | e :: t => (t.foldl (fun (b : LeLoad) c => if c.load.lt b.load then c else b) e).slot

/-- Put the ordered spans on LEs. -/
def putSpans (les : List LeLoad) : List Span → List LeLoad
  | [] => les
  | x :: t =>
    let k := pickLe les x
    putSpans (les.map fun e =>
      if e.slot = k then { e with load := e.load.add x.weight, spans := e.spans ++ [x] } else e) t

/-- An LE within the limits of checks 2 and 3. -/
def LeLoad.fits (e : LeLoad) : Bool := e.spans.length ≤ 16 && !(Q.lt ⟨95, 100⟩ e.load)

/-- Rounds of the procedure of R164: `ms` counts the spans of each head part. -/
def assignLoop (s : State) (f : Nat) (slots : List Nat) (ps : List Part) (xs0 : List Span) : Nat → List Nat → List LeLoad
  | 0, _ => []
  | n + 1, ms =>
    let xs := sortSpans ((((List.range ps.length).zip (ps.zip ms)).flatMap fun e => s.spansOf f e.1 e.2.2 e.2.1) ++ xs0)
    let les := putSpans (slots.map fun k => { slot := k }) xs
    if les.all (·.fits) then les
    else match xs.find? fun x => decide (ms.getD x.part 4 < 4) with
      | none => les
      | some x => assignLoop s f slots ps xs0 n (ms.set x.part (ms.getD x.part 4 + 1))

/-- The layer ID that stands for the composite among the spans of a head; no layer has it (R542). -/
def compositeLayer : Nat := 1024

/-- The span that passes the composite of another package through, for each head of a cluster that takes
one: it is never cut (R542). -/
def State.compositeSpans (s : State) (c f : Nat) : List Span :=
  (s.composites c).map fun e =>
    let k := (s.head e.1).clocks f
    let cost := ceilDiv e.2 2 + 16
    { head := e.1, z := 0, layer := compositeLayer, first := 0, cost
      weight := Q.mk' (cost * k.den) (max 1 k.num), direct := false, part := 1024 * 4 }

/-- Nothing of a cluster needs an LE. -/
def State.noSpans (s : State) (c : Nat) : Bool :=
  ((s.clusterParts c).filter (·.drawn)).isEmpty && (s.composites c).isEmpty

/-- The assignment of a cluster's spans to a list of LE slots; on failure the last one tried (R164). -/
def State.assignOn (s : State) (c : Nat) (slots : List Nat) : List LeLoad :=
  let ps := (s.clusterParts c).filter (·.drawn)
  assignLoop s (s.regionF (c / 4)) slots ps (s.compositeSpans c (s.regionF (c / 4))) (3 * ps.length + 1) (List.replicate ps.length 1)

/-- The assignment of a cluster's spans to its active LEs. -/
def State.assignment (s : State) (c : Nat) : List LeLoad := s.assignOn c (s.activeSlots c)

/-- Sum of the span weights of a cluster, one span per head part. -/
def State.weights (s : State) (c : Nat) : Q :=
  Q.sum (((s.clusterParts c).filter (·.drawn)).flatMap fun p => (s.spansOf (s.regionF (c / 4)) 0 1 p).map (·.weight)) |>.add
    (Q.sum ((s.compositeSpans c (s.regionF (c / 4))).map (·.weight)))

/-- Blender load of a cluster (R165). -/
def State.blender (s : State) (c : Nat) : Q :=
  Q.sum (((List.range 4).map (4 * c + ·)).map fun h =>
    match (s.head h).modeP with
    | none => Q.zero
    | some m =>
      let k := (s.head h).clocks (s.regionF (c / 4))
      Q.mk' (ceilDiv m.wa 4 * k.den) (max 1 k.num))

/-! ## Bytes of a head part's lines (R93, R94, R167) -/

/-- First and last across-axis index that a count's window needs. -/
def Part.window (p : Part) (t : Nat) (k : Int) : Nat × Nat :=
  let b := idxOf p.across.step k
  let n : Int := if p.across.scaled then runTaps p.across.step t / 2 else 0
  let top : Int := (p.across.cut : Int) - 1
  ((clampI 0 top (if p.across.scaled then b - n + 1 else b)).toNat, (clampI 0 top (b + n)).toNat)

/-- First and last chroma line, or column for a rotated read, that buffer lines `a` to `b` need (R97). -/
def chromaOf (x : Scale) (rotated : Bool) (lo hi a b : Nat) : Nat × Nat :=
  if !x.interp then (a / 2, b / 2)
  else if (if rotated then x.hCentred else x.vCentred) then
    (max lo (if a % 2 = 0 then a / 2 - 1 else a / 2), min hi (if b % 2 = 0 then b / 2 else b / 2 + 1))
  else (max lo (a / 2), min hi ((b + 1) / 2))

/-- Elements across that one fetched unit of a plane covers: a line of a linear buffer, a micro-block band
of a tiled one, and for a rotated read the columns that share 64-byte blocks (R86, R167). -/
def unitAcross (src : Source) (pl : Nat) (rotated : Bool) : Nat :=
  if !src.tiled then 1 else if rotated then max 4 (16 / elemBytes src.format pl) else 4

/-- 64-byte blocks of one fetched unit, over buffer positions `a` up to `b` of the along axis. -/
def unitBlocks (src : Source) (pl : Nat) (rotated : Bool) (a b : Nat) : Nat :=
  let e := elemBytes src.format pl
  let g := if rotated then elemH src.format pl else elemW src.format pl
  if !src.tiled then (b - a) / g * e / 64
  else
    let m0 := a / g / 4
    let m1 := ceilDiv (ceilDiv b g) 4
    if rotated then (m1 - m0) * max 1 (e / 4) else ceilDiv (m1 * 16 * e) 64 - m0 * 16 * e / 64

/-- The units of a plane that one destination line needs: first and last. -/
def Part.units (p : Part) (l : Layer) (pl : Nat) (k : Int) : Nat × Nat :=
  let w := p.window l.taps k
  let a := p.across.org + w.1
  let b := p.across.org + w.2
  let r := if pl = 0 then (if p.rotated then (a / elemW l.source.format 0, b / elemW l.source.format 0) else (a, b))
    else chromaOf l.scale p.rotated (p.across.org / 2) ((p.across.org + p.across.cut - 1) / 2) a b
  (r.1 / unitAcross l.source pl p.rotated, r.2 / unitAcross l.source pl p.rotated)

/-- Units of a line that no earlier line fetched; earlier lines fetched `hull`. -/
def newUnits (hull : Option (Nat × Nat)) (r : Nat × Nat) : Nat × Option (Nat × Nat) :=
  match hull with
  | none => (r.2 + 1 - r.1, some r)
  | some h => ((h.1 - r.1) + (r.2 - h.2), some (min h.1 r.1, max h.2 r.2))

/-- The drawn counts of the across axis in panel order. -/
def Part.lines (p : Part) : List Int :=
  let up := (List.range p.across.len).map fun (n : Nat) => p.across.kLo + n
  if p.acrossDown then up.reverse else up

/-- bytes(y) of one plane for every drawn line of a head part, in panel order (R167). -/
def Part.bytesOf (p : Part) (l : Layer) (pl : Nat) : List Nat :=
  let x := p.along.extent (fetchUnit l.source p.rotated) p.along.kLo p.along.kHi
  let blk := unitBlocks l.source pl p.rotated x.1 x.2
  (p.lines.foldl (fun (a : List Nat × Option (Nat × Nat)) k =>
    let n := newUnits a.2 (p.units l pl k)
    (a.1 ++ [64 * blk * n.1], n.2)) ([], none)).1

/-- Sum of two lists of lines. -/
def addLines : List Nat → List Nat → List Nat
  | a :: s, b :: t => (a + b) :: addLines s t
  | [], t => t
  | s, [] => s

/-- Largest sum over 16 consecutive entries. -/
def peak16 (l : List Nat) : Nat :=
  (List.range l.length).foldl (fun m i => max m (((l.drop i).take 16).foldl (· + ·) 0)) 0

/-! ## Charges (R29, R167, R344) -/

/-- A reservation in a region: bytes per second on average and at peak. -/
structure Charge where
  region : Nat
  avg : Q
  peak : Q
  deriving DecidableEq, Repr

/-- The charge of lines of `h`, fetched once per frame. -/
def Head.charge (h : Head) (g : Nat) (ls : List Nat) : Charge :=
  let m := h.modeP.getD {}
  let r := h.rateP
  { region := g
    avg := Q.mk' (ls.foldl (· + ·) 0 * r.1) (max 1 (r.2 * m.htot * m.vtot))
    peak := Q.mk' (peak16 ls * r.1) (max 1 (16 * r.2 * m.htot)) }

/-- Buffers that a layer may fetch from: the current one, those of queued flips, and the ring's for a
bound layer (R29, R154, R575). -/
def State.chargeBases (s : State) (l : Layer) : List (List Nat) :=
  if l.bindMode = 1 then (s.input l.bindInput).bufs
  else
    let cur := match l.current with
      | some f => f.bases
      | none => if l.sourced then l.source.bases else []
    (cur :: l.queue.map (·.bases)).filter (· ≠ [])

/-- Regions that hold a plane of the layer's buffers. -/
def State.planeRegions (s : State) (l : Layer) (pl : Nat) : List Nat :=
  (s.chargeBases l).foldl (fun a b => match b[pl]? with
    | some x => addTo a (x / regionSpan)
    | none => a) []

/-- Charges of a head part: its planes together in each region that holds one. -/
def State.partCharges (s : State) (p : Part) : List Charge :=
  let l := s.layer p.layer
  if l.direct ∨ !p.drawn then []
  else
    let pls := List.range (fmtPlanes l.source.format)
    let gs := pls.foldl (fun a pl => (s.planeRegions l pl).foldl addTo a) []
    gs.map fun g => (s.head p.head).charge g
      ((pls.filter fun pl => (s.planeRegions l pl).contains g).foldl (fun a pl => addLines a (p.bytesOf l pl)) [])

/-- Bytes of a line of a plane in a captured frame, and lines of the plane. -/
def Input.planeLine (i : Input) (pl : Nat) : Nat × Nat :=
  (lineBytes i.capFormat pl i.capW, i.capH / elemH i.capFormat pl)

/-- Charges of an input's capture (R167). -/
def Input.charges (i : Input) : List Charge :=
  if !i.capOn then []
  else
    let pls := List.range (fmtPlanes i.capFormat)
    let inRegion (g pl : Nat) : Bool := i.bufs.any fun b => b.getD pl 0 / regionSpan = g
    let gs := pls.foldl (fun a pl => i.bufs.foldl (fun a b => addTo a (b.getD pl 0 / regionSpan)) a) []
    gs.map fun g =>
      let mine := pls.filter (inRegion g)
      let frame := mine.foldl (fun a pl => a + (i.planeLine pl).1 * (i.planeLine pl).2) 0
      let win := mine.foldl (fun a pl => a + (i.planeLine pl).1 * min (i.planeLine pl).2 (16 / elemH i.capFormat pl)) 0
      { region := g, avg := ⟨i.fmax * frame, 1⟩
        peak := if i.linePs = 0 then Q.mk' (win * i.fmax * i.capH) 16 else Q.mk' (win * 10 ^ 12) (16 * i.linePs) }

/-- The words of a head's sprite list in the version in force. -/
def State.spriteWords (s : State) (h : Nat) : List (List Nat) :=
  (List.range (tget 0 s.mantel.lens (2 * h + s.mantel.buf))).map fun i =>
    ofLeWords (s.mem.memory.read (s.mantel.areaA + spriteAt s.mantel.buf h + 16 * i) 16)

/-- A run of lines that each need the same bytes: Canvas Tile Map rows and atlas rows of a sprite are
such runs of `each` lines, one after the other from line `first`, `count` of them (R167, R191). -/
structure RowRun where
  first : Nat
  count : Nat
  each : Nat
  bytes : Nat
  seen : Bool
  deriving DecidableEq, Repr

/-- Bytes of the row that covers line `y`, and of the row that begins on it. -/
def RowRun.here (r : RowRun) (y : Nat) : Nat :=
  if r.seen ∧ r.first ≤ y ∧ y < r.first + r.count * r.each then r.bytes else 0
def RowRun.fresh (r : RowRun) (y : Nat) : Nat := if (y - r.first) % r.each = 0 then r.here y else 0

/-- The atlas rows of an enabled sprite along the lines of a head: rows of the atlas, or columns for a
head whose lines run along y; seen when the viewport shows a part of them. -/
def Head.spriteRun (hd : Head) (w : List Nat) : RowRun :=
  let v := hd.view
  let r := bits (w.getD 3 0) 5 4 + 1
  let ww := w.getD 1 0 % 65536
  let hh := w.getD 1 0 / 65536
  let cx := w.getD 2 0 % 65536
  let cy := w.getD 2 0 / 65536
  if turned hd.orient then ⟨cx, ww, r, hh, cy < v.y + v.h && v.y < cy + hh * r⟩
  else ⟨cy, hh, r, ww, cx < v.x + v.w && v.x < cx + ww * r⟩

/-- The Canvas Tile Map rows along the lines of a head, two bytes for each tile. -/
def Head.tileRun (hd : Head) : RowRun :=
  let v := hd.view
  let xs := (v.x + v.w - 1) / 8 + 1 - v.x / 8
  let ys := (v.y + v.h - 1) / 8 + 1 - v.y / 8
  if turned hd.orient then ⟨v.x / 8 * 8, xs, 8, 2 * ys, true⟩ else ⟨v.y / 8 * 8, ys, 8, 2 * xs, true⟩

/-- Mantel bytes of a head in a frame, and in each window of 16 consecutive lines: every row that a
line of the window touches, once (R167). -/
def State.mantelBytes (s : State) (h : Nat) : Nat × List Nat :=
  let hd := s.head h
  let v := hd.view
  let lo := if turned hd.orient then v.x else v.y
  let n := if turned hd.orient then v.w else v.h
  let runs := hd.tileRun :: ((s.spriteWords h).filter fun w => bit (w.getD 3 0) 6).map hd.spriteRun
  let total (f : RowRun → Nat) : Nat := runs.foldl (fun a r => a + f r) 0
  let fresh := (List.range n).map fun i => total (·.fresh (lo + i))
  (total fun r => r.count * r.bytes,
   (List.range (max 1 (n - 15))).map fun i => total (·.here (lo + i)) + ((fresh.drop (i + 1)).take 15).foldl (· + ·) 0)

/-- The Mantel charge of a head, in the region of area A, armed or not (R167, R181). -/
def State.mantelCharge (s : State) (h : Nat) : List Charge :=
  match (s.head h).modeP with
  | none => []
  | some m =>
    let l := s.mantelBytes h
    let r := (s.head h).rateP
    [{ region := s.mantel.areaA / regionSpan
       avg := Q.mk' (l.1 * r.1) (max 1 (r.2 * m.htot * m.vtot))
       peak := Q.mk' (l.2.foldl max 0 * r.1) (max 1 (16 * r.2 * m.htot)) }]

/-- The charge of an audio ring: 0.002 GB/s. -/
def Audio.charge (a : Audio) : List Charge :=
  if a.enabled then [{ region := a.base / regionSpan, avg := ⟨2000000, 1⟩, peak := ⟨2000000, 1⟩ }] else []

/-- Every reservation of the package. -/
def State.charges (s : State) : List Charge :=
  (s.heads.flatMap fun e => (s.ownLayers e.2).flatMap fun l =>
    match l.2.part l.1 e.1 e.2 with
    | some p => s.partCharges p
    | none => []) ++
  s.inputs.flatMap (·.2.charges) ++ s.heads.flatMap (fun e => s.mantelCharge e.1) ++ s.audio.flatMap (·.2.charge)

/-- The memory rate that admission judges a region at: the lower of the rates of a step in progress. -/
def State.rateOf (s : State) (g : Nat) : Nat :=
  let r := s.memRate (g / 4)
  min r.mbit (r.target.getD r.mbit)

/-- Limits of checks 5 and 6 in bytes per second, with retired pseudo-channels taken off (R166, R344). -/
def State.avgLimit (s : State) (g : Nat) : Nat := s.rateOf g * 40320000 * (s.pcsOf g).length / 16
def State.peakLimit (s : State) (g : Nat) : Nat := s.rateOf g * 44800000 * (s.pcsOf g).length / 16

/-! ## Orbit (R501) -/

/-- A head as if its viewport were larger by the orbit amplitude on every side. -/
def Head.swollen (h : Head) : Head :=
  if h.orbitA = 0 then h
  else match h.modeP with
    | none => h
    | some m => { h with
        ox := h.ox - h.orbitA, oy := h.oy - h.orbitA
        pendingMode := some { m with wa := m.wa + 2 * h.orbitA, ha := m.ha + 2 * h.orbitA } }

/-- The configuration that admission judges. -/
def State.judged (s : State) : State :=
  { s with heads := s.heads.map fun e => (e.1, e.2.swollen) }

/-! ## Admission (R160-R162) -/

/-- One quantity of R161: check, unit, and what it is and what it may be; `need` and `avail` as a refusal
reports them. -/
structure Quantity where
  check : Nat
  unit : Nat
  amount : Q
  limit : Q
  need : Nat
  avail : Nat
  deriving DecidableEq, Repr

/-- A quantity above its limit. -/
def Quantity.over (q : Quantity) : Bool := q.limit.lt q.amount

/-- Clusters that have heads, ascending. -/
def State.clustersUsed (s : State) : List Nat :=
  (List.range 32).filter fun c => s.heads.any fun e => e.1 / 4 = c

/-- The quantities of the package, in the order of R161. -/
def State.quantities (s0 : State) : List Quantity :=
  let s := s0.judged
  let cs := s.clustersUsed
  let les := cs.map fun c => (c, s.assignment c)
  let slot (c k : Nat) : Nat := s.scopeOf 3 c + 65536 * k
  let lim : Q := ⟨95, 100⟩
  let ch := s.charges
  let gs := (List.range 8).filter fun g => s.regionState g = 1
  (cs.map fun c => ⟨1, noSlot (s.scopeOf 3 c), ⟨s.segsOf c, 1⟩, ⟨384, 1⟩, s.segsOf c, 384⟩) ++
  (les.flatMap fun e => e.2.map fun k => ⟨2, slot e.1 k.slot, ⟨k.spans.length, 1⟩, ⟨16, 1⟩, k.spans.length, 16⟩) ++
  (les.flatMap fun e =>
    if (s.activeSlots e.1).isEmpty then
      [⟨3, noSlot (s.scopeOf 3 e.1), s.weights e.1, ⟨0, 1⟩, (s.weights e.1).up 1024, 0⟩]
    else e.2.map fun k => ⟨3, slot e.1 k.slot, k.load, lim, k.load.up 1024, 972⟩) ++
  (cs.map fun c => ⟨4, noSlot (s.scopeOf 3 c), s0.blender c, lim, (s0.blender c).up 1024, 972⟩) ++
  (gs.map fun g =>
    let a := Q.sum ((ch.filter (·.region = g)).map (·.avg))
    ⟨5, noSlot (s.scopeOf 2 g), a, ⟨s.avgLimit g, 1⟩, ceilDiv a.num (max 1 a.den * 1000000), s.avgLimit g / 1000000⟩) ++
  (gs.map fun g =>
    let a := Q.sum ((ch.filter (·.region = g)).map (·.peak))
    ⟨6, noSlot (s.scopeOf 2 g), a, ⟨s.peakLimit g, 1⟩, ceilDiv a.num (max 1 a.den * 1000000), s.peakLimit g / 1000000⟩)

/-- The first check that a change fails: the line streams of a link (R542), or a quantity above its limit
that the change raises, or whose limit it lowers (R160, R162). -/
def admissionFails (old new : State) : Option Quantity :=
  match old.streamOver new with
  | some x => some ⟨0, x.1, ⟨x.2.1, 1⟩, ⟨x.2.2, 1⟩, x.2.1, x.2.2⟩
  | none =>
    let was := old.quantities
    new.quantities.find? fun q => q.over &&
      match was.find? fun p => p.check = q.check && p.unit = q.unit with
      | none => true
      | some p => p.amount.lt q.amount || q.limit.lt p.limit

/-- Whether a state passes every check. -/
def State.passes (s : State) : Bool := s.quantities.all fun q => !q.over

/-- Bandwidth reserved in a region, in MB/s, rounded up (R502). -/
def State.reservedMBs (s : State) (g : Nat) : Nat :=
  let a := Q.sum ((s.judged.charges.filter (·.region = g)).map (·.avg))
  ceilDiv a.num (max 1 a.den * 1000000)

/-! ## Plans (R164, R489, R491) -/

/-- Checks 1-4 of one cluster hold. -/
def State.clusterPasses (s : State) (c : Nat) : Bool :=
  s.segsOf c ≤ 384 && (s.assignment c).all (·.fits) &&
    (!(s.activeSlots c).isEmpty || s.noSpans c) && !(Q.lt ⟨95, 100⟩ (s.blender c))

/-- A free slot: no applied mode, no binding and no pair (R491). -/
def State.freeHead (s : State) (h : Nat) : Bool :=
  s.headState h = 1 && (s.head h).modeP.isNone && (s.head h).bindP.link = 255 && (s.head h).pair.isNone

/-- Heads moved to other slots, for trying out a plan. -/
def State.tryMove (s : State) (mv : List (Nat × Nat)) : State :=
  mv.foldl (fun s e => (s.setHead e.2 (s.head e.1)).setHead e.1 {}) s

/-- Slots of a die in the order a plan looks for targets: the cluster's own region first (R491). -/
def planOrder (c : Nat) : List Nat :=
  let g := c / 4
  let die := c / 16
  (List.range 16).map (16 * g + ·) ++ ((List.range 64).map (64 * die + ·)).filter (· / 16 ≠ g)

/-- Plan targets for a list of heads, each pair together; `got` lists the moves made so far. -/
def planHeads (s : State) (c : Nat) : List Nat → List (Nat × Option Nat) → List (Nat × Option Nat)
  | [], got => got
  | h :: t, got =>
    if got.any (·.1 = h) then planHeads s c t got
    else
      let moved := got.filterMap fun e => e.2.map (e.1, ·)
      let s' := s.tryMove moved
      let fits (mv : List (Nat × Nat)) (d : Nat) : Bool := !(s.cluster d).retired && (s'.tryMove mv).clusterPasses d
      let pairWith := (s.head h).pair.map (·.1)
      let ok (x : Nat) : Bool := x / 4 ≠ c && s'.freeHead x &&
        (match pairWith with
         | some b => x % 2 = 0 && s'.freeHead (x + 1) && fits [(h, x), (b, x + 1)] (x / 4)
         | none => fits [(h, x)] (x / 4))
      let r := (planOrder c).find? ok
      planHeads s c t (got ++ [(h, r)] ++ (match pairWith with
        | some b => [(b, r.map (· + 1))]
        | none => []))

/-- The migration plan of a cluster: its heads with a mode and their targets (R491). -/
def State.planOf (s : State) (c : Nat) : List (Nat × Option Nat) :=
  planHeads s c (((List.range 4).map (4 * c + ·)).filter fun h => (s.head h).modeP.isSome) []

/-- The redistribution plan passes: the spans fit on the active LEs without any one of them (R489). -/
def State.redistribOk (s : State) (c : Nat) : Bool :=
  (s.activeSlots c).all fun k =>
    let rest := (s.activeSlots c).filter (· ≠ k)
    (s.assignOn c rest).all (·.fits) && (!rest.isEmpty || s.noSpans c)

/-- Whether the timing of a head of a cluster runs. -/
def State.drives (s : State) (c : Nat) : Bool := (List.range 4).any fun j => (s.head (4 * c + j)).running

/-- The spans that the configuration gives the active LEs of a cluster. -/
def State.spansNow (s : State) (c : Nat) : List (Nat × Nat × Nat × Nat) :=
  (s.assignment c).flatMap fun e => e.spans.map fun x => (x.head, x.layer, x.first, e.slot)

/-- Bring assignments and plans up to date after an admitted change (R164, R489, R491). -/
def State.replan (s : State) : State :=
  let s := s.clustersUsed.foldl (fun t c =>
    t.modCluster c fun r => { r with
      assign := if s.drives c then r.assign else s.spansNow c
      redistrib := s.redistribOk c
      high := max r.high (s.segsOf c) }) s
  s.clustersUsed.foldl (fun t c => t.modCluster c fun r => { r with plan := s.planOf c }) s

end Sys2Proof.Machine
end

