-- ==== Sys2Proof/Machine/CmdTelem.lean ====
section
/-! DEFINITION. The TELEM and WEAR commands, and the cluster status registers (R401, R499-R504). -/

namespace Sys2Proof.Machine

/-! ## Cluster status registers (R504) -/

/-- One day in ns. -/
def dayNs : Nat := 86400000000000

/-- Role of the LE slot at position `i`. -/
def State.roleOf (s : State) (i : Nat) : Nat :=
  if s.slotState i = 2 then 4 else if s.slotState i = 3 then 3
  else if s.kennelSlot (i / 9) = some (i % 9) then (if (s.slot i).role = some 2 then 2 else 1) else 0

/-- CL_LEk of a cluster. -/
def State.clLe (s : State) (c k : Nat) : Nat :=
  let x := s.slot (9 * c + k)
  s.roleOf (9 * c + k) + 8 * min 16 (((s.cluster c).assign.filter fun e => e.2.2.2 = k).length) +
    256 * min 255 ((x.transients.filter (s.now < · + dayNs)).length) + 65536 * b2n x.testOk

/-- ms until the next rotation of a cluster, 0 without one (R483, R504). -/
def State.nextRotation (s : State) (c : Nat) : Nat :=
  let r := s.cluster c
  if r.kennel.isNone ∨ (s.kennelSlot c).isNone then 0
  else min 250 (ceilDiv (r.lastRot + 250000000 - s.now) 1000000)

/-- The 13 registers CL_LE0-CL_LE8, CL_KENNEL, CL_MANTEL, CL_TRESTLE and CL_PLAN. -/
def State.clReg (s : State) (c i : Nat) : Nat :=
  let r := s.cluster c
  if i < 9 then s.clLe c i
  else match i with
    | 9 => (if r.kennel.isSome then (s.kennelSlot c).getD 15 else 15) + 65536 * s.nextRotation c
    | 10 => (s.pair c).state + 256 * min 255 (s.pair c).transients
    | 11 => min 511 (s.segsOf c) + 65536 * min 511 (max r.high (s.segsOf c))
    | 12 => (r.plan.filter (·.2.isSome)).length + 8 * b2n r.redistrib
    | _ => 0

/-! ## TELEM.READ (R502) -/

/-- Word of a thermal sensor. -/
def State.thermalWord (s : State) (i : Nat) : Nat :=
  if s.dieState (i / 32) ≠ 1 then 0x80008000
  else ofS 16 (if s.telem.failed.contains i then -32768 else tget 0 s.telem.sensors i) +
    65536 * ofS 16 (tget 0 s.telem.sensorMax i)

/-- A value that Rosua measures and no command or event of the block supplies (R502; assumption 61). -/
def State.measured (s : State) (k : Nat) : Nat := (Config.freeWord (s.freeCtr + k)).toNat

/-- The RAILS words of a region. -/
def State.railWords (s : State) (g : Nat) : List Nat :=
  let r := tget [] s.telem.rails g
  [r.getD 0 0, s.measured 0, s.measured 1, r.getD 1 0, r.getD 2 0, s.regionF g / 1000000]

/-- The SLACK words of a head. -/
def Head.slackWords (h : Head) : List Nat := (List.range 16).map (tget 0 h.slack) ++ [ofS 32 h.slackMin]

/-- Count saturated at 32 bits. -/
def sat32 (n : Nat) : Nat := min n (2 ^ 32 - 1)

/-- The MEMORY words of a region. -/
def State.memoryWords (s : State) (g : Nat) : List Nat :=
  let r := s.region g
  let ps := (List.range 16).map (16 * g + ·)
  [r.corrected, r.uncorrected, sat32 (ps.foldl (fun a p => a + (s.pc p).neighbour) 0), s.skipsOf ps, s.shadowsOf g,
   (s.pcsOf g).length, s.measured 0, s.reservedMBs g, r.scrubLag, r.scrubs]

/-- The LINK_MARGIN words of an output link, or of Birton link `i - 96` (R502, R549). -/
def State.marginWords (s : State) (i : Nat) : List Nat :=
  if i < 96 then
    let l := s.link i
    [l.state, s.measured 0, l.symErrs % 2 ^ 32, l.symErrs / 2 ^ 32 % 2 ^ 32, l.retrains, l.glitches]
  else
    let b := s.birton (i - 96)
    [b.lanes, b.rate, s.measured 0, s.measured 1, b.delay]

/-- The words of a telemetry set for an index. -/
def State.telemWords (s : State) (set i : Nat) : List Nat :=
  match set with
  | 0 => (List.range 64).map s.thermalWord
  | 1 => s.railWords i
  | 2 => (s.head i).slackWords
  | 3 => s.memoryWords i
  | 4 => s.marginWords i
  | _ => (List.range 13).map (s.clReg i)

/-- State of the unit that an index of a set names (R16, R380). -/
def State.telemUnit (s : State) (set i : Nat) : Nat :=
  match set with
  | 0 => 1
  | 1 => if i < 8 then s.regionState i else 0
  | 2 => if i < 128 then s.headState i else 0
  | 3 => if i < 8 then s.regionState i else 0
  | 4 => if i < 96 then s.linkState i else if i < 104 then s.birtonState (i - 96) else 0
  | _ => if i < 32 then s.clusterState i else 0

/-- The values that a telemetry record measures are drawn. -/
def State.telemDrawn (s : State) : State := { s with freeCtr := s.freeCtr + 2 }

/-- TELEM.READ. -/
def bodyTelemRead : Body := fun _ c s => withLen c 2
  (let set := min 5 (c.p 0)
   withUnit (s.telemUnit set (c.p 1)) (.ok (set ≠ c.p 0) (s.telemWords set (c.p 1)) s.telemDrawn))

/-! ## TELEM.PUSH and TELEM.LIMIT (R401, R503) -/

/-- TELEM.PUSH: the ring starts again behind its header. -/
def bodyTelemPush : Body := fun _ c s => withLen c 5
  (let size := clampN 4096 1048576 (c.p 2)
   let w := [c.p 0, c.p 1, size, min 10000 (c.p 3), c.p 4 % 64]
   applied (c.params.take 4 ++ [c.p 4 % 64]) w [] { s with telem := { s.telem with
     ringBase := c.p64 0, ringSize := size, period := w.getD 3 0, sets := w.getD 4 0, ringOff := 64, ringN := 0
     pushMaster := c.master } })

/-- A limit word: a 16-bit value, sign-extended, for a thermal sensor, else a rail voltage. -/
def limitOf (sensor w : Nat) : Int := if sensor < 64 then toS 32 w else w

/-- Limit words that stand for a value of their unit. -/
def limitOk (sensor w : Nat) : Bool := 64 ≤ sensor || toS 32 w = toS 16 w

/-- TELEM.LIMIT: sensors 0-63, then the rails of regions 0-7. -/
def bodyTelemLimit : Body := fun _ c s => withLen c 4
  (let n := c.p 0
   if 72 ≤ n then .err stRange
   else if (if n < 64 then s.dieState (n / 32) else s.regionState (n - 64)) = 0 then .err stNotPresent
   else if !limitOk n (c.p 1) ∨ !limitOk n (c.p 2) ∨ limitOf n (c.p 2) < limitOf n (c.p 1) then .err stRange
   else if c.p 3 % 256 < 224 ∨ 512 ≤ c.p 3 then .err stRange
   else withSource s (c.p 3) (done { s with telem := { s.telem with
     limits := tset s.telem.limits n (limitOf n (c.p 1), limitOf n (c.p 2), c.p 3)
     crossed := dropOf s.telem.crossed n } }))

/-! ## WEAR (R218, R401, R499-R501) -/

/-- The Canvas Tile Map entry of a canvas tile, under a list of changes (R192). -/
def State.ctmAt (s : State) (ops : List CtmOp) (tx ty : Nat) : Nat :=
  let i := (ty - s.wy / 8) * 4096 + (tx - s.wx / 8)
  (ctmOverlay ops i).getD (ofLe (s.mem.memory.read (s.mantel.areaA + ctmPart + 2 * i) 2))

/-- Class of a Canvas Tile Map entry: reserved classes read as 0 (R193). -/
def tileClass (e : Nat) : Nat := if bits e 15 12 ≤ 2 then bits e 15 12 else 0

/-- Canvas tiles that have a pixel in a viewport, row by row. -/
def View.tiles (v : View) : List (Nat × Nat) :=
  if v.w = 0 ∨ v.h = 0 then []
  else (List.range ((v.y + v.h - 1) / 8 + 1 - v.y / 8)).flatMap fun j =>
    (List.range ((v.x + v.w - 1) / 8 + 1 - v.x / 8)).map fun i => (v.x / 8 + i, v.y / 8 + j)

/-- Changes to the Canvas Tile Map that a head sees before they stand in memory (R196). -/
def State.ctmFor (s : State) (h : Nat) : List CtmOp := if (s.shownBy h).2.2 then s.mantel.sealedCtm else []

/-- A Mantel tile is in view on a head (R218). -/
def State.mantelInView (s : State) (h : Nat) : Bool :=
  (s.head h).armed && (s.head h).view.tiles.any fun t => tileClass (s.ctmAt (s.ctmFor h) t.1 t.2) ≠ 0

/-- Applied words of WEAR.ORBIT. -/
def orbitWords (c : Cmd) : List Nat := [min 4 (c.p 0), clampN 1 3600 (c.p 1)]

/-- WEAR.ORBIT waits for admission. -/
def bodyWearOrbit : Body := fun _ c s => withWrite s c 2 c.idx (withLen c 2
  (if s.mantelInView c.idx then .err stNotPermitted else .admission))

/-- The effect of WEAR.ORBIT that admission judges (R501). -/
def judgeWearOrbit : Body := fun _ c s =>
  applied c.params (orbitWords c) [] (s.modHead c.idx fun h =>
    { h with orbitA := (orbitWords c).getD 0 0, orbitP := (orbitWords c).getD 1 1, orbitOff := false })

/-- WEAR.CAP (R500). -/
def bodyWearCap : Body := fun _ c s => withWrite s c 2 c.idx (withLen c 1
  (applied c.params [min 16777215 (c.p 0)] [] (s.modHead c.idx fun h => { h with cap := min 16777215 (c.p 0) })))

/-- Wear blocks of a panel (R499). -/
def Head.blocks (h : Head) : Nat :=
  match h.mode with
  | none => 0
  | some m => ceilDiv m.wa 64 * ceilDiv m.ha 64

/-- WEAR.READ: dwell, then luminance, for blocks that the panel has. -/
def bodyWearRead : Body := fun _ c s => withRead s c 2 c.idx (withLen c 2
  (let h := s.head c.idx
   let first := min (c.p 0) (h.blocks - 1)
   let n := min (clampN 1 120 (c.p 1)) (h.blocks - first)
   .ok ([first, n] ≠ c.params) ((List.range n).flatMap fun i => [tget 0 h.dwell (first + i), tget 0 h.lum (first + i)]) s))

/-! ## What other steps do for telemetry -/

/-- Judge a reading against its limits: a crossing is declared once, and again only after the reading has
been inside by 1 degree, or 5 mV (R401). -/
def State.judgeReading (s : State) (n : Nat) (v : Int) : State :=
  match tfind s.telem.limits n with
  | none => s
  | some (lo, hi, src) =>
    let m : Int := if n < 64 then 16 else 5
    let d := src / 256
    if n < 64 ∧ s.telem.failed.contains n then s
    else if s.telem.crossed.contains n then
      if lo + m ≤ v ∧ v ≤ hi - m then
        let s := { s with telem := { s.telem with crossed := dropOf s.telem.crossed n } }
        if s.telem.crossed.any fun x => ((tfind s.telem.limits x).map (·.2.2 / 256)) = some d then s
        else s.unlive (dieRec d 11) 3
      else s
    else if v < lo ∨ hi < v then
      (({ s with telem := { s.telem with crossed := addTo s.telem.crossed n } }).detect (dieRec d 11) 3 (src % 256 - 224)
        true).postU 0x1280 s.scopePkg [n, ofS 32 v, ofS 32 (if v < lo then lo else hi)]
    else s

end Sys2Proof.Machine
end

