-- ==== Sys2Proof/Machine/Repair.lean ====
section
/-! DEFINITION. Repairs that several commands and steps share: retiring LE slots, Mantel copies and
clusters, and moving a head to another slot (R184, R480-R493). -/

namespace Sys2Proof.Machine

/-- Post an event to the subscribers of its domain and to the S-port (R404). -/
def State.postUS (s : State) (opcode scope : Nat) (words : List Nat) : State :=
  let s' := s.postU opcode scope words
  if (s.subs 16).testBit (opcode / 256) then s' else s'.postS opcode scope words

/-- Record a repair and post its REPAIR.ACTION with no interruption (R481). -/
def State.repaired (s : State) (kind : Nat) (perm : Bool) (die unit glob : Nat) : State :=
  (s.record kind perm die unit).repairAction kind glob 0 0

/-! ## Migration (R22, R107, R492, R493) -/

/-- Begin to migrate a head: the target's synthesizer takes the setting and seed of the old one; without a
target the head is orphaned. -/
def State.beginMigration (s : State) (h : Nat) (target : Option Nat) : State :=
  match target with
  | some t =>
    let y := s.synth h
    (s.modHead h fun x => { x with migration := some { target := some t, since := s.now }, orphan := false }).setSynth t
      { target := y.target, n := y.n, frac := y.frac, p := y.p, seed := y.seed, ditherOff := y.ditherOff, src := 1
        loadTo := some (y.n, y.frac, y.p) }
  | none => (s.modHead h fun x => { x with orphan := true, migration := none }).postUS 0x0882 (s.scopeOf 4 h) [h, 255, 0]

/-- Another index for a head that has moved. -/
def movedTo (h t i : Nat) : Nat := if i = h then t else i

/-- Copy the Mantel data of a head to another slot: sprite lists and colours in both areas, and the
reference store (R22). -/
def State.moveMantel (s : State) (h t : Nat) : State :=
  let g := s.freeCtr
  let areas := [s.mantel.areaA, s.mantel.areaB]
  let m := s.mem.memory.mirrorPart areas (spriteAt 0 h) (spriteAt 0 t) 4096 g
  let m := m.mirrorPart areas (spriteAt 1 h) (spriteAt 1 t) 4096 g
  let m := m.mirrorPart areas (coloursAt 0 h) (coloursAt 0 t) 136 g
  let m := m.mirrorPart areas (coloursAt 1 h) (coloursAt 1 t) 136 g
  let m := m.mirrorPart [s.mantel.areaA] (refAt h 0 0) (refAt t 0 0) 16384 g
  { s with
    freeCtr := g + 1, mem := { s.mem with memory := m }
    mantel := { s.mantel with
      lens := tset (tset s.mantel.lens (2 * t) (tget 0 s.mantel.lens (2 * h))) (2 * t + 1)
        (tget 0 s.mantel.lens (2 * h + 1)) } }

/-- Move a head's whole configuration to another slot of the die; the old index replies FAULTED from now
on (R22). -/
def State.moveHead (s : State) (h t : Nat) : State :=
  let hd := s.head h
  let s := (s.setHead t { hd with migration := none }).setHead h { moved := true }
  let s : State := { s with heads := s.heads.map fun e => (e.1, { e.2 with
    pair := e.2.pair.map fun p => (movedTo h t p.1, p.2)
    deep := e.2.deep.map fun d => if d / 128 = s.cfg.pkgId then 128 * (d / 128) + movedTo h t (d % 128) else d }) }
  let s := (s.setHeel t (s.heel h)).setHeel h {}
  let s : State := { s with
    clk := { s.clk with heels := s.clk.heels.map fun e =>
      (e.1, if e.2.leader = .head then { e.2 with idx := movedTo h t e.2.idx } else e.2) }
    acc := { s.acc with heads := tset s.acc.heads t (s.objTab 2 h) }
    layers := s.layers.map fun e => (e.1, { e.2 with
      showing := e.2.showing.map fun x => { x with heads := x.heads.map (movedTo h t) } }) }
  (s.modSynth h fun y => { y with src := 3 }).moveMantel h t

/-- Reduce the layers of a head until its cluster's segments fit, and tell whether any was (R107). -/
def reduceOn (s : State) (h : Nat) : List Nat → State × Bool
  | [] => (s, false)
  | li :: t =>
    if s.segsOf (h / 4) ≤ 384 then (s, false)
    else match s.reduce li with
      | some s' => let r := reduceOn s' h t
                   (r.1, r.2 || decide (s'.layer li ≠ s.layer li))
      | none => reduceOn s h t

/-- Complete a migration: the link follows, and both events are posted (R492). -/
def State.endMigration (s : State) (h : Nat) : State :=
  match (s.head h).migration with
  | some { target := some t, since, .. } =>
    let r := reduceOn (s.moveHead h t) t ((s.moveHead h t).layersOn t)
    ((r.1.postUS 0x0882 (s.scopeOf 4 t) [h, t, b2n r.2]).repairAction 0x31 h 0 ((s.now - since) / 1000)).replan
  | _ => s

/-! ## Retirements (R488-R490) -/

/-- Whether a slot is the target of a migration in progress. -/
def State.reserved (s : State) (h : Nat) : Bool :=
  s.heads.any fun e => match e.2.migration with
    | some m => m.target = some h
    | none => false

/-- Begin to migrate the heads of a cluster by a plan. -/
def State.migrate (s : State) (c : Nat) (plan : List (Nat × Option Nat)) : State :=
  (((List.range 4).map (4 * c + ·)).filter fun h => (s.head h).modeP.isSome && (s.head h).migration.isNone).foldl
    (fun s h => s.beginMigration h (((plan.lookup h).getD none).filter fun t => s.freeHead t && !s.reserved t)) s

/-- Retire a cluster; for one retired before, its orphaned heads look for targets again (R490, R493). A
rotation that is held is abandoned (R42); bit 46 is set (R469). -/
def State.retireCluster (s : State) (c : Nat) : State :=
  if (s.cluster c).retired then
    let plan := planHeads s c (((List.range 4).map (4 * c + ·)).filter fun h => (s.head h).orphan) []
    plan.foldl (fun s e => match e.2 with
      | some t => if s.reserved t then s else s.beginMigration e.1 (some t)
      | none => s) s
  else
    let plan := (s.cluster c).plan
    let s := s.modCluster c fun r => { r with retired := true, heldRot := false, hand := none, takeover := none }
    ((s.repaired 0x13 true (c / 16) (c % 16) c).migrate c plan).detect (c / 4) 46 0

/-- Give the spans of one LE slot to another (R488). -/
def ClusterRep.handOver (r : ClusterRep) (a b : Nat) : ClusterRep :=
  { r with assign := r.assign.map fun e => (e.1, e.2.1, e.2.2.1, if e.2.2.2 = a then b else e.2.2.2) }

/-- The output of a slot is no longer withheld on any head of its cluster. -/
def State.unwithhold (s : State) (c k : Nat) : State :=
  ((List.range 4).map (4 * c + ·)).foldl (fun s h =>
    if (s.head h).withheld.contains k then s.modHead h fun x => { x with withheld := dropOf x.withheld k } else s) s

/-- Retire an LE slot. With a Kennel, the Kennel slot takes the spans and the cluster runs without a
spare; without one they are spread over the active slots, or the cluster is retired (R486, R488, R489). -/
def State.retireSlot (s : State) (c k : Nat) : State :=
  if s.slotState (9 * c + k) ≠ 1 then s
  else
    let spare := s.kennelSlot c
    let s := s.modSlot (9 * c + k) fun x => { x with role := some 3, faulty := false }
    let s := (s.modCluster c fun r => { r with kennel := none, takeover := none, hand := none }).unwithhold c k
    let s := s.repaired 0x11 true (c / 16) (9 * (c % 16) + k) (9 * c + k)
    match spare with
    | some j => if j = k then s else s.modCluster c (·.handOver k j)
    | none =>
      let les := s.assignment c
      if les.all (·.fits) ∧ (!(s.activeSlots c).isEmpty ∨ s.noSpans c) then
        s.modCluster c fun r => { r with
          assign := les.flatMap fun e => e.spans.map fun x => (x.head, x.layer, x.first, e.slot) }
      else s.retireCluster c

/-- Put a Mantel Engine pair into a state, and post it (R184). -/
def State.setPairState (s : State) (c st : Nat) : State :=
  (s.modPair c fun p => { p with state := st }).postS 0x0C81 (s.scopeOf 3 c) [c, st]

/-- Fence a copy of a Mantel Engine pair: the pair runs on the other copy, or is FAULTED and its cluster
is retired (R184, R490). -/
def State.fenceCopy (s : State) (c copy : Nat) : State :=
  if (s.pair c).fenced.contains copy then s
  else
    let both := !(s.pair c).fenced.isEmpty
    let s := s.modPair c fun p => { p with fenced := p.fenced ++ [copy] }
    let s := s.repaired 0x12 true (c / 16) (2 * (c % 16) + copy) (2 * c + copy)
    if both then (s.setPairState c 4).retireCluster c
    else s.setPairState c (if copy = 0 then 3 else 2)

end Sys2Proof.Machine
end

