-- ==== Sys2Proof/Machine/Mirror.lean ====
section
/-! DEFINITION. Mirrored layers of a master: which packages hold a layer, the mirror set and its copies, flips that wait
for their holders, and what the master sends for them (R65-R68, R534, R535, R540, R545, R548). -/

namespace Sys2Proof.Machine

/-! ## What is sent (R534, R535, R545) -/

/-- Package that something is to be sent to. -/
def Out.pkg : Out → Nat
  | .write p _ _ _ => p
  | .copy p _ _ _ => p
  | .cmd p _ _ _ _ _ => p

/-- Most bytes in one mirror-write frame of a copy: three blocks (DESIGN CHOICE, assumption 23). -/
def mirrorChunk : Nat := 192

/-- Mirror writes that an entry becomes, for a layer. -/
def Out.writes (li : Nat) : Out → Nat
  | .write _ l _ _ => if l = li then 1 else 0
  | .copy _ l _ n => if l = li then ceilDiv n mirrorChunk else 0
  | .cmd _ _ _ _ _ _ => 0

/-- Mirror writes of a layer that a package has still to acknowledge (R67). -/
def State.outstanding (s : State) (pkg li : Nat) : Nat :=
  (s.casc.mirrorPend.filter (· = (pkg, li))).length +
    ((s.casc.outQ.filter (·.pkg = pkg)).map (Out.writes li)).sum

/-- Frames that a link takes now for this traffic: 200 may wait for their acknowledgement, which leaves room for replies
(R525; DESIGN CHOICE, assumption 23). -/
def State.linkRoom (s : State) (pkg : Nat) : Nat :=
  match s.linkTo pkg with
  | some b => if s.birtonUp b then 200 - (s.birton b).unacked.length else 0
  | none => 0

/-- Send one mirror write: the address and the number of bytes, then the bytes (DESIGN CHOICE, assumption 23). -/
def State.sendWrite (s : State) (pkg li addr : Nat) (d : List Byte) : State :=
  match s.linkTo pkg with
  | some b =>
    let s := s.frameOut b 4 pkg false 0 ((addr % 2 ^ 37 + 2 ^ 40 * d.length) :: dwords 64 d)
    { s with casc := { s.casc with mirrorPend := s.casc.mirrorPend ++ [(pkg, li)] } }
  | none => s

/-- Send the mirror writes of the first `k` parts of a copy. -/
def State.sendParts : Nat → Nat → Nat → Nat → Nat → State → State
  | 0, _, _, _, _, s => s
  | k + 1, pkg, li, addr, n, s =>
    let m := min n mirrorChunk
    State.sendParts k pkg li (addr + m) (n - m) (s.sendWrite pkg li addr (s.mem.memory.read addr m))

/-- The port number of commands that a master forwards for itself. -/
def ownPort : Nat := 19

/-- Send what a link takes of one entry now; what is left of it. -/
def State.sendEntry (s : State) : Out → State × List Out
  | .write p li a d => if s.linkRoom p = 0 then (s, [.write p li a d]) else (s.sendWrite p li a d, [])
  | .copy p li a n =>
    let k := min (s.linkRoom p) (ceilDiv n mirrorChunk)
    (State.sendParts k p li a n s,
      if n ≤ k * mirrorChunk then [] else [.copy p li (a + k * mirrorChunk) (n - k * mirrorChunk)])
  | .cmd p op tag cls scope ps =>
    if s.linkRoom p < 5 then (s, [.cmd p op tag cls scope ps])
    else (s.forward p ownPort { op, tag, cls, scope, params := ps } false, [])

/-- Send what the links take now, to each package in order (R535). -/
def State.sendOut (s : State) : State :=
  if s.casc.outQ.isEmpty then s
  else
    let r := s.casc.outQ.foldl (fun (a : State × List Out) o =>
      if a.2.any (·.pkg = o.pkg) then (a.1, a.2 ++ [o])
      else
        let x := a.1.sendEntry o
        (x.1, a.2 ++ x.2)) ({ s with casc := { s.casc with outQ := [] } }, [])
    { r.1 with casc := { r.1.casc with outQ := r.2 } }

/-! ## System-wide configuration (R65, R99, R116, R545) -/

/-- Commands whose effect is on every package of the system when the master accepts them for itself: layer placements,
coefficient sets, and EOTF and tone tables (R65, R66, R99, R116; DEDUCED, assumption 83). -/
def systemWide (op : Nat) : Bool := [0x0701, 0x0702, 0x070A, 0x070B, 0x070C].contains op

/-- What a later command of the system-wide configuration replaces: the layer, the part of a set or table, or the
subject that its scope names. -/
def systemKey (c : Cmd) : Nat × Nat × List Nat :=
  if c.op = 0x0701 ∨ c.op = 0x0702 then (0x0701, c.scope, c.params.take 1)
  else (c.op, c.scope, c.params.take (if systemWide c.op then 4 else if c.op = 0x0303 then 2 else 0))

/-- A command as it goes to another package. -/
def Cmd.out (c : Cmd) (p : Nat) : Out := .cmd p c.op 0 c.cls c.scope c.params

/-- The generation steps, and the command is kept in the system-wide configuration; a master sends one that concerns
every package on to the others (R545). -/
def State.systemStep (s : State) (c : Cmd) : State :=
  let s := { s with casc := { s.casc with
    gen := (s.casc.gen + 1) % 2 ^ 32, sysLog := s.casc.sysLog.filter (systemKey · ≠ systemKey c) ++ [c] } }
  if s.isMaster ∧ systemWide c.op ∧ c.scope % 16 = s.cfg.pkgId then s.toSend (s.present.map c.out) else s

/-- Send a package the whole system-wide configuration: what concerns every package, and what names it (R545). -/
def State.resend (s : State) (pkg : Nat) : State :=
  s.toSend ((s.casc.sysLog.filter fun c => systemWide c.op || bit c.scope 3 || c.scope % 8 = pkg).map (·.out pkg))

/-! ## Planes (R534) -/

/-- Planes that a flip of a layer names: base and bytes. -/
def State.planesOf (s : State) (l : Layer) (f : Flip) : List (Nat × Nat) :=
  let src := if f.ring.isSome then (s.input l.bindInput).ringSource else l.source
  (List.range f.bases.length).map fun i => (f.bases.getD i 0, planeBytes src i)

/-- The mirror set of a layer (R534): the planes of its current flip, its queued flips and its last 8 shown flips, and
every buffer of a ring it is bound to. -/
def State.mirrorPlanes (s : State) (l : Layer) : List (Nat × Nat) :=
  if l.holders.isEmpty then []
  else
    let ring : List Flip := if l.bindMode = 1 then
      (s.input l.bindInput).bufs.map fun b => { bases := b, ring := some 0 } else []
    ((l.current.toList ++ l.queue ++ l.recent.map (fun b => ({ bases := b } : Flip)) ++ ring).flatMap (s.planesOf l)).eraseDups

/-- Copy planes of a layer to packages (R68, R535). -/
def State.copyPlanes (s : State) (li : Nat) (pkgs : List Nat) (ps : List (Nat × Nat)) : State :=
  s.toSend (pkgs.flatMap fun p => (ps.filter (·.2 ≠ 0)).map fun r => .copy p li r.1 r.2)

/-! ## Holders (R66, R68, R540) -/

/-- Whether a layer waits for a holder that denied one of its writes (R419). -/
def Layer.deniedBy (l : Layer) (p : Nat) : Bool :=
  (l.copying ++ (l.queue ++ l.ringQ).flatMap (·.pendingHolders)).any fun x => x.pkg = p && x.denied

/-- Decide the holders of a layer for its placement. A new holder, or one that denied a write, is sent the current
buffers and those of flips on their way; one that holds the layer no more is forgotten (R66, R68). -/
def State.drawHolders (s : State) (li : Nat) : State :=
  let l := s.layer li
  let hs := s.holdersOf li l
  let new := hs.filter fun p => !l.holders.contains p || l.deniedBy p
  let s := s.copyPlanes li new
    (((l.current.toList ++ l.queue.filter (·.mirrored ≠ 0) ++ l.ringQ).flatMap (s.planesOf l)).eraseDups)
  let more : List Holder := new.map fun p => { pkg := p, left := s.outstanding p li }
  let waits (f : Flip) : Flip := { f with
    pendingHolders := f.pendingHolders.filter (fun x => hs.contains x.pkg && !new.contains x.pkg) ++ more }
  ({ s with freeCtr := s.freeCtr + 1 } : State).modLayer li fun l => { l with
    holders := hs, heldFor := l.placing
    copying := l.copying.filter (fun x => hs.contains x.pkg && !new.contains x.pkg) ++
      (if l.current.isSome then more else [])
    queue := l.queue.map fun f => if f.mirrored = 0 then f else waits f
    ringQ := l.ringQ.map waits }

/-- Every layer's holders are to be decided again. -/
def State.unjudge (s : State) : State :=
  { s with layers := s.layers.map fun e => (e.1, { e.2 with heldFor := none }) }

/-! ## Flips (R67, R535) -/

/-- Flips not looked at yet: planes outside the mirror set are copied to every holder, and the generation steps
(R535, R545). -/
def State.joinFlips (s : State) (li : Nat) : State :=
  let l := s.layer li
  let new := l.queue.filter (·.mirrored = 0)
  if l.holders.isEmpty ∨ new.isEmpty then s
  else
    let s := s.copyPlanes li l.holders
      (((new.flatMap (s.planesOf l)).eraseDups).filter fun r => !l.mirrorSet.contains r)
    let s := { s with casc := { s.casc with gen := (s.casc.gen + new.length) % 2 ^ 32 } }
    s.modLayer li fun l => { l with queue := l.queue.map fun f =>
      if f.mirrored = 0 then { f with mirrored := 1, pendingHolders := l.holders.map fun p => { pkg := p } } else f }

/-- The waits of a flip that comes after every mirror write sent so far. -/
def State.waitsNow (s : State) (li : Nat) (l : Layer) : List Holder :=
  l.holders.map fun p => { pkg := p, left := s.outstanding p li }

/-- Flips whose token is met count the mirror writes that precede them (R67, R156). -/
def State.countFlips (s : State) (li : Nat) : State :=
  s.modLayer li fun l => { l with queue := l.queue.map fun f =>
    if f.mirrored = 1 ∧ s.tokenMet f then { f with mirrored := 2, pendingHolders := s.waitsNow li l } else f }

/-- A captured buffer that has become the newest waits for its holders like a flip (R535). -/
def State.queueRing (s : State) (li : Nat) : State :=
  let l := s.layer li
  match s.ringOf l with
  | none => if l.ringQ.isEmpty then s else s.modLayer li fun l => { l with ringQ := [] }
  | some b =>
    let f := s.ringFlip l b
    if l.holders.isEmpty ∨ ((l.ringQ.getLast?.or l.current).any fun x => x.ring = f.ring && x.capStamp = f.capStamp) then s
    else s.modLayer li fun l => { l with
      ringQ := ((l.ringQ ++ [{ f with mirrored := 2, pendingHolders := s.waitsNow li l }]).reverse.take 8).reverse }

/-- The number that tells the flips of a layer apart where they are forwarded: the flip ID, or the capture count. -/
def Flip.mark (f : Flip) : Nat := if f.ring.isSome then f.capStamp % 65536 else f.id

/-- The LAYER.FLIP that forwards a flip to a holder: without its token, which the master has waited for (R67, R388). -/
def State.flipCmd (s : State) (li : Nat) (f : Flip) (p : Nat) : Out :=
  let m := f.dynMeta.getD (0, 0)
  .cmd p 0x0704 (li + 1024 * f.mark) (if f.issuer = 16 then clsS else if f.issuer = 0 then clsH else clsG) s.scopePkg
    ([li, f.mark + 65536 * f.epoch, 0, b2n f.dynMeta.isSome, m.1, m.2] ++ f.bases.flatMap words64)

/-- Whether a flip may be forwarded: every holder has acknowledged the mirror writes that preceded it (R67). -/
def Flip.goes (f : Flip) : Bool := f.mirrored = 2 && f.pendingHolders.all fun x => x.left = 0 && !x.denied

/-- Forward a layer's flips that may go, and its current flip to holders whose first copy is complete (R67, R68). -/
def State.forwardFlips (s : State) (li : Nat) : State :=
  let l := s.layer li
  let whole (x : Holder) : Bool := x.left = 0 && !x.denied
  let first := (l.copying.filter whole).flatMap fun x => l.current.toList.map fun f => s.flipCmd li f x.pkg
  let rest := ((l.queue ++ l.ringQ).filter Flip.goes).flatMap fun f =>
    (f.pendingHolders.filter (!·.sent)).map fun x => s.flipCmd li f x.pkg
  let mark (f : Flip) : Flip :=
    if f.goes then { f with pendingHolders := f.pendingHolders.map fun x => { x with sent := true } } else f
  (s.toSend (first ++ rest)).modLayer li fun l => { l with
    copying := l.copying.filter (!whole ·), queue := l.queue.map mark, ringQ := l.ringQ.map mark }

/-- A holder has answered a forwarded flip: it has received it (R67). -/
def State.receipt (s : State) (pkg tag : Nat) : State :=
  let got (f : Flip) : Flip :=
    if f.mark = tag / 1024 then { f with pendingHolders := f.pendingHolders.filter fun x => x.pkg ≠ pkg || !x.sent } else f
  s.modLayer (tag % 1024) fun l => { l with queue := l.queue.map got, ringQ := l.ringQ.map got }

/-- One mirror write less to wait for, in the waits that count it; a write that was denied keeps them waiting
(R67, R419). -/
def Holder.step (pkg : Nat) (denied : Bool) (x : Holder) : Holder :=
  if x.pkg = pkg ∧ x.left ≠ 0 then { x with left := x.left - 1, denied := x.denied || denied } else x

/-- A holder has acknowledged its oldest mirror write of a layer (R67, R419, R535). -/
def State.mirrorAck (s : State) (pkg layer : Nat) (denied : Bool) : State :=
  if s.casc.mirrorPend.contains (pkg, layer) then
    let step (f : Flip) : Flip := { f with pendingHolders := f.pendingHolders.map (Holder.step pkg denied) }
    ({ s with casc := { s.casc with mirrorPend := s.casc.mirrorPend.erase (pkg, layer) } } : State).modLayer layer fun l =>
      { l with copying := l.copying.map (Holder.step pkg denied), queue := l.queue.map step, ringQ := l.ringQ.map step }
  else s

/-- Nothing waits for a package any more (R544). -/
def State.dropHolder (s : State) (pkg : Nat) : State :=
  let rid (l : List Holder) : List Holder := l.filter (·.pkg ≠ pkg)
  let drop (f : Flip) : Flip := { f with pendingHolders := rid f.pendingHolders }
  { s with
    casc := { s.casc with
      mirrorPend := s.casc.mirrorPend.filter (·.1 ≠ pkg), outQ := s.casc.outQ.filter (·.pkg ≠ pkg) }
    layers := s.layers.map fun e => (e.1, { e.2 with
      holders := dropOf e.2.holders pkg, copying := rid e.2.copying, queue := e.2.queue.map drop
      ringQ := e.2.ringQ.map drop }) }

/-- A package that is no longer master mirrors nothing: nothing waits for holders, and only what goes to one package, if
any, is still sent. -/
def State.endMirrors (s : State) (keep : Option Nat) : State :=
  let drop (f : Flip) : Flip := { f with pendingHolders := [] }
  { s with
    casc := { s.casc with
      mirrorPend := s.casc.mirrorPend.filter (fun e => some e.1 = keep), outQ := s.casc.outQ.filter (fun o => some o.pkg = keep) }
    layers := s.layers.map fun e => (e.1, { e.2 with
      holders := [], heldFor := none, copying := [], mirrorSet := [], ringQ := [], queue := e.2.queue.map drop }) }

/-! ## What follows every command -/

/-- Whether a layer's mirroring is to be looked at: on a master, where it has holders, or where its placement is new and
there are packages that may hold it; on a follower, where the master has flipped it. -/
def State.mirrorDue (s : State) (l : Layer) : Bool :=
  if s.isMaster then !l.holders.isEmpty || (l.placing != l.heldFor && !s.present.isEmpty)
  else s.role = 2 && l.queue.any fun f => f.issuer = 18 && f.mirrored = 0

/-- A follower notes that the master flips a layer, and the generation steps with each of its flips (R65, R545). -/
def State.noteShared (s : State) (li : Nat) : State :=
  let n := ((s.layer li).queue.filter fun f => f.issuer = 18 && f.mirrored = 0).length
  let s := { s with casc := { s.casc with gen := (s.casc.gen + n) % 2 ^ 32 } }
  s.modLayer li fun l => { l with
    shared := true, queue := l.queue.map fun f => if f.issuer = 18 then { f with mirrored := 2 } else f }

/-- Bring the mirroring of a layer up to date. -/
def State.mirrorLayer (s : State) (li : Nat) : State :=
  if s.isMaster then
    let s := if (s.layer li).placing ≠ (s.layer li).heldFor then s.drawHolders li else s
    let s := (((s.joinFlips li).countFlips li).queueRing li).forwardFlips li
    s.modLayer li fun l => { l with mirrorSet := s.mirrorPlanes l }
  else s.noteShared li

/-- Bring the mirroring of every layer up to date (R66-R68, R534, R535). -/
def State.settleMirror (s : State) : State :=
  s.layers.foldl (fun s e => if s.mirrorDue e.2 then s.mirrorLayer e.1 else s) s

/-! ## Handing mastership back (R548) -/

/-- The strapped master that a deputy meets over a link. -/
def State.strapped (s : State) : Option Nat :=
  ((List.range 8).find? fun b => s.birtonUp b && (s.birton b).partner.any (·.strapMaster)).bind fun b =>
    (s.birton b).partner.map (·.pkg)

/-- A deputy that gives up its place copies the system-wide configuration and its copies of mirrored layers to the master
(R548). -/
def State.handOver (s : State) : State :=
  match s.strapped with
  | some m =>
    s.layers.foldl (fun s e =>
      if e.2.holders.isEmpty then s
      else s.copyPlanes e.1 [m] (e.2.current.toList.flatMap (s.planesOf e.2))) (s.resend m)
  | none => s

end Sys2Proof.Machine
end

