-- ==== Sys2Proof/Machine/CmdRepair.lean ====
section
/-! DEFINITION. The REPAIR, CASC and SVC commands (R402, R481-R494, R547-R549). -/

namespace Sys2Proof.Machine

/-! ## REPAIR (R402, R481, R482) -/

/-- REPAIR.LEDGER: the entries that exist from the first on. -/
def bodyRepairLedger : Body := fun _ c s => withLen c 2
  (let n := clampN 1 60 (c.p 1)
   .ok (n ≠ c.p 1) (((s.repair.ledger.drop (c.p 0)).take n).flatten) s)

/-- State of a unit that REPAIR.RETIRE names: 0 LE slot, 1 cluster, 2 pseudo-channel, 3 Mantel copy. -/
def State.retireUnit (s : State) (kind i : Nat) : Nat :=
  match kind with
  | 0 => if i < 288 then s.slotState i else 0
  | 1 => if i < 32 then s.clusterState i else 0
  | 2 => if i < 128 then s.pcState i else 0
  | _ => if 64 ≤ i then 0 else if s.clusterState (i / 2) ≠ 1 then s.clusterState (i / 2)
         else if (s.pair (i / 2)).fenced.contains (i % 2) then 3 else 1

/-- Retire a unit. -/
def State.retireKind (s : State) (kind i : Nat) : State :=
  match kind with
  | 0 => s.retireSlot (i / 9) (i % 9)
  | 1 => s.retireCluster i
  | 2 => s.retirePc i
  | _ => s.fenceCopy (i / 2) (i % 2)

/-- REPAIR.RETIRE: a retired cluster may be named again, so that its orphaned heads look for targets
(R493). -/
def bodyRepairRetire : Body := fun _ c s => withLen c 2
  (let kind := min 3 (c.p 0)
   let st := s.retireUnit kind (c.p 1)
   let s' := s.retireKind kind (c.p 1)
   let go : Res := .ok (kind ≠ c.p 0) [s'.retireUnit kind (c.p 1)] s'
   if kind = 1 ∧ st = 3 then go else withUnit st go)

/-- REPAIR.CLEAR: the field repairs leave the ledger at the next start; the manufacture entries stay
(R342, R481). -/
def bodyRepairClear : Body := fun _ c s => withLen c 0
  (.ok false [(s.repair.ledger.filter fun e => 0x10 ≤ entryKind e).length]
    { s with repair := { s.repair with cleared := true } })

/-! ## CASC (R368, R547-R549) -/

/-- CASC.CEILING, on the package's own S-port only: a raise after the first C-port command replies BUSY
(R368). -/
def bodyCascCeiling : Body := fun port c s =>
  if port ≠ 16 then .err stNotPermitted
  else withLen c 1
    (let v := enumOr 4 0 (c.p 0)
     if s.casc.cRun ∧ s.casc.ceiling < v then .err stBusy
     else applied c.params [v] [] { s with casc := { s.casc with ceiling := v } })

/-- The deputy that CASC.DEPUTY applies: a package ID, or 255 for none. -/
def deputyOf (v : Nat) : Nat := nearest 0 [0, 1, 2, 3, 4, 5, 6, 7, 255] v

/-- CASC.DEPUTY on the package's own S-port; an acting master that gives up its place hands mastership
back (R547, R548). -/
def bodyCascDeputy : Body := fun port c s =>
  if port ≠ 16 then .err stNotPermitted
  else withLen c 1
    (let v := deputyOf (c.p 0)
     let s' : State := { s with casc := { s.casc with
       deputy := v, handback := s.casc.handback || (s.role = 3 && v = 255) } }
     applied c.params [v] [] (if s.role = 3 ∧ v = 255 ∧ !s.casc.handback then s'.handOver else s'))

/-- Master or acting master as CASC.READ reports it, 255 for none. -/
def State.masterId (s : State) : Nat := if s.role = 1 ∨ s.role = 3 then s.cfg.pkgId else s.casc.master.getD 255

/-- Hops to the master, 7 for none. -/
def State.masterHops (s : State) : Nat :=
  if s.role = 1 ∨ s.role = 3 then 0 else if s.casc.master.isSome then s.casc.hops else 7

/-- State code of a Birton link (R527). -/
def State.birtonCode (s : State) (b : Nat) : Nat := if s.birtonState b = 0 then 7 else (s.birton b).state

/-- Words 1-36 of CASC.READ (R549). -/
def State.cascWords (s : State) : List Nat :=
  [s.role, s.masterId, s.masterHops, s.casc.ceiling] ++ (List.range 8).flatMap fun b =>
    let l := s.birton b
    [(l.partner.map (·.pkg)).getD 255, l.lanes, l.rate, s.birtonCode b]

/-- CASC.READ. -/
def bodyCascRead : Body := fun _ c s => withLen c 0 (.ok false s.cascWords s)

/-! ## SVC (R291, R402, R510) -/

/-- SVC.EXIT: SERVICE ends in READY or ACTIVE (R510). -/
def bodySvcExit : Body := fun _ c s => withLen c 1
  (let v := min 1 (c.p 0)
   if s.pwr.target.isSome ∨ s.pwr.state ≠ .service then .err stBusy
   else .ok (v ≠ c.p 0) [v] (s.decide (if v = 0 then .ready else .active) 0x1601))

/-- Whether SVC.BIST names a unit at its own level. -/
def bistLevel (c : Cmd) : Bool := if min 3 (c.p 0) = 3 then c.level = 1 else c.level = 3

/-- State of a unit that SVC.BIST names: 0 LE slot, 1 Blender, 2 Mantel copy, 3 link PHY. -/
def State.bistUnit (s : State) (c : Cmd) : Nat :=
  match min 3 (c.p 0) with
  | 0 => if c.p 1 < 9 then s.slotState (9 * c.idx + c.p 1) else 0
  | 1 => s.clusterState c.idx
  | 2 => if c.p 1 < 2 then s.clusterState c.idx else 0
  | _ => if c.p 1 < 48 then s.linkState (48 * c.idx + c.p 1) else 0

/-- SVC.BIST: whether the unit passes, 0 or 1 for pass and fail, and the signature are free values
(assumption 7). -/
def bodySvcBist : Body := fun _ c s => withLen c 2
  (if !bistLevel c then .err stNotPermitted
   else withUnit (s.bistUnit c) (.ok (3 < c.p 0)
     [b2n (Config.freeBool s.freeCtr), (Config.freeWord s.freeCtr).toNat] { s with freeCtr := s.freeCtr + 1 }))

/-- SVC.CLKOBS gives the clock observation output a synthesizer's FB1 (R291). -/
def bodySvcClkobs : Body := fun _ c s => withLen c 2
  (let r := min 69 (c.p 0)
   let v := clampN 1 64 (c.p 1)
   applied c.params [r, v] [] (s.modSynth (synthOfRecord c.idx r) fun y => { y with fb1Div := v, fb1En := true }))

/-- The error-kind word of a block that SVC.MEMREAD read: the kinds of R338, and a free value where the
block has none of them (assumption 7). -/
def blockKind (r : DmaResp) (corrected : Bool) (free : Nat) : Nat :=
  match r with
  | .ok => if corrected then 0 else (Config.freeWord free).toNat
  | .uncorrectable => 1
  | .poisoned => 2
  | .unmapped => 4
  | .retired => 5
  | _ => (Config.freeWord free).toNat

/-- Read one block for SVC.MEMREAD: its bytes, free where the read fails, its kind, and the state. -/
def State.memBlock (s : State) (a n : Nat) : List Byte × Nat × State :=
  let cor := (wordsOf (a / 64 * 64) 64).any fun w => (s.mem.memory.judge w).kind = 1
  let r := s.readBlock a n ⟨6, 17, 0⟩
  (if r.1 = .ok then r.2.1 else (List.range n).map fun i => Config.freeByte s.freeCtr (a + i),
   blockKind r.1 cor s.freeCtr, { r.2.2 with freeCtr := r.2.2.freeCtr + 1 })

/-- SVC.MEMREAD: data words, then one kind word for each block. -/
def bodySvcMemread : Body := fun _ c s => withLen c 3
  (let n := clampN 1 224 (c.p 2)
   let r := (blocksOf (c.p64 0) (4 * n)).foldl (fun (a : List Byte × List Nat × State) b =>
     let x := a.2.2.memBlock b.1 b.2
     (a.1 ++ x.1, a.2.1 ++ [x.2.1], x.2.2)) ([], [], s)
   .ok (n ≠ c.p 2) (ofLeWords r.1 ++ r.2.1) r.2.2)

end Sys2Proof.Machine
end

