-- ==== Sys2Proof/Machine/FixReal.lean ====
section
/-! DEFINITION. Real functions in fixed point: a value stands for itself over 2^96, so that a rounding of
the spec's exact results to 28 bits or fewer is never in doubt (R113; DEDUCED, assumption 22). -/

namespace Sys2Proof.Machine

/-- One. -/
def fxOne : Int := 2 ^ 96
/-- A fraction. -/
def fxOf (n d : Int) : Int := n * fxOne / d
/-- Product. -/
def fxMul (a b : Int) : Int := a * b / fxOne
/-- Quotient. -/
def fxDiv (a b : Int) : Int := if b = 0 then 0 else a * fxOne / b

/-- Round a quotient of integers to nearest, halves away from zero (R113). -/
def roundQ (n d : Int) : Int :=
  if d ≤ 0 then 0 else if 0 ≤ n then (2 * n + d) / (2 * d) else 0 - (2 * (0 - n) + d) / (2 * d)

/-- Round a value times `u` to nearest. -/
def fxRound (a u : Int) : Int := roundQ (a * u) fxOne

/-- Sum of z^(2k+1)/(2k+1) from term `k` on, `p` being z^(2k+1). -/
def atanhSum (z2 : Int) : Nat → Int → Int → Int
  | 0, _, _ => 0
  | n + 1, k, p => p / (2 * k + 1) + atanhSum z2 n (k + 1) (fxMul p z2)

/-- Natural logarithm of a value from 1 up to 2. -/
def lnMant (m : Int) : Int :=
  let z := fxDiv (m - fxOne) (m + fxOne)
  2 * atanhSum (fxMul z z) 34 0 z

/-- Natural logarithm of 2. -/
def fxLn2 : Int := lnMant (2 * fxOne)

/-- Natural logarithm of a positive value. -/
def fxLn (x : Int) : Int :=
  let e : Int := (Nat.log2 x.toNat : Int) - 96
  let m := if 0 ≤ e then x / 2 ^ e.toNat else x * 2 ^ (0 - e).toNat
  e * fxLn2 + lnMant m

/-- Terms of the exponential series from term `k` on. -/
def expSum (r : Int) : Nat → Int → Int → Int
  | 0, _, _ => 0
  | n + 1, k, t => t + expSum r n (k + 1) (fxMul t r / (k + 1))

/-- Exponential. -/
def fxExp (x : Int) : Int :=
  let k := x / fxLn2
  let v := expSum (x - k * fxLn2) 36 0 fxOne
  if 0 ≤ k then v * 2 ^ k.toNat else v / 2 ^ (0 - k).toNat

/-- Power of a value that is not negative. -/
def fxPow (x y : Int) : Int := if x ≤ 0 then 0 else fxExp (fxMul y (fxLn x))

/-- Terms of the arctangent series of 1/n, alternating. -/
def atanInv (n2 : Int) : Nat → Int → Int → Int
  | 0, _, _ => 0
  | f + 1, k, p => p / (2 * k + 1) - atanInv n2 f (k + 1) (p / n2)

/-- The circle constant. -/
def fxPi : Int := 4 * (4 * atanInv 25 48 0 (fxOne / 5) - atanInv (239 * 239) 16 0 (fxOne / 239))

/-- Terms of the sine series. -/
def sinSum (x2 : Int) : Nat → Int → Int → Int
  | 0, _, _ => 0
  | n + 1, k, t => t - sinSum x2 n (k + 1) (fxMul t x2 / ((2 * k + 2) * (2 * k + 3)))

/-- Sine of a value of at most a few turns. -/
def fxSin (x : Int) : Int := sinSum (fxMul x x) 48 0 x

/-- Logarithm to base 10 of a fraction. -/
def fxLog10 (n d : Int) : Int := fxDiv (fxLn (fxOf n d)) (fxLn (10 * fxOne))

end Sys2Proof.Machine
end

