-- ==== Sys2Proof/Machine/Coefs.lean ====
section
/-! DEFINITION. The coefficient sets of the scaler in all their forms (R99-R101). -/

namespace Sys2Proof.Machine

/-- Lanczos weight of the distance n/64 with `a` lobes (R100). -/
def lanczos (a n : Int) : Int :=
  if n = 0 then fxOne
  else if 64 * a ≤ n ∨ n ≤ -64 * a then 0
  else
    let px := fxPi * n / 64
    fxDiv (a * fxMul (fxSin px) (fxSin (px / a))) (fxMul px px)

/-- Catmull-Rom weight of the distance n/64 (R100). -/
def catmull (n : Int) : Int :=
  let x : Int := n.natAbs
  let c := 64 * 64 * 64
  if x ≤ 64 then fxOne * (3 * x ^ 3 - 5 * 64 * x ^ 2 + 2 * c) / (2 * c)
  else if x < 128 then fxOne * (0 - x ^ 3 + 5 * 64 * x ^ 2 - 8 * 4096 * x + 4 * c) / (2 * c)
  else 0

/-- Triangle weight of the distance n/64 (R100). -/
def triangle (n : Int) : Int :=
  let x : Int := n.natAbs
  if x < 64 then fxOne * (64 - x) / 64 else 0

/-- Weight of a built-in set: 0 Sharp with `a` lobes, 1 Smooth, 2 Linear. -/
def tapWeight (set : Nat) (a n : Int) : Int :=
  if set = 0 then lanczos a n else if set = 1 then catmull n else triangle n

/-- One form of a built-in set's phase: `len` taps from source offset `first` (R100). -/
def builtPhase (set : Nat) (a : Int) (phase len : Nat) (first : Int) : List Int :=
  fixPhase phase first ((List.range len).map fun (n : Nat) =>
    fxRound (tapWeight set a (64 * (first + n) - phase)) 1024)

/-- The 8 taps of the along filter. -/
def alongTaps (sets : Tab (List Int)) (set phase : Nat) : List Int :=
  if set < 3 then builtPhase set 4 phase 8 (-3)
  else match tfind sets set with
    | some l => (l.drop (14 * phase)).take 8
    | none => builtPhase 2 4 phase 8 (-3)

/-- The 6-tap across coefficients of a set. -/
def acrossSix (sets : Tab (List Int)) (set phase : Nat) : List Int :=
  if set < 3 then builtPhase set 3 phase 6 (-2)
  else match tfind sets set with
    | some l => (l.drop (14 * phase + 8)).take 6
    | none => builtPhase 2 3 phase 6 (-2)

/-- The taps of the across filter with 6, 4 or 2 taps: the forms of the built-in sets, or the folded forms
of a loaded one (R100, R101). -/
def acrossTaps (sets : Tab (List Int)) (set t phase : Nat) : List Int :=
  let built := if set < 3 then some set else if (tfind sets set).isNone then some 2 else none
  if t = 6 then acrossSix sets set phase
  else match built with
    | some b =>
      if t = 4 then builtPhase b 2 phase 4 (-1) else builtPhase 2 2 phase 2 0
    | none =>
      let k := acrossSix sets set phase
      let g (i : Nat) : Int := k.getD i 0
      if t = 4 then fixPhase phase (-1) [g 0 + g 1, g 2, g 3, g 4 + g 5]
      else fixPhase phase 0 [g 0 + g 1 + g 2, g 3 + g 4 + g 5]

/-- Source offset of the first across tap. -/
def acrossFirst (t : Nat) : Int := if t = 6 then -2 else if t = 4 then -1 else 0

/-- The 14 coefficients of a phase, as the indirect space shows them (R439). -/
def coefImage (sets : Tab (List Int)) (set phase : Nat) : List Int :=
  alongTaps sets set phase ++ acrossSix sets set phase

end Sys2Proof.Machine
end

