-- ==== Sys2Proof/Machine/Colour.lean ====
section
/-! DEFINITION. Colour arithmetic: LE stages 5 to 9, the Blender, and the head's OETF, LUT, quantisation
and packing (R113-R142, R198). -/

namespace Sys2Proof.Machine

/-- Component `i` of a pixel. -/
def cmp (p : List Int) (i : Nat) : Int := p.getD i 0

/-! ## Stage 5 (R117-R120) -/

/-- Kr and Kb in units of 1/10,000 (R117). -/
def krOf (m : Nat) : Int := [2990, 2126, 2627].getD m 2126
def kbOf (m : Nat) : Int := [1140, 722, 593].getD m 722

/-- Luma offset, luma span and chroma span of a range, for a format of `n` bits (R117). -/
def rangeOf (full : Bool) (n : Nat) : Int × Int × Int :=
  if full then (0, (2 ^ n - 1) * 2 ^ (16 - n), (2 ^ n - 1) * 2 ^ (16 - n)) else (4096, 56064, 57344)

/-- Bit depth of a YCbCr format. -/
def yccDepth (f : Nat) : Nat := if f = 5 then 8 else 10

/-- A value scaled down by 16,384 with rounding (R118). -/
def s14 (v : Int) : Int := (v + 8192) / 16384

/-- YCbCr to R'G'B' with a preset matrix (R118). -/
def yccToRgb (m : Nat) (full : Bool) (n : Nat) (p : List Int) : List Int :=
  let kr := krOf m
  let kb := kbOf m
  let kg := 10000 - kr - kb
  let r := rangeOf full n
  let s : Int := 65535
  let cy := roundQ (16384 * s) r.2.1
  let crr := roundQ (16384 * 2 * (10000 - kr) * s) (10000 * r.2.2)
  let cgb := roundQ (0 - 16384 * 2 * kb * (10000 - kb) * s) (10000 * kg * r.2.2)
  let cgr := roundQ (0 - 16384 * 2 * kr * (10000 - kr) * s) (10000 * kg * r.2.2)
  let cbb := roundQ (16384 * 2 * (10000 - kb) * s) (10000 * r.2.2)
  let y := cmp p 0 - r.1
  let b := cmp p 1 - 32768
  let d := cmp p 2 - 32768
  [clampI 0 65535 (s14 (cy * y + crr * d)), clampI 0 65535 (s14 (cy * y + cgb * b + cgr * d)),
   clampI 0 65535 (s14 (cy * y + cbb * b))]

/-- A 3 x 3 matrix row by row. -/
def mat3 (k : List Int) (p : List Int) (r : Nat) : Int :=
  k.getD (3 * r) 0 * cmp p 0 + k.getD (3 * r + 1) 0 * cmp p 1 + k.getD (3 * r + 2) 0 * cmp p 2

/-- Stage 5 for a format (R118-R120). -/
def stage5 (k : Colour) (f : Nat) (p : List Int) : List Int :=
  if !fmtYcc f then p
  else if k.matrix = 3 then
    let q := (List.range 3).map fun i => cmp p i - (k.offsets.getD i 0 : Nat)
    (List.range 3).map fun i => clampI 0 65535 (s14 (mat3 k.coeffs q i))
  else yccToRgb k.matrix k.full (yccDepth f) p

/-! ## Stage 6 (R121-R124) -/

/-- Luma weights in units of 1/10,000 (R130). -/
def lumaOf (prim : Nat) : List Int :=
  match prim with
  | 0 => [2126, 7152, 722]
  | 2 => [2290, 6917, 793]
  | _ => [2627, 6780, 593]

/-- The PQ constants (R121). -/
def pqM1 : Int := fxOf 2610 16384
def pqM2 : Int := fxOf 2523 32
def pqC1 : Int := fxOf 3424 4096
def pqC2 : Int := fxOf 2413 128
def pqC3 : Int := fxOf 2392 128

/-- PQ EOTF of an encoded value, in units of 10,000 cd/m2. -/
def pqEotf (e : Int) : Int :=
  let x := fxPow e (fxDiv fxOne pqM2)
  fxPow (fxDiv (max (x - pqC1) 0) (pqC2 - fxMul pqC3 x)) (fxDiv fxOne pqM1)

/-- PQ inverse EOTF of a value in units of 10,000 cd/m2. -/
def pqInv (y : Int) : Int :=
  let x := fxPow y pqM1
  fxPow (fxDiv (pqC1 + fxMul pqC2 x) (fxOne + fxMul pqC3 x)) pqM2

/-- The HLG constants (R122). -/
def hlgA : Int := fxOf 17883277 100000000
def hlgB : Int := fxOf 28466892 100000000
def hlgC : Int := fxOf 55991073 100000000

/-- HLG inverse OETF. -/
def hlgScene (e : Int) : Int :=
  if 2 * e ≤ fxOne then fxMul e e / 3 else (fxExp (fxDiv (e - hlgC) hlgA) + hlgB) / 12

/-- HLG system gamma for a peak in cd/m2 (R122). -/
def hlgGamma (peak : Nat) : Int := fxOf 12 10 + fxMul (fxOf 42 100) (fxLog10 peak 1000)

/-- sRGB to linear, of a code of 65,535 (R121). -/
def srgbF (e : Int) : Int :=
  if 100000 * e ≤ 4045 * 65535 then fxOf (e * 100) (65535 * 1292)
  else fxPow (fxOf (e * 1000 + 55 * 65535) (65535 * 1055)) (fxOf 24 10)

/-- A built-in transfer function of one component code: 0 PQ, 2 SRGB, 3 BT1886, 4 LINEAR (R121). -/
def builtF (fn lr : Nat) (e : Int) : Int :=
  match fn with
  | 0 => fxDiv (10000 * pqEotf (fxOf e 65535)) (lr * fxOne)
  | 2 => srgbF e
  | 3 => fxPow (fxOf e 65535) (fxOf 24 10)
  | _ => fxOf e 65535

/-- The s7.20 range. -/
def clampLin (v : Int) : Int := clampI (-134217728) 134217727 v

/-- HLG of the three components (R122). -/
def hlgLight (prim lm lr : Nat) (p : List Int) : List Int :=
  let e := (List.range 3).map fun i => hlgScene (fxOf (cmp p i) 65535)
  let w := lumaOf prim
  let ys := (w.getD 0 0 * cmp e 0 + w.getD 1 0 * cmp e 1 + w.getD 2 0 * cmp e 2) / 10000
  let g := if ys ≤ 0 then 0 else fxPow ys (hlgGamma lm - fxOne)
  (List.range 3).map fun i => fxDiv (lm * fxMul g (cmp e i)) (lr * fxOne)

/-- Interpolate an EOTF table (R123). -/
def eotfLookup (t : List Nat) (e : Int) : Int :=
  let i := (e / 64).toNat
  let a := toS 28 (t.getD i 0)
  let b := toS 28 (t.getD (i + 1) 0)
  a + ((b - a) * (e % 64) + 32) / 64

/-- Stage 6: encoded values to linear light (R121-R123). -/
def stage6 (k : Colour) (half : Bool) (fn lr lm : Nat) (table : List Nat) (p : List Int) : List Int :=
  if half ∧ fn = 4 then p.map fun v => clampLin (v * 256)
  else if fn = 1 then (hlgLight k.primaries lm lr p).map fun v => clampLin (fxRound v (2 ^ 20))
  else if fn = 5 then p.map fun v => eotfLookup table v
  else p.map fun v => clampLin (if fn = 4 then roundQ (2 ^ 20 * v) 65535 else fxRound (builtF fn lr v) (2 ^ 20))

/-- Colour divided by alpha (R124). -/
def unpremultiply (half : Bool) (a : Nat) (p : List Int) : List Int :=
  p.map fun v =>
    if a = 0 then 0
    else
      let q := (v * 65535 + (a / 2 : Nat)) / (a : Int)
      if half then clampI (-32768) 32767 q else min 65535 q

/-! ## Stage 7 (R125, R126) -/

/-- Preset gamut matrices in millionths, by layer and head primaries (R125). -/
def gamutTable (from' to' : Nat) : List Int :=
  match from', to' with
  | 0, 1 => [627404, 329283, 43313, 69097, 919540, 11362, 16391, 88013, 895595]
  | 1, 0 => [1660491, -587641, -72850, -124550, 1132900, -8349, -18151, -100579, 1118730]
  | 0, 2 => [822462, 177538, 0, 33194, 966806, 0, 17083, 72397, 910520]
  | 2, 0 => [1224940, -224940, 0, -42057, 1042057, 0, -19638, -78636, 1098274]
  | 2, 1 => [753833, 198597, 47570, 45744, 941777, 12479, -1210, 17602, 983609]
  | 1, 2 => [1343578, -282180, -61399, -65297, 1075788, -10490, 2822, -19598, 1016777]
  | _, _ => [1000000, 0, 0, 0, 1000000, 0, 0, 0, 1000000]

/-- The gamut matrix of a layer on a head, s3.14. -/
def gamutOf (k : Colour) (head : Nat) : List Int :=
  if k.primaries = 3 then k.gamut else (gamutTable k.primaries head).map fun v => roundQ (16384 * v) 1000000

/-- Stage 7. -/
def stage7 (k : Colour) (head : Nat) (p : List Int) : List Int :=
  (List.range 3).map fun i => clampI 0 134217727 (s14 (mat3 (gamutOf k head) p i))

/-! ## Stage 8 (R127-R129) -/

/-- Gain of EETF table entry `i` (R128). -/
def eetfEntry (lm lt lr k i : Nat) : Int :=
  let x := fxOf ((256 + i % 256) * 2 ^ (i / 256 + 3) * lr : Nat) (2 ^ 20 * 10000 : Nat)
  let pm := pqInv (fxOf lm 10000)
  let e1 := fxDiv (pqInv x) pm
  let mx := fxDiv (pqInv (fxOf lt 10000)) pm
  let kk := fxOf k 16384
  let ks := fxMul kk mx - (kk - fxOne)
  let e2 :=
    if e1 < ks ∨ fxOne ≤ ks then e1
    else
      let t := fxDiv (e1 - ks) (fxOne - ks)
      let t2 := fxMul t t
      let t3 := fxMul t2 t
      fxMul (2 * t3 - 3 * t2 + fxOne) ks + fxMul (t3 - 2 * t2 + t) (fxOne - ks) + fxMul (3 * t2 - 2 * t3) mx
  -- e1 = e2 below the peak: the light is unchanged, and the gain is exactly one
  if e2 = e1 ∧ e1 ≤ fxOne then 16384
  else min 65535 (fxRound (fxDiv (pqEotf (fxMul (min e2 fxOne) pm)) x) 16384)

/-- Index into a gain table, and the fraction to the next entry (R127). -/
def toneIndex (v : Nat) : Nat × Nat :=
  if v < 2 ^ 11 then (0, 0)
  else
    let e := Nat.log2 v
    ((e - 11) * 256 + v / 2 ^ (e - 8) - 256, v * 16 / 2 ^ (e - 8) % 16)

/-- Luminance with the weights of R130 in s1.14. -/
def luminance (prim : Nat) (p : List Int) : Int :=
  let w := (lumaOf prim).map fun v => roundQ (16384 * v) 10000
  s14 (w.getD 0 0 * cmp p 0 + w.getD 1 0 * cmp p 1 + w.getD 2 0 * cmp p 2)

/-- Largest component. -/
def maxC (p : List Int) : Int := max (cmp p 0) (max (cmp p 1) (cmp p 2))

/-- Stage 8 and the clamp that ends it (R127-R129). -/
def stage8 (k : Colour) (hc : HeadColour) (lm knee : Nat) (table : List Nat) (p : List Int) : List Int :=
  let q :=
    if k.tone = 0 then p
    else
      let v := (if k.tone = 3 then luminance hc.primaries p else maxC p).toNat
      let i := toneIndex v
      let at' (j : Nat) : Int := if k.tone = 1 then eetfEntry lm hc.lt hc.lr knee j else ((table.getD j 16384 : Nat) : Int)
      let a := at' i.1
      let b := if i.2 = 0 then a else at' (min (i.1 + 1) 4095)
      let g := a + ((b - a) * i.2 + 8) / 16
      p.map fun c => min 134217727 (s14 (c * g))
  q.map (clampI 0 16777215)

/-! ## Stage 9 (R132) -/

/-- A product over 65,535 with rounding. -/
def mul16 (a b : Nat) : Nat := (a * b + 32767) / 65535

/-- Whether premultiplied colour passes undivided: LINEAR with the tone map off (R124). -/
def keepsPremult (fn tone : Nat) : Bool := fn = 4 && tone = 0

/-- Stages 5 to 9 for one pixel of a layer on a head: components in the layer's format family, and alpha
(R113-R132). -/
def layerPixel (k : Colour) (f fn : Nat) (hc : HeadColour) (lm knee : Nat) (eotf tone : List Nat) (p : List Int)
    (a : Nat) : LePix :=
  let half := decide (f = 4)
  let keep := keepsPremult fn k.tone
  let c5 := stage5 k f p
  let c6 := if k.alphaMode = 2 ∧ !keep then unpremultiply half a c5 else c5
  let lin := stage7 k hc.primaries (stage6 k half fn hc.lr lm eotf c6)
  let c := (stage8 k hc lm knee tone lin).map (·.toNat)
  let ae := mul16 (if k.alphaMode = 0 then 65535 else a) k.ga
  { p := c.map fun v => mul16 v (if k.alphaMode = 2 ∧ keep then k.ga else ae), a := ae }

/-! ## The Blender (R134, R500) -/

/-- Lay one layer on the accumulator; `cap` is the largest value (R134, R500). -/
def blend (cap : Nat) (acc : List Nat) (x : LePix) : List Nat :=
  (List.range 3).map fun i => min cap (x.p.getD i 0 + mul16 (acc.getD i 0) (65535 - x.a))

/-! ## The head's output chain (R135-R141) -/

/-- Linear light to an encoded value: 0 SRGB, 1 BT1886, 2 PQ, 3 HLG (R135). -/
def oetf (hc : HeadColour) (acc : List Nat) : List Nat :=
  let lin := (List.range 3).map fun i => fxOf (acc.getD i 0 : Nat) (2 ^ 20)
  let enc : List Int :=
    match hc.oetf with
    | 1 => lin.map fun v => fxPow (min v fxOne) (fxOf 10 24)
    | 2 => lin.map fun v => pqInv (min (v * hc.lr / 10000) fxOne)
    | 3 =>
      let d : List Int := lin.map fun (v : Int) => min (v * (hc.lr : Int)) ((hc.lt : Int) * fxOne)
      let w := lumaOf hc.primaries
      let yd := (w.getD 0 0 * cmp d 0 + w.getD 1 0 * cmp d 1 + w.getD 2 0 * cmp d 2) / 10000
      let g := hlgGamma hc.lt
      let f := if yd ≤ 0 then 0 else fxPow (yd / hc.lt) (fxDiv (fxOne - g) g)
      d.map fun v =>
        let s := fxMul (v / hc.lt) f
        if 12 * s ≤ fxOne then fxPow (3 * s) (fxOne / 2) else fxMul hlgA (fxLn (12 * s - hlgB)) + hlgC
    | _ => lin.map fun v =>
        let v := min v fxOne
        if 10000000 * v ≤ 31308 * fxOne then 1292 * v / 100
        else fxMul (fxOf 1055 1000) (fxPow v (fxOf 10 24)) - fxOf 55 1000
  enc.map fun v => (clampI 0 65535 ((2 * 65535 * v + fxOne) / (2 * fxOne))).toNat

/-- The bytes of LUT entry (r, g, b) as components; entries not listed hold the identity image (R136,
R137). -/
def lutEntry (lut : Tab Nat) (r g b : Nat) : List Nat :=
  let id (i : Nat) : Nat := (2 * 4095 * i + 32) / 64
  let e := tget (id r + id g * 2 ^ 16 + id b * 2 ^ 32) lut ((b * 33 + g) * 33 + r)
  [bits e 11 0, bits e 27 16, bits e 43 32]

/-- Index and weight of one component on the LUT's grid (R137). -/
def lutCoord (e : Nat) : Nat × Nat :=
  let i := e * 32 / 65535
  if i = 32 then (31, 65535) else (i, e * 32 % 65535)

/-- The calibration LUT, by tetrahedra (R137). -/
def lutApply (lut : Tab Nat) (e : List Nat) : List Nat :=
  let r := lutCoord (e.getD 0 0)
  let g := lutCoord (e.getD 1 0)
  let b := lutCoord (e.getD 2 0)
  let v (dr dg db : Nat) : List Nat := lutEntry lut (r.1 + dr) (g.1 + dg) (b.1 + db)
  let fr := r.2
  let fg := g.2
  let fb := b.2
  let x : List (Nat × List Nat) :=
    if fg ≤ fr ∧ fb ≤ fg then [(65535 - fr, v 0 0 0), (fr - fg, v 1 0 0), (fg - fb, v 1 1 0), (fb, v 1 1 1)]
    else if fb ≤ fr ∧ fg ≤ fb then [(65535 - fr, v 0 0 0), (fr - fb, v 1 0 0), (fb - fg, v 1 0 1), (fg, v 1 1 1)]
    else if fr ≤ fb ∧ fg ≤ fr then [(65535 - fb, v 0 0 0), (fb - fr, v 0 0 1), (fr - fg, v 1 0 1), (fg, v 1 1 1)]
    else if fr ≤ fg ∧ fb ≤ fr then [(65535 - fg, v 0 0 0), (fg - fr, v 0 1 0), (fr - fb, v 1 1 0), (fb, v 1 1 1)]
    else if fb ≤ fg ∧ fr ≤ fb then [(65535 - fg, v 0 0 0), (fg - fb, v 0 1 0), (fb - fr, v 0 1 1), (fr, v 1 1 1)]
    else [(65535 - fb, v 0 0 0), (fb - fg, v 0 0 1), (fg - fr, v 0 1 1), (fr, v 1 1 1)]
  (List.range 3).map fun i => (x.foldl (fun a w => a + w.1 * w.2.getD i 0 * 16) 0 + 32767) / 65535

/-- Quantisation without dither (R138). -/
def quantPlain (n o : Nat) : Nat := (o * (2 ^ n - 1) + 32767) / 65535

/-- The dither matrix (R138). -/
def ditherB (x y : Nat) : Nat := [0, 8, 2, 10, 12, 4, 14, 6, 3, 11, 1, 9, 15, 7, 13, 5].getD (y % 4 * 4 + x % 4) 0

/-- Quantisation with ordered dither at a canvas position (R138). -/
def quantOrdered (n x y o : Nat) : Nat := (o * (2 ^ n - 1) + (2 * ditherB x y + 1) * 65535 / 32) / 65535

/-- One component with error diffusion: its output, and the errors passed right, below left, below and
below right (R139). -/
def diffuse (n o : Nat) (err : Int) : Nat × List Int :=
  let w : Int := (o * (2 ^ n - 1) : Nat) + err
  let q := clampI 0 (2 ^ n - 1) ((w + 32767) / 65535)
  let er := w - q * 65535
  (q.toNat, [7 * er / 16, 3 * er / 16, 5 * er / 16, er - 7 * er / 16 - 3 * er / 16 - 5 * er / 16])

/-- Composition of a palette colour over what lies beneath (R198). -/
def mantelMix (n alpha m b : Nat) : Nat :=
  let a := 2 ^ n - 1
  (alpha * m + (a - alpha) * b + a / 2) / a

/-- YCBCR444 packing of an n-bit pixel (R141). -/
def packYcc (m : Nat) (full : Bool) (n : Nat) (p : List Nat) : List Nat :=
  let kr := krOf m
  let kb := kbOf m
  let kg := 10000 - kr - kb
  let d : Int := 2 ^ n - 1
  let yo : Int := if full then 0 else 16 * 2 ^ (n - 8)
  let ys : Int := if full then d else 219 * 2 ^ (n - 8)
  let cs : Int := if full then d else 224 * 2 ^ (n - 8)
  let co : Int := 2 ^ (n - 1)
  let q := p.map fun v => ((v : Nat) : Int)
  let yk (k : Int) : Int := roundQ (16384 * k * ys) (10000 * d)
  let ck (k o : Int) : Int := roundQ (0 - 16384 * k * cs) (2 * (10000 - o) * d)
  let half : Int := roundQ (16384 * cs) (2 * d)
  let rows : List Int := [yk kr, yk kg, yk kb, ck kr kb, ck kg kb, half, half, ck kg kr, ck kb kr]
  (List.range 3).map fun i => (clampI 0 d ((if i = 0 then yo else co) + s14 (mat3 rows q i))).toNat

/-- Packing of a pixel for the link (R141). -/
def packPixel (hc : HeadColour) (n : Nat) (p : List Nat) : List Nat :=
  if hc.ycc then packYcc hc.matrix hc.full n p else p

end Sys2Proof.Machine
end

