-- ==== Sys2Proof/Machine/Dma.lean ====
section
/-! DEFINITION. Retriever channels and check-value units, and the DMA commands (R400, R440-R459). -/

namespace Sys2Proof.Machine

/-! ## Check-value units (R456-R459) -/

/-- Eight shifts of CRC-16/CCITT. -/
def crc16Shift : Nat → Nat → Nat
  | 0, c => c
  | n + 1, c => crc16Shift n (if 0x8000 ≤ c then ((c * 2) ^^^ 0x1021) % 65536 else c * 2 % 65536)

/-- Feed one byte to a unit's register (R456). -/
def cvByte (poly c b : Nat) : Nat :=
  if poly = 2 then crc16Shift 8 ((c % 65536) ^^^ (b * 256))
  else crcShift (if poly = 0 then 0xEDB88320 else 0x82F63B78) 8 (c ^^^ b)

/-- Feed bytes to a unit's register. -/
def Cv.feed (u : Cv) (d : List Byte) : Cv := { u with crc := d.foldl (fun c b => cvByte u.curPoly c b.toNat) u.crc }

/-- Process every byte pending (R458). -/
def Cv.drain (u : Cv) : Cv := { (u.feed u.pend) with pend := [] }

/-- A start: pending bytes are processed, poly is sampled, the seed loaded and the fold fed (R457, R458). -/
def Cv.start (u : Cv) : Cv :=
  let u := { u.drain with curPoly := u.poly, crc := if u.poly = 2 then u.seed.toNat % 65536 else u.seed.toNat }
  if u.fold = 1 then u.feed (leBytes 4 u.foldV.toNat)
  else if u.fold = 2 then u.feed (leBytes 2 u.foldV.toNat) else u

/-- The check-value unit of a channel (R459). -/
def State.unitOf (s : State) (ch : Nat) : Nat := 4 * (ch / 16) + (s.chan ch).unit

/-! ## Owners (R406, R445, R446) -/

/-- The function that owns a channel. -/
def Chan.fn (c : Chan) : Option Nat := if 1 ≤ c.owner ∧ c.owner ≤ 16 then some (c.owner - 1) else none

/-- Whether a channel may access host memory: its owner is a function with Bus Master Enable set (R445,
R446). -/
def State.hostOk (s : State) (ch : Nat) : Bool :=
  match (s.chan ch).fn with
  | some f => (s.door f).bme && s.regs.pcieUp
  | none => false

/-- The request of a channel. -/
def Chan.req (c : Chan) : Req := ⟨4, c.master, 0⟩

/-- Interrupt source of a channel (R451). -/
def chanSource (ch : Nat) : Nat := 256 * (ch / 16) + 64 + ch % 16

/-! ## Running a chain (R448-R454) -/

/-- Give the check-value unit of a CHECK back (R459). -/
def State.freeUnit (s : State) (ch : Nat) : State :=
  match (s.chan ch).desc with
  | some d => if d.ctl.toNat % 16 = 3 then s.modCv (s.unitOf ch) fun u => { u with dma := false } else s
  | none => s

/-- Halt a channel: 5 HALTED or 6 DENIED. DMA_IRQ.halted is set and the source raised; the token does not
fire (R452, R472). -/
def State.chanHalt (s : State) (ch st cause : Nat) : State :=
  let s := (s.freeUnit ch).modChan ch fun c => { c with
    state := st, irqHalted := true, fetching := false, retryWait := false }
  (s.detectAs (dieRec (ch / 16) 9) cause (ch % 16) false none).raise (chanSource ch)

/-- Begin to read the descriptor at an address. -/
def Chan.fetch (c : Chan) (addr : Nat) (host : Bool) (st : Nat) : Chan :=
  { c with state := st, cur := addr, curHost := host, fetching := true, reread := false, desc := none, retries := 0
           append := if c.state = 1 ∨ c.state = 2 ∨ c.state = 3 then c.append else false
           master := c.master }

/-- Begin the chain at DMA_CHAIN, under the owner's master ID (R406, R450). -/
def State.startChain (s : State) (ch : Nat) : State :=
  s.modChan ch fun c => { (c.fetch (c.chain / 32 * 32) (bit c.chain 0) (if c.pause then 3 else 1)) with
    master := ownerMaster ch c.owner }

/-- Resume a halted channel where it stopped, with the retry count reset: in its descriptor, in reading one, or in
reading a link word again (R450). -/
def State.resumeChan (s : State) (ch : Nat) : State :=
  let c := s.chan ch
  let s := s.setChan ch { c with state := 1, retries := 0, retryWait := false, fetching := c.desc.isNone && !c.reread }
  match c.desc with
  | some d => if d.ctl.toNat % 16 = 3 then s.modCv (s.unitOf ch) fun u => { u with dma := true } else s
  | none => s

/-- A doorbell (R450). -/
def State.doorbell (s : State) (ch : Nat) : State :=
  let c := s.chan ch
  if c.stopping then s
  else match c.state with
    | 0 => s.startChain ch
    | 4 => s.setChan ch { c with reread := true, master := ownerMaster ch c.owner }
    | 5 => s.resumeChan ch
    | 6 => s.resumeChan ch
    | _ => s.setChan ch { c with append := true }

/-- Set or clear DMA_CTRL.pause (R450, R453). -/
def State.setPause (s : State) (ch : Nat) (on : Bool) : State :=
  let c := s.chan ch
  if on then s.setChan ch { c with pause := true, state := if c.state = 1 then 2 else c.state }
  else s.setChan ch { c with pause := false, state := if c.state = 3 then 1 else c.state }

/-- Reply words of DMA.PAUSE: source, destination and remaining length (R400). -/
def Chan.place (c : Chan) : List Nat := words64 c.src ++ words64 c.dst ++ [c.remain]

/-- The fields of a descriptor from its 32 bytes. -/
def descOf (b : List Byte) : Desc :=
  { ctl := BitVec.ofNat 32 (ofLe (b.take 4)), len := ofLe ((b.drop 4).take 4), src := ofLe ((b.drop 8).take 8)
    dst := ofLe ((b.drop 16).take 8), link := ofLe ((b.drop 24).take 8) }

/-- Operation of a descriptor: 0 COPY, 1 FILL, 2 COMPARE, 3 CHECK. -/
def Desc.op (d : Desc) : Nat := d.ctl.toNat % 16
/-- Flag bits of a descriptor. -/
def Desc.flag (d : Desc) (i : Nat) : Bool := d.ctl.getLsbD i
/-- An invalid operation or a set reserved bit (R449). -/
def Desc.bad (d : Desc) : Bool :=
  3 < d.op || d.ctl.toNat / 2 ^ 13 % 8 ≠ 0 || d.ctl.toNat / 2 ^ 24 ≠ 0 || d.link / 2 % 16 ≠ 0
/-- Whether a descriptor needs host memory as source or destination. -/
def Desc.srcHost (d : Desc) : Bool := d.flag 7 && d.op ≠ 1
def Desc.dstHost (d : Desc) : Bool := d.flag 8 && (d.op ≠ 3 || d.flag 12)
/-- Overlapping ranges of a COPY (R449). -/
def Desc.overlaps (d : Desc) : Bool :=
  d.op = 0 && d.flag 7 = d.flag 8 && d.src < d.dst + d.len && d.dst < d.src + d.len

/-- What a response makes a channel do: 0 continue, 1 halt DENIED, 2 halt HALTED, 3 reissue (R452). -/
def respKind : DmaResp → Nat
  | .ok => 0
  | .denied => 1
  | .poisoned => 2
  | .unmapped => 2
  | .retired => 2
  | .uncorrectable => 3
  | .parity => 3
  | .unsupported => 3
  | .aborted => 3
  | .timeout => 3
  | .bridge => 3

/-- A request failed: halt, or wait for the reissue within the retry count (R452). -/
def State.chanError (s : State) (ch : Nat) (r : DmaResp) : State :=
  let c := s.chan ch
  if respKind r = 1 then s.chanHalt ch 6 1
  else if respKind r = 2 then s.chanHalt ch 5 0
  else if c.retries < c.maxRetries then s.setChan ch { c with retries := c.retries + 1, retryWait := true }
  else s.chanHalt ch 5 0

/-- A descriptor has been read: it starts, or halts the channel (R445, R448, R449). -/
def State.startDesc (s : State) (ch : Nat) (d : Desc) : State :=
  let c := s.chan ch
  let s := s.setChan ch { c with desc := some d, src := d.src, dst := d.dst, remain := d.len, fetching := false
                                 overlap := d.overlaps, cmpOff := if d.op = 2 then 0 else c.cmpOff
                                 cmpCnt := if d.op = 2 then 0 else c.cmpCnt }
  if d.bad then s.chanHalt ch 5 2
  else
    let s := if d.op ≠ 3 then s else s.modCv (s.unitOf ch) fun u =>
      { (if d.flag 11 then u.start else u.drain) with dma := true }
    if (d.srcHost ∨ d.dstHost) ∧ !s.hostOk ch ∧ 0 < d.len then s.chanHalt ch 6 1 else s

/-- Complete a descriptor: the token fires, DMA_IRQ.done is set, and the chain goes on or its last link word
is read again (R451, R454, R459). -/
def State.chanComplete (s : State) (ch : Nat) (d : Desc) : State :=
  let s := s.freeUnit ch
  let s := if d.flag 6 then s.fireToken (d.ctl.toNat / 65536 % 256) 1 else s
  let s := s.modChan ch fun c => { c with
    cmpOff := if d.op = 2 ∧ c.cmpCnt = 0 then 0xFFFFFFFF else c.cmpOff, irqDone := c.irqDone || d.flag 5 }
  let s := if d.flag 5 then s.raise (chanSource ch) else s
  if d.link ≠ 0 then s.modChan ch fun c => c.fetch (d.link / 32 * 32) (bit d.link 0) c.state
  else s.modChan ch fun c => { c with append := false, reread := true, desc := none }

/-! ## The commands (R400) -/

/-- Go on with a channel that exists (R400). -/
def withChan (s : State) (c : Cmd) (k : Res) : Res :=
  if 31 < c.p 0 then .err stNotPresent else withUnit (s.chanState (c.p 0)) k

/-- DMA.OWN (R400, R444, R446). -/
def bodyDmaOwn : Body := fun _ c s => withLen c 2 (withChan s c
  (let k := s.chan (c.p 0)
   if 17 < c.p 1 then .err stNotPermitted
   else if (c.p 1 = 0 ∨ k.owner = 0) ∧ c.cls ≠ clsS then .err stNotPermitted
   else if k.state = 1 ∨ k.state = 2 ∨ k.state = 3 ∨ k.stopping then .err stBusy
   else applied c.params c.params [] (s.setChan (c.p 0) { k.toIdle with owner := c.p 1, pause := k.pause })))

/-- Go on with a channel that the command's master may write. -/
def withChanWrite (s : State) (c : Cmd) (k : Res) : Res :=
  if 31 < c.p 0 then .err stNotPresent else withWrite s c 3 (c.p 0) (withUnit (s.chanState (c.p 0)) k)

/-- DMA.SETUP. -/
def bodyDmaSetup : Body := fun _ c s => withChanWrite s c (withLen c 3
  (applied c.params [c.p 0, min 15 (c.p 1), min 3 (c.p 2)] []
    (s.modChan (c.p 0) fun k => { k with maxRetries := min 15 (c.p 1), unit := min 3 (c.p 2) })))

/-- DMA.TOKEN (R156, R400). -/
def bodyDmaToken : Body := fun _ c s => withLen c 3
  (if 255 < c.p 0 then .err stNotPresent
   else if 1 < c.p 1 then .err stNotPermitted
   else if c.p 1 = 0 then .ok false [tget 0 s.tokens (c.p 0)] s
   else .ok (decide (65535 < c.p 2)) [min 65535 (c.p 2)] { s with tokens := tset s.tokens (c.p 0) (min 65535 (c.p 2)) })

/-- DMA.PAUSE replies after the drain (R400, R453). -/
def bodyDmaPause : Body := fun _ c s => withChanWrite s c (withLen c 2
  (let on := c.p 1 ≠ 0
   let t := s.setPause (c.p 0) on
   if (t.chan (c.p 0)).state = 2 then .wait t
   else .ok (decide (1 < c.p 1)) (t.chan (c.p 0)).place t))

/-- DMA.READ: the state, the owner code and the place (R400; DEDUCED, assumption 21). -/
def bodyDmaRead : Body := fun _ c s =>
  if 31 < c.p 0 then .err stNotPresent
  else withRead s c 3 (c.p 0) (withLen c 1 (withUnit (s.chanState (c.p 0))
    (let k := s.chan (c.p 0)
     .ok false ([k.state, k.owner] ++ k.place) s)))

end Sys2Proof.Machine
end

