-- ==== Sys2Proof/Machine/Rings.lean ====
section
/-! DEFINITION. The A-port: rings, doorbells, the end of a session, and BAR2 (R359-R362, R420, R425-R428,
R446). -/

namespace Sys2Proof.Machine

/-! ## Rings (R359-R361) -/

/-- Units of a ring of 2^log2 bytes. -/
def ringUnits (log2 : Nat) : Nat := 2 ^ log2 / 16
/-- Units from one index of a ring forward to another. -/
def ringDist (n a b : Nat) : Nat := (b + n - a % n) % n
/-- Units that a packet of `n` bytes occupies. -/
def packetUnits (n : Nat) : Nat := ceilDiv n 16
/-- Parameter words that a packet's header states. -/
def headerLength (b : List Byte) : Nat := ofLe (b.take 4) / 65536 % 4096

/-- The whole packets at the front of a ring's bytes, each without its padding (R359, R360). -/
def ringPackets : Nat → List Byte → List (List Byte)
  | 0, _ => []
  | fuel + 1, b =>
    let n := 20 + 4 * headerLength b
    if b.length < 16 * packetUnits n then [] else b.take n :: ringPackets fuel (b.drop (16 * packetUnits n))

/-- A request of a function to package memory. -/
def hostReq (fn : Nat) : Req := ⟨5, fn, 0⟩

/-- A ring's bytes in HBM from a unit on, wrapping at its end: the parts as address and length. -/
def ringSpans (base log2 unit n : Nat) : List (Nat × Nat) :=
  let off := 16 * unit % 2 ^ log2
  let a := min n (2 ^ log2 - off)
  [(base + off, a), (base, n - a)]

/-- Read ring bytes in HBM; bytes of a read that fails are free values (assumption 7). -/
def State.readRing (s : State) (fn : Nat) : List (Nat × Nat) → List Byte × State
  | [] => ([], s)
  | p :: t =>
    let r := s.read p.1 p.2 (hostReq fn)
    let b := if r.1 = .ok then r.2.1 else (List.range p.2).map fun i => Config.freeByte (2 * s.freeCtr) (p.1 + i)
    let s := if r.1 = .ok then r.2.2 else { r.2.2 with freeCtr := r.2.2.freeCtr + 1 }
    let q := s.readRing fn t
    (b ++ q.1, q.2)

/-- Host ring bytes that the host has not supplied are free values (assumption 7). -/
def fillFree (ctr n : Nat) (b : List Byte) : List Byte :=
  (b ++ (List.range n).map fun i => Config.freeByte (2 * ctr) i).take n

/-- Bits of RING_CTRL. -/
def Door.enabled (d : Door) : Bool := bit d.ctrl 0

/-- SQ_TAIL: the packets from SQ_HEAD to the new tail are read; a value outside the ring, or past SQ_HEAD,
counts an access error (R360, R426). A doorbell of rings that are not in use has no effect. `hostRing` is
what the ring in host memory holds from SQ_HEAD on. -/
def State.sqTail (s : State) (fn unit : Nat) (hostRing : List Byte) : State :=
  let d := s.door fn
  let n := ringUnits d.sqSize
  let off := 0x100000 + 0x10000 * fn + 0x0C
  if !d.enabled then s
  else if n ≤ unit ∨ ringDist n d.sqTail unit > (d.sqHead + n - 1 - d.sqTail) % n then s.accessError 0 off fn 5
  else
    let len := 16 * ringDist n d.sqHead unit
    let r := if bit d.ctrl 1 then s.readRing fn (ringSpans d.sqBase.toNat d.sqSize d.sqHead len)
      else (fillFree s.freeCtr len hostRing, if hostRing.length < len then { s with freeCtr := s.freeCtr + 1 } else s)
    (r.2.modDoor fn fun d => { d with sqTail := unit }).modPort fn fun q =>
      { q with rx := ringPackets (r.1.length / 16 + 1) r.1 }

/-- CQ_HEAD: frees ring space; a head past the tail counts an access error (R361). -/
def State.cqHead (s : State) (fn unit : Nat) : State :=
  let d := s.door fn
  let n := ringUnits d.cqSize
  if !d.enabled then s
  else if n ≤ unit ∨ ringDist n d.cqHead d.cqTail < ringDist n d.cqHead unit then
    s.accessError 0 (0x100000 + 0x10000 * fn + 0x20) fn 5
  else s.modDoor fn fun d => { d with cqHead := unit }

/-- A packet has been read from a ring: SQ_HEAD moves past it (R360). -/
def Door.taken (d : Door) (n : Nat) : Door :=
  { d with sqHead := (d.sqHead + packetUnits n) % ringUnits d.sqSize }

/-- Units free in a completion ring. -/
def Door.cqFree (d : Door) : Nat :=
  let n := ringUnits d.cqSize
  (d.cqHead + n - 1 - d.cqTail) % n

/-- Write bytes for a function: to the package address space, or to host memory. -/
def State.writeFor (s : State) (fn : Nat) (hbm : Bool) (a : Nat) (b : List Byte) : State :=
  if hbm then (s.write a b (hostReq fn)).2 else s.writeHost a b

/-- Interrupt source of a function's completion ring (R361, R461). -/
def ringSource (fn : Nat) : Nat := 96 + fn

/-- Write a packet into a function's completion ring, padded with zeros, then the tail shadow; then raise
its completion source (R359, R361). -/
def State.cqPut (s : State) (fn : Nat) (b : List Byte) : State :=
  let d := s.door fn
  let u := packetUnits b.length
  let b := b ++ List.replicate (16 * u - b.length) 0
  let s := (ringSpans d.cqBase.toNat d.cqSize d.cqTail b.length).foldl (fun (a : State × List Byte) p =>
    (if p.2 = 0 then a.1 else a.1.writeFor fn (bit d.ctrl 2) p.1 (a.2.take p.2), a.2.drop p.2)) (s, b)
  let tail := (d.cqTail + u) % ringUnits d.cqSize
  let s := s.1.writeFor fn (bit d.ctrl 3) d.shadow.toNat (leBytes 4 tail)
  (s.modDoor fn fun d => { d with cqTail := tail }).raise (ringSource fn)

/-- A write of RING_CTRL: enable from 0 to 1 clears the indices; a disable while busy is ignored (R426). -/
def State.ringCtrl (s : State) (fn master v : Nat) : State :=
  let d := s.door fn
  if !bit v 0 ∧ (s.port fn).busy then s.accessError 0 (0x100000 + 0x10000 * fn + 0x2C) master 9
  else if bit v 0 ∧ !d.enabled then
    (s.setDoor fn { d with ctrl := v % 16, sqHead := 0, sqTail := 0, cqHead := 0, cqTail := 0 }).modPort fn fun q =>
      { q with rx := [] }
  else s.setDoor fn { d with ctrl := v % 16 }

/-- IRQ_ACK: the vector's in-service bit clears, which frees the target (R428, R465). -/
def State.irqAck (s : State) (fn vec : Nat) : State :=
  s.modDoor fn fun d => { d with insvc := d.insvc &&& ~~~((1 : BitVec 128) <<< (vec % 128)) }

/-! ## The end of a session (R362, R369, R446) -/

/-- The port number that stands for a session that has ended. -/
def noPort : Nat := 99

/-- A tag of a port, marked as belonging to an ended session. -/
def retag (port : Nat) (p t : Nat) : Nat := if p = port then t + deadTag else t

/-- Mark every command of a port in progress, wherever the block keeps its tag. -/
def State.retagAll (s : State) (port : Nat) : State :=
  let two (x : Nat × Nat) : Nat × Nat := (x.1, retag port x.1 x.2)
  let cmd (c : Cmd) : Cmd := { c with tag := c.tag + deadTag }
  let s := s.modPort port fun q => { q with running := q.running.map cmd }
  { s with
    admQ := s.admQ.map fun j => if j.port = port then { j with cmd := cmd j.cmd } else j
    mem := { s.mem with rates := s.mem.rates.map fun e => (e.1, { e.2 with issuer := e.2.issuer.map two }) }
    links := s.links.map fun e => (e.1, { e.2 with
      auxWait := e.2.auxWait.map fun x => (x.1, retag port x.1 x.2.1, x.2.2) })
    mantel := { s.mantel with
      newAreas := s.mantel.newAreas.map fun x => (x.1, x.2.1, x.2.2.1, retag port x.2.2.1 x.2.2.2)
      sealing := s.mantel.sealing.map two }
    casc := { s.casc with
      forwards := s.casc.forwards.map fun x => { x with tag := retag port x.port x.tag }
      gather := s.casc.gather.map fun x => { x with tag := retag port x.port x.tag } } }

/-- A port number as kept with later work, after the session of `port` has ended. -/
def disown (port p : Nat) : Nat := if p = port then noPort else p

/-- Later completion events of the port's work go nowhere (R362). -/
def State.disownAll (s : State) (port : Nat) : State :=
  let flip (f : Flip) : Flip := { f with issuer := disown port f.issuer }
  { s with
    layers := s.layers.map fun e => (e.1, { e.2 with
      queue := e.2.queue.map flip, current := e.2.current.map flip
      showing := e.2.showing.map fun w => { w with flip := flip w.flip }
      bindIssuer := disown port e.2.bindIssuer })
    heads := s.heads.map fun e => (e.1, { e.2 with
      lutIssuer := disown port e.2.lutIssuer, audioIssuer := e.2.audioIssuer.map (disown port) }) }

/-- Discard the replies and events of a port and clear its counters, tags and subscriptions (R362). -/
def State.closePort (s : State) (port : Nat) : State :=
  ((s.retagAll port).disownAll port).modPort port fun q => { running := q.running, framing := q.framing }

/-- End the session of an A-port function: its rings, counters and doorbell block return to reset, and its
channels stop (R362, R446). The PCIe configuration of the function stays (assumption 10). -/
def State.endSession (s : State) (fn : Nat) : State :=
  let s := (s.closePort fn).modDoor fn fun d =>
    { bar2Log := d.bar2Log, bme := d.bme, d3hot := d.d3hot, vecMask := d.vecMask }
  { s with chans := (List.range 32).foldl (fun t i =>
      if (tget {} t i).fn = some fn then tmod {} t i fun c => { c with stopping := true } else t) s.chans }

/-- PF0 keeps the first `keep` virtual functions: the sessions of the others end (R362). -/
def State.keepVfs (s : State) (keep : Nat) : State :=
  let s := (List.range 16).foldl (fun s fn =>
    if keep < fn ∧ fn ≤ s.regs.numVfs then s.endSession fn else s) s
  { s with regs := { s.regs with numVfs := min s.regs.numVfs keep } }

/-- The PCIe link goes down: every function's session ends (R362, R472). -/
def State.linkDown (s : State) : State :=
  let s := (List.range 16).foldl (fun s fn => if s.portLive fn then s.endSession fn else s) s
  ({ s with regs := { s.regs with pcieUp := false } }).detect (dieRec 0 13) 2 0

/-- A stop of a channel by its owner's state is complete (R446). -/
def State.ownerStopped (s : State) (ch : Nat) : State :=
  let s := s.freeUnit ch
  s.modChan ch fun c =>
    { owner := if 1 < c.owner ∧ c.owner ≤ 16 then 1 else c.owner, pause := c.pause, maxRetries := c.maxRetries
      unit := c.unit, cur := c.cur, src := c.src, dst := c.dst, remain := c.remain, cmpOff := c.cmpOff
      cmpCnt := c.cmpCnt, master := c.master }

/-! ## BAR2 (R419, R420, R427) -/

/-- The package address of a BAR2 offset: the base rounded down to the aperture's size. -/
def Door.bar2At (d : Door) (off : Nat) : Nat := d.bar2.toNat / 2 ^ d.bar2Log * 2 ^ d.bar2Log + off

/-- Bytes of one BAR2 access that may lie past the aperture or the package are answered as denied. -/
def Door.bar2Ok (d : Door) (off n : Nat) : Bool := off + n ≤ 2 ^ d.bar2Log && d.bar2At off + n ≤ 2 ^ 37

/-- Where a BAR2 read's value is kept. -/
def bar2Path (fn : Nat) : Nat := 32 + fn

/-- A BAR2 read: all-ones in every 64-byte block that is denied or unmapped; other failures give free
bytes (R315, R419, R420, assumption 7). -/
def State.bar2Block (s : State) (fn a n : Nat) : List Byte × State :=
  let r := s.readBlock a n (hostReq fn)
  match r.1 with
  | .ok => (r.2.1, r.2.2)
  | .denied => (List.replicate n 0xFF, r.2.2)
  | .unmapped => (List.replicate n 0xFF, r.2.2)
  | _ => ((List.range n).map fun i => Config.freeByte (2 * s.freeCtr) (a + i), { r.2.2 with freeCtr := r.2.2.freeCtr + 1 })

/-- A BAR2 read of `n` bytes; the value returned is kept under the function's path. -/
def State.bar2Read (s : State) (fn off n : Nat) : State :=
  let d := s.door fn
  let r := if !d.bar2Ok off n then (List.replicate n (0xFF : Byte), s)
    else (blocksOf (d.bar2At off) n).foldl (fun (acc : List Byte × State) b =>
      let x := acc.2.bar2Block fn b.1 b.2
      (acc.1 ++ x.1, x.2)) ([], s)
  { r.2 with lastRead := tset r.2.lastRead (bar2Path fn) (ofLe r.1) }

/-- A BAR2 write: a part that is denied or unmapped is dropped. -/
def State.bar2Write (s : State) (fn off : Nat) (b : List Byte) : State :=
  let d := s.door fn
  if d.bar2Ok off b.length then (s.write (d.bar2At off) b (hostReq fn)).2 else s

end Sys2Proof.Machine
end

