-- ==== Sys2Proof/Machine/Indirect.lean ====
section
/-! DEFINITION. The indirect space of a die and the indirect pair (R437-R439). -/

namespace Sys2Proof.Machine

/-! ## The values that the indirect space shows (R439) -/

/-- Two 16-bit values as one word, the first low. -/
def pairWord (a b : Nat) : Nat := a % 65536 + 65536 * (b % 65536)

/-- The coefficient-set image: 28 bytes per phase, two coefficients per word (R389, R439). -/
def State.coefWord (s : State) (o : Nat) : Nat :=
  let phase := o % 2048 / 28
  let w := o % 2048 % 28 / 4
  if 64 ≤ phase then 0
  else
    let k := coefImage s.coefSets (o / 2048) phase
    pairWord (ofS 16 (k.getD (2 * w) 0)) (ofS 16 (k.getD (2 * w + 1) 0))

/-- The EOTF table image: 1,025 words of a slot of 8 KiB. -/
def State.eotfWord (s : State) (o : Nat) : Nat :=
  if 1025 ≤ o % 8192 / 4 then 0
  else match tfind s.eotf (o / 8192) with
    | some l => l.getD (o % 8192 / 4) 0
    | none => 1024 * (o % 8192 / 4)

/-- The tone table image: two gains per word. -/
def State.toneWord (s : State) (o : Nat) : Nat :=
  let i := o % 8192 / 2
  match tfind s.tone (o / 8192) with
  | some l => pairWord (l.getD i 0) (l.getD (i + 1) 0)
  | none => pairWord 16384 16384

/-- A word of a cluster's window: its status registers, and the LUT stores of its heads (R439, R504). -/
def State.clusterWord (s : State) (c o : Nat) : Nat :=
  if o < 0x200000 then (if o / 4 < 13 then s.clReg c (o / 4) else 0)
  else
    let e := o % 0x80000 / 8
    if 35937 ≤ e then 0
    else
      let v := lutEntry (s.head (4 * c + (o - 0x200000) / 0x80000)).lut (e % 33) (e / 33 % 33) (e / 1089)
      if o % 8 < 4 then pairWord (v.getD 0 0) (v.getD 1 0) else v.getD 2 0

/-- A word of Mantel area A, where the version in force lies. -/
def State.areaWord (s : State) (off : Nat) : Nat := ofLe (s.mem.memory.read (s.mantel.areaA + off) 4)

/-- The always-on domain's words that the spec places: scratch, the CHIP_RESET cause, and the start
record (R439, R477, R521). -/
def State.aoWord (s : State) (a : Nat) : Option Nat :=
  if 0x100 ≤ a ∧ a < 0x200 then some (tget 0 s.pwr.scratch ((a - 0x100) / 4))
  else if 0x300 ≤ a ∧ a < 0x320 then some (tget 0 s.pwr.start.ts ((a - 0x300) / 4) % 2 ^ 32)
  else match a with
    | 0x200 => some s.pwr.causeWord
    | 0x204 => some s.pwr.causeSyn
    | 0x208 => some (lo32 s.pwr.causeTime)
    | 0x20C => some (hi32 s.pwr.causeTime)
    | 0x320 =>
      let r := s.pwr.start
      some (r.kind % 4 + 4 * b2n r.fullTrain + 8 * b2n r.mantelOk + 16 * b2n r.endedReady)
    | _ => none

/-- Whether an indirect address lies in a power-gated cluster's window (R438). -/
def State.gatedAt (s : State) (die a : Nat) : Bool :=
  0x4000000 ≤ a && a < 0x8000000 && s.clusterState (16 * die + (a - 0x4000000) / 0x400000) ≠ 0 &&
    (s.cluster (16 * die + (a - 0x4000000) / 0x400000)).gated

/-- The word at an indirect address, outside the always-on domain; reserved addresses read 0. -/
def State.iaWord (s : State) (die a : Nat) : Nat :=
  if 0x100000 ≤ a ∧ a < 0x101180 then
    (s.synWords (synthOfRecord die ((a - 0x100000) / 64))).getD (a % 64 / 4) 0
  else if 0x200000 ≤ a ∧ a < 0x208000 then s.coefWord (a - 0x200000)
  else if 0x210000 ≤ a ∧ a < 0x230000 then s.eotfWord (a - 0x210000)
  else if 0x230000 ≤ a ∧ a < 0x250000 then s.toneWord (a - 0x230000)
  else if 0x300000 ≤ a ∧ a < 0x400000 then tget 0 (tget [] s.palettes ((a - 0x300000) / 1024)) (a % 1024 / 4)
  else if 0x400000 ≤ a ∧ a < 0x408000 then
    s.areaWord (paletteAt s.mantel.buf ((a - 0x400000) / 2048) + a % 2048)
  else if 0x4000000 ≤ a ∧ a < 0x8000000 then
    (if s.clusterState (16 * die + (a - 0x4000000) / 0x400000) = 0 then 0
     else s.clusterWord (16 * die + (a - 0x4000000) / 0x400000) (a % 0x400000))
  else if 0x8000000 ≤ a ∧ a < 0xA000000 then s.areaWord (ctmPart + (a - 0x8000000))
  else 0

/-- An indirect read: a word of the always-on domain whose content the spec does not place is a free value
(assumption 7). The flag tells that the address lies in a power-gated cluster. -/
def State.iaRead (s : State) (die a : Nat) : Nat × Bool × State :=
  if a < 0x10000 then
    if die = 1 then (0, false, s)
    else match s.aoWord a with
      | some v => (v, false, s)
      | none => ((Config.freeWord s.freeCtr).toNat, false, { s with freeCtr := s.freeCtr + 1 })
  else if s.gatedAt die a then (0, true, s)
  else (s.iaWord die a, false, s)

/-- Addresses that show a value and accept no write. -/
def iaReadOnly (a : Nat) : Bool :=
  a < 0x10000 || (0x100000 ≤ a && a < 0x101180) || (0x200000 ≤ a && a < 0x208000) ||
  (0x210000 ≤ a && a < 0x250000) || (0x400000 ≤ a && a < 0x408000) || (0x4000000 ≤ a && a < 0xA000000)

/-- Record an indirect write that a layer's table denies (R419, R439). -/
def State.denyPalette (s : State) (die a master li : Nat) : State :=
  ((s.accessError die a master 6).detect (dieRec die 10) 1 die).postDenied master 1 li a

/-- An indirect write: scratch, the release of the CHIP_RESET cause, and layer palettes; elsewhere it sets
ro_err and counts an access error, or meets a reserved address (R438, R439, R477). -/
def State.iaWrite (s : State) (die a v master : Nat) : State :=
  if a < 0x10000 ∧ die = 1 then s
  else if 0x100 ≤ a ∧ a < 0x200 then
    { s with pwr := { s.pwr with scratch := tset s.pwr.scratch ((a - 0x100) / 4) v } }
  else if a = 0x200 ∧ master = 16 ∧ v = 0 then
    { s with pwr := { s.pwr with causeWord := 0, causeSyn := 0, causeTime := 0 } }
  else if 0x300000 ≤ a ∧ a < 0x400000 then
    let li := (a - 0x300000) / 1024
    if s.mayWrite 1 li master then
      { s with palettes := tset s.palettes li (tset (tget [] s.palettes li) (a % 1024 / 4) v) }
    else s.denyPalette die a master li
  else if iaReadOnly a then
    (s.modIa die fun p => { p with roErr := true }).accessError die a master 9
  else s

/-! ## The indirect pair (R437, R438) -/

/-- A later access to the pair waits until a posted write completes. -/
def State.iaSettle (s : State) (die : Nat) : State := s.modIa die fun p => { p with busy := false }

/-- IA_DATA has been accessed: addr advances by the stride. -/
def Ia.advance (p : Ia) : Ia := { p with addr := (p.addr + p.stride) % 0x10000000 }

/-- Whether a master may use IA_DATA; another sets owner_err and counts an access error. -/
def State.iaRefuse (s : State) (die master : Nat) : State :=
  (s.modIa die fun p => { p with ownerErr := true }).accessError die (s.ia die).addr master 7

/-- A write of IA_ADDR makes its master the owner. -/
def State.iaSetAddr (s : State) (die v master : Nat) : State :=
  (s.iaSettle die).modIa die fun p =>
    { p with addr := v % 0x10000000 / 4 * 4, stride := if bits v 30 28 = 4 then 4 else 0, owner := master }

/-- A read of IA_DATA. -/
def State.iaDataRead (s : State) (die master : Nat) : Nat × State :=
  let s := s.iaSettle die
  if (s.ia die).owner ≠ master then (0, (s.iaRefuse die master).modIa die Ia.advance)
  else
    let r := s.iaRead die (s.ia die).addr
    (r.1, r.2.2.modIa die fun p => ({ p with gated := p.gated || r.2.1, data := r.1 } : Ia).advance)

/-- A write of IA_DATA: posted, in progress until its completion. -/
def State.iaDataWrite (s : State) (die v master : Nat) : State :=
  let s := s.iaSettle die
  if (s.ia die).owner ≠ master then (s.iaRefuse die master).modIa die Ia.advance
  else (s.iaWrite die (s.ia die).addr v master).modIa die fun p =>
    ({ p with busy := true, data := v } : Ia).advance

/-- An indirect read that is not answered within 10 µs (R438). -/
def State.iaTimeout (s : State) (die master : Nat) : Nat × State :=
  let s := advance 10000 (s.iaSettle die)
  if (s.ia die).owner ≠ master then (0, (s.iaRefuse die master).modIa die Ia.advance)
  else (0xFFFFFFFF, ((s.modIa die fun p => { p with timeout := true }).accessError die (s.ia die).addr master 8).modIa
    die Ia.advance)

end Sys2Proof.Machine
end

