-- ==== Sys2Proof/Machine/Regs.lean ====
section
/-! DEFINITION. The Control Window of each die: which block an access reaches, what each register reads and
what a write of it does (R8, R10, R420-R443, R572), and DEV.REGREAD and DEV.REGWRITE (R381). -/

namespace Sys2Proof.Machine

/-! ## Reaching a register (R420-R422) -/

/-- A register: its die, its block and the word's offset inside the block. -/
structure RegAt where
  die : Nat
  block : Nat
  off : Nat
  deriving DecidableEq, Repr

/-- Control Window offset of a register. -/
def RegAt.at' (r : RegAt) : Nat := 65536 * r.block + r.off

/-- Blocks that hold registers on a die (R421). -/
def blockUsed (die b : Nat) : Bool :=
  b ≤ 4 || (8 ≤ b && b ≤ 12) || (die = 0 && 16 ≤ b && b ≤ 31) || (32 ≤ b && b ≤ 48)

/-- The register at a Control Window offset of a die; none where it is reserved, so that it reads 0 and
ignores writes without an access check (R421, R422). -/
def State.regTarget (s : State) (die off : Nat) : Option RegAt :=
  let ap := die = 0 ∧ 512 ≤ off / 65536
  let d := if ap then 1 else die
  let b := if ap then off / 65536 - 512 else off / 65536
  if d < 2 ∧ s.dieState d = 1 ∧ blockUsed d b then some ⟨d, b, off % 65536 / 4 * 4⟩ else none

/-- Whether a path can make register accesses now: a live function, the S-port while the Bureau runs, the
M-port in SERVICE state (R345). -/
def State.pathLive (s : State) (path : Nat) : Bool :=
  if path < 16 then s.portLive path
  else if path = 16 then s.bureauUp
  else path = 17 && s.pwr.state = .service

/-- Whether a path's aperture reaches a register: a virtual function sees its own doorbell block alone. -/
def pathReach (path : Nat) (r : RegAt) : Bool :=
  path = 0 || 16 ≤ path || (r.die = 0 && r.block = 16 + path)

/-- The object table that governs a register: a channel's, or its block's (R413, R422). -/
def RegAt.table (r : RegAt) : Nat × Nat :=
  if 32 ≤ r.block ∧ r.block < 48 then (3, 16 * r.die + (r.block - 32)) else (0, 1024 * r.die + r.block)

/-! ## Latches (R443) -/

/-- Latch a high half for a path. -/
def State.latch (s : State) (path : Nat) (src : LatchSrc) (v : Nat) : State :=
  let t := tmod [] s.regs.latches path fun l => ⟨src, v⟩ :: l.filter (·.src ≠ src)
  { s with regs := { s.regs with latches := t } }

/-- Take the latched high half of a path, or the live one. -/
def State.unlatch (s : State) (path : Nat) (src : LatchSrc) (live : Nat) : Nat × State :=
  match (tget [] s.regs.latches path).find? (·.src = src) with
  | some l =>
    let t := tmod [] s.regs.latches path fun l => l.filter (·.src ≠ src)
    (l.value, { s with regs := { s.regs with latches := t } })
  | none => (live, s)

/-- Read the low or the high half of a 64-bit value through its latch. -/
def State.readHalf (s : State) (path : Nat) (src : LatchSrc) (hi : Bool) (v : Nat) : Nat × State :=
  if hi then s.unlatch path src (hi32 v) else (lo32 v, s.latch path src (hi32 v))

/-! ## What registers read -/

/-- Block 0 (R423). -/
def State.readDev (s : State) (path die off : Nat) (full : Bool) : Nat × State :=
  let e := s.accErr die
  match off with
  | 0x00 => (s.part + 65536 * die + 2 ^ 24 * ((if die = 0 then s.cfg.step0 else s.cfg.step1) % 256), s)
  | 0x04 => (s.pwr.state.code + 256 * b2n (s.regs.locked.contains die), s)
  | 0x08 => s.readHalf path .devTime false s.ticks
  | 0x0C => s.readHalf path .devTime true s.ticks
  | 0x10 => (e.count, if full then s.setAccErr die { e with count := 0 } else s)
  | 0x14 => (e.addr % 2 ^ 26, s)
  | 0x18 => (e.master + 256 * e.kind, s)
  | _ => (0, s)

/-- Block 1 (R436, R437). -/
def State.readIa (s : State) (die off master : Nat) : Nat × State :=
  match off with
  | 0x00 => ((s.ia die).addr + 2 ^ 28 * (s.ia die).stride, s)
  | 0x04 => s.iaDataRead die master
  | 0x08 => ((s.ia die).status, s)
  | 0x10 => (2 * b2n (s.regs.locked.contains die), s)
  | _ => (0, s)

/-- Complement of a word. -/
def notW (v : Nat) : Nat := 2 ^ 32 - 1 - v % 2 ^ 32

/-- Block 2: each slot and, 4 bytes above, its complement; the slots of sources without a reaction read 0
(R432, R434). -/
def State.readReact (s : State) (die off : Nat) : Nat :=
  let n := 256 * die + off / 8
  let c (v : Nat) : Nat := if off % 8 = 4 then notW v else v
  if off < 0x800 then (if s.srcLive n ∧ !srcVerify n then c (s.react n) else 0)
  else if off / 8 = 0x100 then c s.faults.bark
  else if off / 8 = 0x102 ∧ die = 0 then c 0
  else if off = 0x818 ∧ die = 0 then s.errStat else 0

/-- The word of a mask pair. -/
def maskWord (r w : DWord) (k : Nat) : Nat := (words64 r.toNat ++ words64 w.toNat).getD k 0

/-- Block 3: the view of the access tables (R572). -/
def State.readView (s : State) (die off : Nat) : Nat :=
  let obj (kind first base : Nat) : Nat :=
    let t := s.objTab kind (first + (off - base) / 16)
    maskWord t.rmask t.wmask (off % 16 / 4)
  if off < 0x8000 then
    let g := 4 * die + off / 0x2000
    let w := tget {} (s.windows g) (off % 0x2000 / 32)
    if s.regionState g ≠ 1 then 0
    else match off % 32 / 4 with
      | 0 => b2n w.valid + 2 * w.order + 8 * b2n w.prot
      | 1 => w.band + 65536 * w.bands
      | k => maskWord w.rmask w.wmask (k - 2)
  else if off < 0xA000 then obj 0 (1024 * die) 0x8000
  else if off < 0xE000 then obj 1 0 0xA000
  else if off < 0xE800 then obj 2 0 0xE000
  else if off < 0xEA00 then obj 3 0 0xE800 else 0

/-- Block 4 (R429). -/
def State.readIrq (s : State) (die off : Nat) : Nat :=
  let n := 256 * die + (off - 0x800) / 8
  if off < 0x20 then s.srcBits s.irq.pend (256 * die + 8 * off)
  else if off < 0x40 then s.srcBits s.irq.mask (256 * die + 8 * (off - 0x20))
  else if 0x100 ≤ off ∧ off < 0x120 then tget 0 s.irq.holdoff (8 * die + (off - 0x100) / 4)
  else if 0x800 ≤ off ∧ off < 0x1000 then
    (if off % 8 = 4 then notW (tget 0 s.irq.target n) else tget 0 s.irq.target n) else 0

/-- The record that a fault register belongs to, and the offset inside it (R421, R431). -/
def recordAt (die block off : Nat) : Nat × Nat :=
  if block = 12 then (dieRec die (off / 64), off % 64) else (4 * die + (block - 8), off)

/-- Blocks 8-12: fault collectors and records. A record that does not exist reads 0. -/
def State.readFault (s : State) (path die block off : Nat) : Nat × State :=
  let rec' := (recordAt die block off).1
  let r := s.frec rec'
  if !s.recLive rec' ∨ (block = 12 ∧ 1024 ≤ off) then (0, s)
  else match (recordAt die block off).2 with
    | 0x00 => (lo32 r.sticky.toNat, s)
    | 0x04 => (hi32 r.sticky.toNat, s)
    | 0x08 => (lo32 r.live.toNat, s)
    | 0x0C => (hi32 r.live.toNat, s)
    | 0x10 => (lo32 r.also.toNat, s)
    | 0x14 => (hi32 r.also.toNat, s)
    | 0x18 => (r.firstWord, s)
    | 0x1C => s.readHalf path (.fcFirst rec') false r.firstTime
    | 0x20 => s.readHalf path (.fcFirst rec') true r.firstTime
    | 0x24 => (r.firstSyn, s)
    | 0x28 => (b2n r.open_.isSome, s)
    | _ => (0, s)

/-- Blocks 16-31: a function's doorbell block (R425). -/
def State.readDoor (s : State) (fn off : Nat) (full : Bool) : Nat × State :=
  let d := s.door fn
  match off with
  | 0x00 => (lo32 d.sqBase.toNat, s)
  | 0x04 => (hi32 d.sqBase.toNat, s)
  | 0x08 => (d.sqSize, s)
  | 0x10 => (d.sqHead, s)
  | 0x14 => (lo32 d.cqBase.toNat, s)
  | 0x18 => (hi32 d.cqBase.toNat, s)
  | 0x1C => (d.cqSize, s)
  | 0x24 => (lo32 d.shadow.toNat, s)
  | 0x28 => (hi32 d.shadow.toNat, s)
  | 0x2C => (d.ctrl % 16 + 256 * b2n (s.port fn).busy, s)
  | 0x30 => (d.framing + 256 * d.access, if full then s.setDoor fn { d with framing := 0, access := 0 } else s)
  | 0x60 => (lo32 d.bar2.toNat, s)
  | 0x64 => (hi32 d.bar2.toNat, s)
  | _ => (if 0x40 ≤ off ∧ off < 0x50 then d.insvc.toNat / 2 ^ (8 * (off - 0x40)) % 2 ^ 32 else 0, s)

/-- Blocks 32-47: a channel (R440). -/
def State.readChan (s : State) (ch off : Nat) : Nat :=
  let c := s.chan ch
  match off with
  | 0x00 => lo32 c.chain
  | 0x04 => hi32 c.chain
  | 0x0C => b2n c.pause
  | 0x10 => c.stat ch
  | 0x14 => lo32 c.cur
  | 0x18 => hi32 c.cur
  | 0x1C => lo32 c.src
  | 0x20 => hi32 c.src
  | 0x24 => lo32 c.dst
  | 0x28 => hi32 c.dst
  | 0x2C => c.remain
  | 0x30 => c.cmpOff
  | 0x34 => c.cmpCnt
  | 0x38 => c.irq
  | _ => 0

/-- Drain a unit's pending bytes, one per fabric cycle (R458). -/
def State.cvDrain (s : State) (u : Nat) : State :=
  advance (2 * (s.cv u).pend.length) (s.modCv u Cv.drain)

/-- Block 48: a check-value unit; CV_RESULT waits until no byte is pending (R441, R458). -/
def State.readCv (s : State) (die off : Nat) : Nat × State :=
  let u := 4 * die + off / 64
  let c := s.cv u
  if 256 ≤ off then (0, s)
  else match off % 64 with
    | 0x00 => (c.poly + 4 * c.fold + 256 * b2n c.dma, s)
    | 0x04 => (c.seed.toNat, s)
    | 0x08 => (c.foldV.toNat, s)
    | 0x10 => (((s.cvDrain u).cv u).result, s.cvDrain u)
    | 0x14 => (c.stat, s)
    | _ => (0, s)

/-- What a register reads, after the access check; `full` for a 32-bit access. -/
def State.readReg (s : State) (path master : Nat) (r : RegAt) (full : Bool) : Nat × State :=
  if r.block = 0 then s.readDev path r.die r.off full
  else if r.block = 1 then s.readIa r.die r.off master
  else if r.block = 2 then (s.readReact r.die r.off, s)
  else if r.block = 3 then (s.readView r.die r.off, s)
  else if r.block = 4 then (s.readIrq r.die r.off, s)
  else if r.block ≤ 12 then s.readFault path r.die r.block r.off
  else if r.block < 32 then s.readDoor (r.block - 16) r.off full
  else if r.block < 48 then (s.readChan (16 * r.die + (r.block - 32)) r.off, s)
  else s.readCv r.die r.off

/-- A register read by a path, with the access check of BAR0 (R413, R419): the value is kept under the
path. -/
def State.regRead (s : State) (path die off : Nat) : State :=
  match s.regTarget die off with
  | none => { s with lastRead := tset s.lastRead path 0 }
  | some r =>
    if !s.pathLive path ∨ !pathReach path r then s
    else if s.mayRead r.table.1 r.table.2 path then
      let v := s.readReg path path r true
      { v.2 with lastRead := tset v.2.lastRead path v.1 }
    else
      let s := s.denyReg path r.die r.block r.at'
      { s with lastRead := tset s.lastRead path 0 }

/-! ## Writing (R8, R442) -/

/-- The bytes of a word that the byte enables select. -/
def byteMask (be : Nat) : Nat := (List.range 4).foldl (fun a i => if be.testBit i then a + 255 * 256 ^ i else a) 0
/-- Merge a write into a word by byte enables. -/
def mergeBytes (old new be : Nat) : Nat := (old &&& notW (byteMask be)) + (new &&& byteMask be)
/-- All four bytes of a word are enabled. -/
def fullWord (be : Nat) : Bool := be % 16 = 15

/-- A write of register: who writes, where, and what. -/
structure RegWr where
  master : Nat
  at_ : RegAt
  val : Nat
  be : Nat
  deriving DecidableEq, Repr

/-- Count an access error of a register write. -/
def State.wrErr (s : State) (w : RegWr) (kind : Nat) : State := s.accessError w.at_.die w.at_.at' w.master kind

/-- A field typed LK is frozen on its die (R8). -/
def State.isLocked (s : State) (die : Nat) : Bool := s.regs.locked.contains die

/-! ## Complement pairs (R434) -/

/-- Drop a master's open pair on a die and count an access error on its register. -/
def State.dropPair (s : State) (master die kind : Nat) : State :=
  match s.regs.pairs.find? fun p => p.master = master && p.die = die with
  | none => s
  | some p =>
    ({ s with regs := { s.regs with pairs := s.regs.pairs.filter fun p => !(p.master = master && p.die = die) } }
      ).accessError die p.off master kind

/-- Pairs whose 64 µs have passed are discarded as timeouts. -/
def State.expirePairs (s : State) : State :=
  (s.regs.pairs.filter fun p => p.at_ + 64000 < s.now).foldl (fun s p => s.dropPair p.master p.die 2) s

/-- The open pair of a master on a die. -/
def State.openPair (s : State) (master die : Nat) : Option PairSt :=
  s.regs.pairs.find? fun p => p.master = master && p.die = die

/-- A write of a master elsewhere in the block of its open pair discards the pair. -/
def State.disturbPair (s : State) (w : RegWr) : State :=
  match s.openPair w.master w.at_.die with
  | some p => if p.off / 65536 = w.at_.block ∧ p.off % 65536 ≠ w.at_.off / 8 * 8 then
      s.dropPair w.master w.at_.die 1 else s
  | none => s

/-- Discard a pair without counting it, when another error of the same write is counted. -/
def State.forgetPair (s : State) (w : RegWr) : State :=
  { s with regs := { s.regs with pairs := s.regs.pairs.filter fun p =>
      !(p.master = w.master && p.die = w.at_.die && p.off = w.at_.at' / 8 * 8) } }

/-- A write to a complement-pair slot: the opening write, or the one that completes the pair, whose effect
is `commit`. -/
def State.pairWrite (s : State) (w : RegWr) (lk : Bool) (commit : Nat → State → State) : State :=
  if !fullWord w.be then (s.forgetPair w).wrErr w 3
  else if lk ∧ s.isLocked w.at_.die then (s.forgetPair w).wrErr w 4
  else if w.at_.off % 8 = 0 then
    let s := s.dropPair w.master w.at_.die 1
    { s with regs := { s.regs with pairs := s.regs.pairs ++
        [{ master := w.master, die := w.at_.die, off := w.at_.at', value := BitVec.ofNat 32 w.val, at_ := s.now }] } }
  else match s.openPair w.master w.at_.die with
    | some p =>
      if p.off = w.at_.at' - 4 then
        (if p.value.toNat = notW w.val then commit p.value.toNat (s.forgetPair w) else (s.forgetPair w).wrErr w 1)
      else s.wrErr w 1
    | none => s.wrErr w 1

/-- Discard a completed pair and count an access error of kind 9 on its register. -/
def State.badPair (s : State) (w : RegWr) : State := s.accessError w.at_.die (w.at_.at' / 8 * 8) w.master 9

/-! ## What writes do -/

/-- A completed pair at FAULT_REACTi (R432). -/
def State.putReact (s : State) (w : RegWr) (n v : Nat) : State :=
  if s.srcLive n ∧ !srcVerify n ∧ reactionOk n (v % 32) then s.setReact n (v % 32) else s.badPair w

/-- A completed pair at BARK_WIDTH (R432). -/
def State.putBark (s : State) (w : RegWr) (v : Nat) : State :=
  if 2 ≤ v % 256 ∧ v % 256 ≤ 250 then { s with faults := { s.faults with bark := v % 256 } } else s.badPair w

/-- A completed pair at ERR_REL releases ERR_N once the Bark pulse has elapsed (R432, R433, R479). -/
def State.putErrRel (s : State) (w : RegWr) (v : Nat) : State :=
  if !bit v 0 ∨ !s.faults.errLow then s
  else if s.barkOver then
    { s with faults := { s.faults with errLow := false, pulseDone := true }, pwr := { s.pwr with errHeld := false } }
  else ({ s with faults := { s.faults with premature := true } }).badPair w

/-- Block 2 (R432, R433). -/
def State.writeReact (s : State) (w : RegWr) : State :=
  let o := w.at_.off
  if o < 0x800 then s.pairWrite w true fun v s => s.putReact w (256 * w.at_.die + o / 8) v
  else if o / 8 = 0x100 then s.pairWrite w true fun v s => s.putBark w v
  else if o / 8 = 0x102 ∧ w.at_.die = 0 then s.pairWrite w false fun v s => s.putErrRel w v
  else if o = 0x818 ∧ w.at_.die = 0 ∧ bit w.be 0 ∧ bit w.val 2 then
    { s with faults := { s.faults with premature := false } }
  else s

/-- Block 1 (R436-R438). -/
def State.writeIa (s : State) (w : RegWr) : State :=
  let d := w.at_.die
  match w.at_.off with
  | 0x00 => s.iaSetAddr d (mergeBytes ((s.ia d).addr + 2 ^ 28 * (s.ia d).stride) w.val w.be) w.master
  | 0x04 => if fullWord w.be then s.iaDataWrite d w.val w.master else (s.wrErr w 3).modIa d Ia.advance
  | 0x08 =>
    if bit w.be 0 then s.modIa d fun p => { p with
      timeout := p.timeout && !bit w.val 1, ownerErr := p.ownerErr && !bit w.val 2
      gated := p.gated && !bit w.val 3, roErr := p.roErr && !bit w.val 4 }
    else s
  | 0x10 =>
    if !fullWord w.be then s.wrErr w 3
    else if bit w.val 0 then { s with regs := { s.regs with locked := addTo s.regs.locked d } } else s
  | _ => s

/-- IRQ_MASKn: protected bits stay, and a change of one counts an access error of kind 6 (R430). -/
def State.writeMask (s : State) (w : RegWr) : State :=
  let first := 256 * w.at_.die + 8 * (w.at_.off - 0x20)
  let v := mergeBytes (s.irq.mask.toNat / 2 ^ first % 2 ^ 32) w.val w.be
  let t := (List.range 32).foldl (fun t i =>
    if s.srcLive (first + i) ∧ !rProtected (s.react (first + i)) then t.setMask (first + i) (bit v i) else t) s
  if (List.range 32).any fun i => s.srcLive (first + i) && rProtected (s.react (first + i)) &&
      (s.irq.mask.getLsbD (first + i) != bit v i) then t.wrErr w 6 else t

/-- A target word as IRQ_TARGET stores it (R429). -/
def targetWord (v : Nat) : Nat := (if bits v 1 0 = 3 then 0 else bits v 1 0) + 4 * bits v 14 2

/-- Write the target of a source. -/
def State.setTarget (s : State) (n v : Nat) : State :=
  { s with irq := { s.irq with target := tset s.irq.target n (targetWord v) } }

/-- IRQ_TARGETi and its complement address (R430). -/
def State.writeTarget (s : State) (w : RegWr) : State :=
  let n := 256 * w.at_.die + (w.at_.off - 0x800) / 8
  if rProtected (s.react n) then
    (if w.master = 16 then s.pairWrite w true fun v s => s.setTarget n v else s.wrErr w 6)
  else if w.at_.off % 8 = 4 then s
  else if s.isLocked w.at_.die then s.wrErr w 4
  else s.setTarget n (mergeBytes (tget 0 s.irq.target n) w.val w.be)

/-- Block 4 (R429, R430). -/
def State.writeIrq (s : State) (w : RegWr) : State :=
  let o := w.at_.off
  let g := 8 * w.at_.die + (o - 0x100) / 4
  if 0x20 ≤ o ∧ o < 0x40 then s.writeMask w
  else if 0x100 ≤ o ∧ o < 0x120 then
    (if s.isLocked w.at_.die then s.wrErr w 4
     else
       let t := tset s.irq.holdoff g (mergeBytes (tget 0 s.irq.holdoff g) w.val w.be % 65536)
       { s with irq := { s.irq with holdoff := t } })
  else if 0x800 ≤ o ∧ o < 0x1000 then s.writeTarget w
  else s

/-- Blocks 8-12: only the sticky word is written (R431). -/
def State.writeFault (s : State) (w : RegWr) : State :=
  let r := recordAt w.at_.die w.at_.block w.at_.off
  let m := w.val &&& byteMask w.be
  if !s.recLive r.1 ∨ (w.at_.block = 12 ∧ 1024 ≤ w.at_.off) then s
  else if r.2 = 0 then s.modFrec r.1 (·.clear (BitVec.ofNat 64 m))
  else if r.2 = 4 then s.modFrec r.1 (·.clear (BitVec.ofNat 64 (m * 2 ^ 32)))
  else s

/-- Write one half of a 64-bit field. -/
def half (old : DWord) (hi : Bool) (f : Nat → Nat) : DWord :=
  if hi then BitVec.ofNat 64 (lo32 old.toNat + 2 ^ 32 * (f (hi32 old.toNat) % 2 ^ 32))
  else BitVec.ofNat 64 (f (lo32 old.toNat) % 2 ^ 32 + 2 ^ 32 * hi32 old.toNat)

/-- A size field: other values are stored as 12 (R425). -/
def sizeField (v : Nat) : Nat := if 12 ≤ v % 32 ∧ v % 32 ≤ 20 then v % 32 else 12

/-- The doorbell block after a write of a base, size or shadow register (R425). -/
def Door.put (d : Door) (off val be : Nat) : Door :=
  let m (old : Nat) : Nat := mergeBytes old val be
  match off with
  | 0x00 => { d with sqBase := half d.sqBase false fun o => m o / 4096 * 4096 }
  | 0x04 => { d with sqBase := half d.sqBase true m }
  | 0x08 => { d with sqSize := sizeField (m d.sqSize) }
  | 0x14 => { d with cqBase := half d.cqBase false fun o => m o / 4096 * 4096 }
  | 0x18 => { d with cqBase := half d.cqBase true m }
  | 0x1C => { d with cqSize := sizeField (m d.cqSize) }
  | 0x24 => { d with shadow := half d.shadow false fun o => m o / 4 * 4 }
  | 0x28 => { d with shadow := half d.shadow true m }
  | 0x60 => { d with bar2 := half d.bar2 false fun o => m o / 2 ^ 30 * 2 ^ 30 }
  | 0x64 => { d with bar2 := half d.bar2 true fun o => m o % 32 }
  | _ => d

/-- Registers of a doorbell block typed LK. -/
def doorLk (off : Nat) : Bool := [0x00, 0x04, 0x08, 0x14, 0x18, 0x1C, 0x24, 0x28, 0x60, 0x64].contains off

/-- Blocks 16-31 (R425, R426). What host memory holds behind a doorbell is free here (assumption 7); the
SQ_TAIL command states it. -/
def State.writeDoor (s : State) (w : RegWr) : State :=
  let fn := w.at_.block - 16
  let o := w.at_.off
  if doorLk o then
    (if s.isLocked w.at_.die then s.wrErr w 4
     else if (s.door fn).enabled ∧ o < 0x60 then s.wrErr w 9
     else s.modDoor fn (·.put o w.val w.be))
  else if o = 0x2C then (if bit w.be 0 then s.ringCtrl fn w.master w.val else s)
  else if o = 0x0C ∨ o = 0x20 ∨ o = 0x50 then
    (if !fullWord w.be then s.wrErr w 3
     else if o = 0x0C then s.sqTail fn (w.val % 65536) []
     else if o = 0x20 then s.cqHead fn (w.val % 65536)
     else s.irqAck fn (w.val % 128))
  else s

/-- A write of DMA_CHAIN (R440, R450). -/
def State.putChain (s : State) (w : RegWr) (ch : Nat) (hi : Bool) : State :=
  let c := s.chan ch
  if c.stopping ∨ !(c.state = 0 ∨ c.state = 4 ∨ c.state = 5 ∨ c.state = 6) then s.wrErr w 9
  else
    let v := (half (BitVec.ofNat 64 c.chain) hi fun o =>
      let x := mergeBytes o w.val w.be
      if hi then x else x / 32 * 32 + x % 2).toNat
    s.setChan ch { c.toIdle with pause := c.pause, chain := v }

/-- A W1C write of DMA_IRQ: the source lowers when no cause remains (R440, R451). -/
def State.clearChanIrq (s : State) (ch v : Nat) : State :=
  let s := s.modChan ch fun c => { c with irqDone := c.irqDone && !bit v 0, irqHalted := c.irqHalted && !bit v 1 }
  if (s.chan ch).irq = 0 then
    { s with irq := { s.irq with pend := s.irq.pend &&& ~~~((1 : BitVec 512) <<< chanSource ch) } }
  else s

/-- Blocks 32-47 (R440, R450, R451). -/
def State.writeChan (s : State) (w : RegWr) : State :=
  let ch := 16 * w.at_.die + (w.at_.block - 32)
  match w.at_.off with
  | 0x00 => s.putChain w ch false
  | 0x04 => s.putChain w ch true
  | 0x08 => if !fullWord w.be then s.wrErr w 3 else if bit w.val 0 then s.doorbell ch else s
  | 0x0C => if bit w.be 0 then s.setPause ch (bit w.val 0) else s
  | 0x38 => if bit w.be 0 then s.clearChanIrq ch w.val else s
  | _ => s

/-- Bytes enter a unit; those that do not fit wait, while the unit feeds one byte per cycle (R458). -/
def State.cvPush (s : State) (u : Nat) (b : List Byte) : State :=
  let c := s.cv u
  let all := c.pend ++ b
  let k := all.length - 8
  advance (2 * k) (s.setCv u { (c.feed (all.take k)) with pend := all.drop k })

/-- The bytes of a word that are enabled, in ascending order. -/
def enabledBytes (val be : Nat) : List Byte :=
  ((List.range 4).filter fun i => be.testBit i).map fun i => BitVec.ofNat 8 (val / 256 ^ i)

/-- A write of CV_CTRL: poly 3 is refused, and start waits until no byte is pending (R441, R457). -/
def State.cvCtrl (s : State) (w : RegWr) (u : Nat) : State :=
  let c := s.cv u
  let v := mergeBytes (c.poly + 4 * c.fold) w.val w.be
  if bits v 1 0 = 3 then s.wrErr w 9
  else
    let c := { c with poly := bits v 1 0, fold := if bits v 3 2 = 3 then 0 else bits v 3 2 }
    if bit w.be 0 ∧ bit w.val 4 then advance (2 * c.pend.length) (s.setCv u c.start) else s.setCv u c

/-- Block 48 (R441): while a CHECK holds the unit, writes are refused. -/
def State.writeCv (s : State) (w : RegWr) : State :=
  let u := 4 * w.at_.die + w.at_.off / 64
  let c := s.cv u
  if 256 ≤ w.at_.off then s
  else if 0x14 < w.at_.off % 64 then s
  else if c.dma then s.wrErr w 9
  else match w.at_.off % 64 with
    | 0x00 => s.cvCtrl w u
    | 0x04 => s.setCv u { c with seed := BitVec.ofNat 32 (mergeBytes c.seed.toNat w.val w.be) }
    | 0x08 => s.setCv u { c with foldV := BitVec.ofNat 32 (mergeBytes c.foldV.toNat w.val w.be) }
    | 0x0C => s.cvPush u (enabledBytes w.val w.be)
    | _ => s

/-- What a write does after the access check. -/
def State.writeReg (s : State) (w : RegWr) : State :=
  let b := w.at_.block
  let s := s.disturbPair w
  if b = 0 then s
  else if b = 1 then s.writeIa w
  else if b = 2 then s.writeReact w
  else if b = 4 then s.writeIrq w
  else if b ≤ 12 then s.writeFault w
  else if b < 32 then s.writeDoor w
  else if b < 48 then s.writeChan w
  else s.writeCv w

/-- A write of one word through BAR0: block 3 refuses every write, a denied write is counted (R417, R419). -/
def State.regWrite (s : State) (path die off val be : Nat) : State :=
  let s := s.expirePairs
  match s.regTarget die off with
  | none => s
  | some r =>
    let w : RegWr := { master := path, at_ := r, val := val % 2 ^ 32, be }
    if !s.pathLive path ∨ !pathReach path r ∨ be % 16 = 0 then s
    else if r.block = 3 then s.wrErr w 9
    else if s.mayWrite r.table.1 r.table.2 path then s.writeReg w
    else (s.wrErr w 6).denyReg path r.die r.block r.at'

/-- A write through a function's BAR0, of one or both words of an access: the byte enables select the bytes
(R420, R442). -/
def State.barWrite (s : State) (fn off be : Nat) (val : DWord) : State :=
  let o := if fn = 0 then off else 0x100000 + 0x10000 * fn + off
  if (if fn = 0 then 0x4000000 else 0x10000) ≤ off then s
  else (s.regWrite fn 0 (o / 4 * 4) (lo32 val.toNat) (be % 16)).regWrite fn 0 (o / 4 * 4 + 4) (hi32 val.toNat)
    (be / 16 % 16)

/-! ## DEV.REGREAD and DEV.REGWRITE (R381) -/

/-- The address a DEV.REGREAD or DEV.REGWRITE applies: bit [31] selects the indirect space; bits [1:0] are
ignored and a larger offset is clamped. -/
def regAddr (a : Nat) : Bool × Nat := (bit a 31, min (a % 2 ^ 31) (if bit a 31 then 0xFFFFFFC else 0x3FFFFFC) / 4 * 4)

/-- Whether an address was clamped. -/
def regClamped (a : Nat) : Bool := (regAddr a).2 ≠ a % 2 ^ 31 / 4 * 4

/-- The register that an address of a die names; the indirect space is judged by the pair's block. -/
def State.regOf (s : State) (die a : Nat) : Option RegAt :=
  if (regAddr a).1 then some ⟨die, 1, 4⟩ else s.regTarget die (regAddr a).2

/-- DEV.REGREAD. -/
def bodyDevRegread : Body := fun port c s => withLen c 1
  (match s.regOf c.idx (c.p 0) with
   | none => .ok (regClamped (c.p 0)) [0] s
   | some r => withRead s c r.table.1 r.table.2
     (if (regAddr (c.p 0)).1 then
        let v := s.iaRead c.idx (regAddr (c.p 0)).2
        .ok (regClamped (c.p 0)) [v.1] (if v.2.1 then v.2.2.modIa c.idx fun p => { p with gated := true } else v.2.2)
      else
        let v := s.readReg port c.master r true
        .ok (regClamped (c.p 0)) [v.1] v.2))

/-- The pairs of address and value of a DEV.REGWRITE. -/
def regPairs : List Nat → List (Nat × Nat)
  | a :: v :: t => (a, v) :: regPairs t
  | _ => []

/-- Go on when every register of a list admits a write; block 3 is answered by its own rule (R417). -/
def withRegs (s : State) (c : Cmd) : List (Nat × Nat) → Res → Res
  | [], k => k
  | x :: t, k => match s.regOf c.idx x.1 with
    | none => withRegs s c t k
    | some r => if r.block = 3 then withRegs s c t k else withWrite s c r.table.1 r.table.2 (withRegs s c t k)

/-- One write of a DEV.REGWRITE. -/
def State.cmdWrite (s : State) (c : Cmd) (x : Nat × Nat) : State :=
  let s := s.expirePairs
  if (regAddr x.1).1 then s.iaWrite c.idx (regAddr x.1).2 x.2 c.master
  else match s.regTarget c.idx (regAddr x.1).2 with
    | none => s
    | some r =>
      let w : RegWr := { master := c.master, at_ := r, val := x.2, be := 15 }
      if r.block = 3 then s.wrErr w 9 else s.writeReg w

/-- DEV.REGWRITE: every address is checked first, then the writes are applied in order. -/
def bodyDevRegwrite : Body := fun _ c s =>
  if c.n % 2 = 1 ∨ c.n = 0 ∨ 16 < c.n then badLength c
  else withRegs s c (regPairs c.params) (.ok ((regPairs c.params).any fun x => regClamped x.1)
    [c.n / 2] ((regPairs c.params).foldl (fun s x => s.cmdWrite c x) s))

end Sys2Proof.Machine
end

