-- ==== Sys2Proof/Machine/Packets.lean ====
section
/-! DEFINITION. The path of a packet: the checks on arrival in the order of R351, commands in progress and
held, replies, admission, and the delivery of outgoing packets (R345-R370). -/

namespace Sys2Proof.Machine

/-! ## Opcodes (R346, R371) -/

/-- A row of the command reference: its code, the classes that may send it, the scope levels it takes,
whether a follower refuses it (m), and what it does, at once and at admission. -/
structure OpSpec where
  code : Nat
  cls : List Nat
  levels : List Nat
  m : Cmd → Bool := fun _ => false
  body : Body
  judge : Body := fun _ _ _ => .admission

/-- A row marked m for every command. -/
def always (_ : Cmd) : Bool := true

/-! ## Ports (R345, R363, R368) -/

/-- Rank of a class: SAFETY 3, HOST 2, GUEST 1; the other codes rank with none. -/
def classRank (c : Nat) : Nat := if c = clsS then 3 else if c = clsH then 2 else if c = clsG then 1 else 0

/-- The class of a command on the C-port: what the master claims, lowered to the ceiling; 0 for none. -/
def State.cClass (s : State) (claimed : Nat) : Nat :=
  let r := min (classRank claimed) s.casc.ceiling
  if r = 0 then 0 else 4 - r

/-- The class a port gives a command (R345). -/
def State.classOf (s : State) (port claimed : Nat) : Nat :=
  if port = 16 then clsS else if port = 17 then clsV else if port = 18 then s.cClass claimed
  else if port = 0 then clsH else clsG

/-- Whether a port takes packets now; with TEST_MODE high only the M-port does (R345, R367, R508, R558). -/
def State.accepts (s : State) (port link : Nat) : Bool :=
  s.bureauUp && s.portLive port && (port ≠ 18 || s.casc.upstream = some link) && (!s.cfg.testMode || port = 17)

/-- Whether a port checks the sequence number of a packet (R351). -/
def sequenced (p : Pkt) : Bool := p.port = 16 || p.port = 18 || (p.port < 16 && p.seqChk)

/-- A reply that leaves its tag as it is: to a packet that fails check 2, 3 or 4. -/
def State.turnAway (s : State) (port op tag cls scope st expect : Nat) : State :=
  s.send port { kind := 6, opcode := op, tag, cls, scope, params := [replyWord st false expect] }

/-! ## Scope (R349) -/

/-- Number of units at a level. -/
def levelSize (l : Nat) : Nat := [1, 2, 8, 32, 128].getD l 0

/-- State of the unit that a scope names. -/
def State.scopeState (s : State) (level idx : Nat) : Nat :=
  match level with
  | 1 => s.dieState idx
  | 2 => s.regionState idx
  | 3 => s.clusterState idx
  | 4 => s.headState idx
  | _ => 1

/-- What the scope of a command resolves to. -/
inductive Target where
  /-- This package. -/
  | here
  /-- Another package of the system. -/
  | other (pkg : Nat)
  /-- Every package of the system. -/
  | every
  /-- Refused with a status. -/
  | no (st : Nat)
  deriving DecidableEq, Repr

/-- The status of a unit that a scope names. -/
def State.scopeHere (s : State) (c : Cmd) : Target :=
  match unitStatus (s.scopeState c.level c.idx) with
  | none => .here
  | some st => .no st

/-- Resolve the scope of a command (R349, R367). -/
def State.target (s : State) (levels : List Nat) (c : Cmd) : Target :=
  if !levels.contains c.level then .no stNotPermitted
  else if c.level ≠ 0 ∧ levelSize c.level ≤ c.idx then .no (if safetyOp c.op then stRange else stNotPresent)
  else if bit c.scope 3 then
    (if !s.isMaster then .no stNotPermitted else if c.cls = clsV then .no stNotPermitted else .every)
  else if c.scope % 8 ≠ s.cfg.pkgId then
    (if s.isMaster ∧ s.isMember (c.scope % 8) then
       (if c.cls = clsV then .no stNotPermitted else .other (c.scope % 8))
     else .no stNotPresent)
  else s.scopeHere c

/-! ## Commands that the power state turns away (R511, R573) -/

/-- HBM content is being initialised (R573). -/
def State.hbmStep (s : State) : Bool := s.pwr.step = .hbm || s.pwr.step = .warmHbm

/-- Commands that read or write HBM content. -/
def hbmCmd (c : Cmd) : Bool :=
  [0x0703, 0x0704, 0x0A03, 0x0A05, 0x0C01, 0x0C02, 0x0C03, 0x0C04, 0x0C05, 0x0C06, 0x0D01, 0x0D02, 0x0D03, 0x0E01,
    0x0401, 0x1604].contains c.op ||
  (c.op = 0x0B01 && c.p 1 ≠ 0) || (c.op = 0x0806 && c.p 12 ≠ 0) || (c.op = 0x1202 && c.p 3 ≠ 0)

/-- Whether the power state answers BUSY. -/
def State.powerBusy (s : State) (c : Cmd) : Bool := s.pwr.target.isSome || (s.hbmStep && hbmCmd c)

/-! ## Running a command (R351, R353, R355) -/

/-- A reset of the device happened inside a command: no reply is left to give. -/
def wasReset (old new : State) : Bool := new.pwr.step = .aoBoot && old.pwr.step ≠ .aoBoot

/-- Put a command among those in progress. -/
def State.inProgress (s : State) (port : Nat) (c : Cmd) : State :=
  s.modPort port fun q => { q with running := q.running ++ [c] }

/-- Give the reply of a body's answer; a command that waits joins those in progress. -/
def State.answer (s : State) (port : Nat) (c : Cmd) (r : Res) : State :=
  match r with
  | .admission => { s.inProgress port c with admQ := s.admQ ++ [{ port, cmd := c }] }
  | .wait s' => s'.inProgress port c
  | r =>
    let w := r.words s c.master
    if wasReset s w.2 then w.2 else w.2.sendReply port c.op c.tag c.cls c.scope (w.1.getD [])

/-- Whether a body's answer accepts its command. -/
def Res.accepted : Res → Bool
  | .ok _ _ _ => true
  | _ => false

/-- The system configuration generation steps with every change accepted under a row marked m, and a master keeps and
sends on the change (R545). -/
def State.genStep (s : State) (sp : OpSpec) (c : Cmd) (ok : Bool) : State :=
  if sp.m c && ok then s.systemStep c else s

/-- Check 7 and the effect of a command on this package. -/
def State.runHere (s : State) (sp : OpSpec) (port : Nat) (c : Cmd) : State :=
  if s.powerBusy c then s.answer port c (.err stBusy)
  else
    let r := sp.body port c s
    (s.answer port c r).genStep sp c r.accepted

/-- A command for every package: it is forwarded to every member and runs here, and the one reply waits for
all of them (R349). -/
def State.runEvery (s : State) (sp : OpSpec) (port : Nat) (c : Cmd) : State :=
  let ms := s.present
  let g : Gather := { port, tag := c.tag, op := c.op, cls := c.cls, scope := c.scope, left := ms.length + 1
                      worst := stOk, pkg := s.cfg.pkgId }
  let s := { s with casc := { s.casc with gather := s.casc.gather ++ [g] } }
  let s := ms.foldl (fun s m => s.forward m port c true) s
  match s.scopeHere c with
  | .no st => s.answer port c (.err st)
  | _ => s.runHere sp port c

/-- A C-port session notes that a command has run in it (R369). -/
def State.noteC (s : State) (port : Nat) : State :=
  if port = 18 then { s with casc := { s.casc with cRun := true } } else s

/-- A port notes the packet it takes: the next sequence number where it checks them (R351). -/
def State.noteSeq (s : State) (p : Pkt) : State :=
  if sequenced p then s.modPort p.port fun q => { q with rxSeq := (q.rxSeq + 1) % 65536 } else s

/-- A port notes the tag of a packet (R353). -/
def State.noteTag (s : State) (p : Pkt) : State := s.modPort p.port fun q => { q with tags := q.tags ++ [p.tag] }

/-- Start a command whose subject is free: its scope decides where it runs. -/
def State.start (s : State) (sp : OpSpec) (port : Nat) (c : Cmd) : State :=
  let s := s.noteC port
  match s.target sp.levels c with
  | .no st => s.answer port c (.err st)
  | .here => s.runHere sp port c
  | .other p => s.forward p port c false
  | .every => s.runEvery sp port c

/-- Whether a command of another package waits for the link that leads there. -/
def State.linkWait (s : State) (c : Cmd) : Bool :=
  c.scope % 8 ≠ s.cfg.pkgId && !bit c.scope 3 && s.isMaster && s.isMember (c.scope % 8) &&
    match s.linkTo (c.scope % 8) with
    | some b => !s.birtonUp b
    | none => true

/-- Whether a command must wait behind others of its port (R353). -/
def State.mustWait (s : State) (c : Cmd) (running before : List Cmd) : Bool :=
  running.any (conflict c) || before.any (conflict c) || s.linkWait c

/-- Check 5: the class permits the opcode, the M-port is in use, and a follower does not send what only the
master may (R345, R346, R371). -/
def State.permits (s : State) (sp : OpSpec) (port : Nat) (c : Cmd) : Bool :=
  sp.cls.contains c.cls && (port ≠ 17 || s.pwr.state = .service) && (port = 18 || s.role ≠ 2 || !sp.m c)

/-- The command of a packet. -/
def State.cmdOf (s : State) (op : Nat) (p : Pkt) : Cmd :=
  { op, tag := p.tag, cls := s.classOf p.port p.claimed, scope := p.scope.toNat, params := p.params.map (·.toNat)
    master := masterOf p.port p.link }

/-- Checks 3 to 7 of a packet that arrived in full, with a good trailer (R351). An unknown opcode has no
row. -/
def State.runPkt (s : State) (op : Nat) (sp : Option OpSpec) (p : Pkt) : State :=
  let c := s.cmdOf op p
  let q := s.port p.port
  if sequenced p ∧ p.seq ≠ q.rxSeq then s.turnAway p.port op p.tag c.cls c.scope stBadSeq q.rxSeq
  else
    let s := s.noteSeq p
    if q.tags.contains p.tag then s.turnAway p.port op p.tag c.cls c.scope stTagBusy 0
    else
      let s := s.noteTag p
      match sp with
      | none => s.answer p.port c (.err stNotPermitted)
      | some sp =>
        if !s.permits sp p.port c then s.answer p.port c (.err stNotPermitted)
        else if s.mustWait c q.running q.held then s.modPort p.port fun q => { q with held := q.held ++ [c] }
        else s.start sp p.port c

end Sys2Proof.Machine
end

