-- ==== Sys2Proof/Machine/OpTable.lean ====
section
/-! DEFINITION. The command reference: code, classes and levels of every opcode, with what each does
(R371, R377-R403). -/

namespace Sys2Proof.Machine

/-- DEV.IDENTIFY (R378). -/
def opDevIdentify : OpSpec :=
  { code := 0x0101, cls := [clsS, clsH, clsG, clsV], levels := [0], body := bodyDevIdentify }

/-- DEV.CAPS (R378). -/
def opDevCaps : OpSpec :=
  { code := 0x0102, cls := [clsS, clsH, clsG, clsV], levels := [0], body := bodyDevCaps }

/-- DEV.EVENTS (R378). -/
def opDevEvents : OpSpec :=
  { code := 0x0103, cls := [clsS, clsH, clsV], levels := [0], body := bodyDevEvents }

/-- DEV.TIME (R378). -/
def opDevTime : OpSpec :=
  { code := 0x0104, cls := [clsS, clsH, clsV], levels := [0], body := bodyDevTime }

/-- DEV.NOP (R378). -/
def opDevNop : OpSpec :=
  { code := 0x0105, cls := [clsS, clsH, clsV], levels := [0], body := bodyDevNop }

/-- DEV.REGREAD (R378). -/
def opDevRegread : OpSpec :=
  { code := 0x0106, cls := [clsS, clsV], levels := [1], body := bodyDevRegread }

/-- DEV.REGWRITE (R378). -/
def opDevRegwrite : OpSpec :=
  { code := 0x0107, cls := [clsS, clsV], levels := [1], body := bodyDevRegwrite }

/-- PWR.SET (R382). -/
def opPwrSet : OpSpec :=
  { code := 0x0201, cls := [clsS, clsH], levels := [0], body := bodyPwrSet }

/-- PWR.WAKE (R382). -/
def opPwrWake : OpSpec :=
  { code := 0x0202, cls := [clsS, clsH], levels := [0], body := bodyPwrWake }

/-- PWR.READ (R382). -/
def opPwrRead : OpSpec :=
  { code := 0x0203, cls := [clsS, clsH, clsV], levels := [0], body := bodyPwrRead }

/-- CLK.SEED (R384). -/
def opClkSeed : OpSpec :=
  { code := 0x0301, cls := [clsS, clsH], levels := [0], body := bodyClkSeed }

/-- CLK.REGION (R384). -/
def opClkRegion : OpSpec :=
  { code := 0x0302, cls := [clsS, clsH], levels := [2], body := bodyClkRegion, judge := judgeClkRegion }

/-- CLK.HEEL (R384). -/
def opClkHeel : OpSpec :=
  { code := 0x0303, cls := [clsS, clsH], levels := [0, 4]
    m := fun c => c.p 0 ≠ 0 || c.p 2 = 4
    body := bodyClkHeel }

/-- CLK.GENLOCK (R384). -/
def opClkGenlock : OpSpec :=
  { code := 0x0304, cls := [clsS, clsH], levels := [0], body := bodyClkGenlock }

/-- CLK.REFLOST (R384). -/
def opClkReflost : OpSpec :=
  { code := 0x0305, cls := [clsS], levels := [0], body := bodyClkReflost }

/-- CLK.READ (R384). -/
def opClkRead : OpSpec :=
  { code := 0x0306, cls := [clsS, clsH, clsV], levels := [1], body := bodyClkRead }

/-- MEM.RATE (R385). -/
def opMemRate : OpSpec :=
  { code := 0x0401, cls := [clsS, clsH], levels := [1], body := bodyMemRate, judge := judgeMemRate }

/-- MEM.ROWPROT (R385). -/
def opMemRowprot : OpSpec :=
  { code := 0x0402, cls := [clsS, clsH], levels := [0], body := bodyMemRowprot }

/-- MEM.ERRLOG (R385). -/
def opMemErrlog : OpSpec :=
  { code := 0x0403, cls := [clsS, clsH, clsV], levels := [2], body := bodyMemErrlog }

/-- MEM.READ (R385). -/
def opMemRead : OpSpec :=
  { code := 0x0404, cls := [clsS, clsH, clsV], levels := [1], body := bodyMemRead }

/-- ACC.WINDOW (R386). -/
def opAccWindow : OpSpec :=
  { code := 0x0501, cls := [clsS], levels := [2], body := bodyAccWindow }

/-- ACC.TABLE (R386). -/
def opAccTable : OpSpec :=
  { code := 0x0502, cls := [clsS], levels := [0], body := bodyAccTable }

/-- ACC.READ (R386). -/
def opAccRead : OpSpec :=
  { code := 0x0503, cls := [clsS, clsV], levels := [0, 2], body := bodyAccRead }

/-- CANVAS.WINDOW (R387). -/
def opCanvasWindow : OpSpec :=
  { code := 0x0601, cls := [clsS, clsH], levels := [0]
    m := always
    body := bodyCanvasWindow }

/-- CANVAS.READ (R387). -/
def opCanvasRead : OpSpec :=
  { code := 0x0602, cls := [clsS, clsH, clsV], levels := [0], body := bodyCanvasRead }

/-- LAYER.PLACE (R388). -/
def opLayerPlace : OpSpec :=
  { code := 0x0701, cls := [clsS, clsH, clsG], levels := [0]
    m := always
    body := bodyLayerPlace, judge := judgeLayerPlace }

/-- LAYER.REMOVE (R388). -/
def opLayerRemove : OpSpec :=
  { code := 0x0702, cls := [clsS, clsH, clsG], levels := [0]
    m := always
    body := bodyLayerRemove, judge := judgeLayerRemove }

/-- LAYER.SOURCE (R388). -/
def opLayerSource : OpSpec :=
  { code := 0x0703, cls := [clsS, clsH, clsG], levels := [0], body := bodyLayerSource, judge := judgeLayerSource }

/-- LAYER.FLIP (R388). -/
def opLayerFlip : OpSpec :=
  { code := 0x0704, cls := [clsS, clsH, clsG], levels := [0], body := bodyLayerFlip, judge := judgeLayerFlip }

/-- LAYER.SCALE (R388). -/
def opLayerScale : OpSpec :=
  { code := 0x0705, cls := [clsS, clsH, clsG], levels := [0], body := bodyLayerScale, judge := judgeLayerScale }

/-- LAYER.COLOUR (R388). -/
def opLayerColour : OpSpec :=
  { code := 0x0706, cls := [clsS, clsH, clsG], levels := [0], body := bodyLayerColour }

/-- LAYER.FILL (R388). -/
def opLayerFill : OpSpec :=
  { code := 0x0707, cls := [clsS, clsH, clsG], levels := [0], body := bodyLayerFill }

/-- LAYER.POLICY (R388). -/
def opLayerPolicy : OpSpec :=
  { code := 0x0708, cls := [clsS, clsH, clsG], levels := [0], body := bodyLayerPolicy }

/-- LAYER.PALETTE (R388). -/
def opLayerPalette : OpSpec :=
  { code := 0x0709, cls := [clsS, clsH, clsG], levels := [0], body := bodyLayerPalette }

/-- LAYER.COEFSET (R388). -/
def opLayerCoefset : OpSpec :=
  { code := 0x070A, cls := [clsS, clsH], levels := [0]
    m := always
    body := bodyLayerCoefset }

/-- LAYER.EOTFTABLE (R388). -/
def opLayerEotftable : OpSpec :=
  { code := 0x070B, cls := [clsS, clsH], levels := [0]
    m := always
    body := bodyLayerEotftable }

/-- LAYER.TONETABLE (R388). -/
def opLayerTonetable : OpSpec :=
  { code := 0x070C, cls := [clsS, clsH], levels := [0]
    m := always
    body := bodyLayerTonetable }

/-- LAYER.READ (R388). -/
def opLayerRead : OpSpec :=
  { code := 0x070D, cls := [clsS, clsH, clsG, clsV], levels := [0], body := bodyLayerRead }

/-- HEAD.PLACE (R390). -/
def opHeadPlace : OpSpec :=
  { code := 0x0801, cls := [clsS, clsH], levels := [4], body := bodyHeadPlace, judge := judgeHeadPlace }

/-- HEAD.TIMING (R390). -/
def opHeadTiming : OpSpec :=
  { code := 0x0802, cls := [clsS, clsH], levels := [4], body := bodyHeadTiming, judge := judgeHeadTiming }

/-- HEAD.BIND (R390). -/
def opHeadBind : OpSpec :=
  { code := 0x0803, cls := [clsS, clsH], levels := [4], body := bodyHeadBind }

/-- HEAD.GROUP (R390). -/
def opHeadGroup : OpSpec :=
  { code := 0x0804, cls := [clsS, clsH], levels := [4]
    m := always
    body := bodyHeadGroup, judge := judgeHeadGroup }

/-- HEAD.PAIR (R390). -/
def opHeadPair : OpSpec :=
  { code := 0x0805, cls := [clsS, clsH], levels := [4], body := bodyHeadPair, judge := judgeHeadPair }

/-- HEAD.COLOUR (R390). -/
def opHeadColour : OpSpec :=
  { code := 0x0806, cls := [clsS, clsH], levels := [4], body := bodyHeadColour }

/-- HEAD.COMMIT (R390). -/
def opHeadCommit : OpSpec :=
  { code := 0x0807, cls := [clsS, clsH], levels := [4], body := bodyHeadCommit }

/-- HEAD.POLICY (R390). -/
def opHeadPolicy : OpSpec :=
  { code := 0x0808, cls := [clsS, clsH], levels := [4], body := bodyHeadPolicy }

/-- HEAD.READ (R390). -/
def opHeadRead : OpSpec :=
  { code := 0x0809, cls := [clsS, clsH, clsV], levels := [4], body := bodyHeadRead }

/-- LINK.CONFIG (R392). -/
def opLinkConfig : OpSpec :=
  { code := 0x0901, cls := [clsS, clsH], levels := [0], body := bodyLinkConfig }

/-- LINK.TRAIN (R392). -/
def opLinkTrain : OpSpec :=
  { code := 0x0902, cls := [clsS, clsH], levels := [0], body := bodyLinkTrain }

/-- LINK.AUX (R392). -/
def opLinkAux : OpSpec :=
  { code := 0x0903, cls := [clsS, clsH], levels := [0], body := bodyLinkAux }

/-- LINK.AUTOSTART (R392). -/
def opLinkAutostart : OpSpec :=
  { code := 0x0904, cls := [clsS, clsH], levels := [4], body := bodyLinkAutostart }

/-- LINK.READ (R392). -/
def opLinkRead : OpSpec :=
  { code := 0x0905, cls := [clsS, clsH, clsV], levels := [0], body := bodyLinkRead }

/-- INPUT.CONFIG (R393). -/
def opInputConfig : OpSpec :=
  { code := 0x0A01, cls := [clsS, clsH], levels := [0], body := bodyInputConfig }

/-- INPUT.EDID (R393). -/
def opInputEdid : OpSpec :=
  { code := 0x0A02, cls := [clsS, clsH], levels := [0], body := bodyInputEdid }

/-- INPUT.CAPTURE (R393). -/
def opInputCapture : OpSpec :=
  { code := 0x0A03, cls := [clsS, clsH], levels := [0], body := bodyInputCapture, judge := judgeInputCapture }

/-- INPUT.BIND (R393). -/
def opInputBind : OpSpec :=
  { code := 0x0A04, cls := [clsS, clsH], levels := [0], body := bodyInputBind, judge := judgeInputBind }

/-- INPUT.AUDIO (R393). -/
def opInputAudio : OpSpec :=
  { code := 0x0A05, cls := [clsS, clsH], levels := [0], body := bodyInputAudio, judge := judgeInputAudio }

/-- INPUT.STATUS (R393). -/
def opInputStatus : OpSpec :=
  { code := 0x0A06, cls := [clsS, clsH, clsV], levels := [0], body := bodyInputStatus }

/-- AUDIO.CONFIG (R394). -/
def opAudioConfig : OpSpec :=
  { code := 0x0B01, cls := [clsS, clsH], levels := [0], body := bodyAudioConfig, judge := judgeAudioConfig }

/-- AUDIO.ROUTE (R394). -/
def opAudioRoute : OpSpec :=
  { code := 0x0B02, cls := [clsS, clsH], levels := [0], body := bodyAudioRoute }

/-- AUDIO.MUTE (R394). -/
def opAudioMute : OpSpec :=
  { code := 0x0B03, cls := [clsS, clsH], levels := [4], body := bodyAudioMute }

/-- AUDIO.STATUS (R394). -/
def opAudioStatus : OpSpec :=
  { code := 0x0B04, cls := [clsS, clsH, clsV], levels := [0], body := bodyAudioStatus }

/-- MANTEL.AREA (R395). -/
def opMantelArea : OpSpec :=
  { code := 0x0C01, cls := [clsS], levels := [0], body := bodyMantelArea }

/-- MANTEL.ATLAS (R395). -/
def opMantelAtlas : OpSpec :=
  { code := 0x0C02, cls := [clsS], levels := [0], body := bodyMantelAtlas }

/-- MANTEL.PALETTE (R395). -/
def opMantelPalette : OpSpec :=
  { code := 0x0C03, cls := [clsS], levels := [0], body := bodyMantelPalette }

/-- MANTEL.BACKDROP (R395). -/
def opMantelBackdrop : OpSpec :=
  { code := 0x0C04, cls := [clsS], levels := [4], body := bodyMantelBackdrop }

/-- MANTEL.SPRITES (R395). -/
def opMantelSprites : OpSpec :=
  { code := 0x0C05, cls := [clsS], levels := [4], body := bodyMantelSprites }

/-- MANTEL.COMMIT (R395). -/
def opMantelCommit : OpSpec :=
  { code := 0x0C06, cls := [clsS], levels := [0], body := bodyMantelCommit }

/-- MANTEL.ARM (R395). -/
def opMantelArm : OpSpec :=
  { code := 0x0C07, cls := [clsS], levels := [4], body := bodyMantelArm }

/-- MANTEL.STORE (R395). -/
def opMantelStore : OpSpec :=
  { code := 0x0C08, cls := [clsS], levels := [0], body := bodyMantelStore }

/-- MANTEL.READ (R395). -/
def opMantelRead : OpSpec :=
  { code := 0x0C09, cls := [clsS, clsV], levels := [0], body := bodyMantelRead }

/-- CTM.WRITE (R395). -/
def opCtmWrite : OpSpec :=
  { code := 0x0D01, cls := [clsS], levels := [0], body := bodyCtmWrite }

/-- CTM.FILL (R395). -/
def opCtmFill : OpSpec :=
  { code := 0x0D02, cls := [clsS], levels := [0], body := bodyCtmFill }

/-- CTM.READ (R395). -/
def opCtmRead : OpSpec :=
  { code := 0x0D03, cls := [clsS, clsV], levels := [0], body := bodyCtmRead }

/-- VERIFY.EXPECT (R397). -/
def opVerifyExpect : OpSpec :=
  { code := 0x0E01, cls := [clsS], levels := [4], body := bodyVerifyExpect }

/-- VERIFY.REACT (R397). -/
def opVerifyReact : OpSpec :=
  { code := 0x0E02, cls := [clsS], levels := [0, 4], body := bodyVerifyReact }

/-- VERIFY.RELEASE (R397). -/
def opVerifyRelease : OpSpec :=
  { code := 0x0E03, cls := [clsS], levels := [4], body := bodyVerifyRelease }

/-- VERIFY.TILES (R397). -/
def opVerifyTiles : OpSpec :=
  { code := 0x0E04, cls := [clsS], levels := [4], body := bodyVerifyTiles }

/-- VERIFY.ECHO (R397). -/
def opVerifyEcho : OpSpec :=
  { code := 0x0E05, cls := [clsS], levels := [4], body := bodyVerifyEcho }

/-- VERIFY.SAFEFILL (R397). -/
def opVerifySafefill : OpSpec :=
  { code := 0x0E06, cls := [clsS], levels := [4], body := bodyVerifySafefill }

/-- VERIFY.READ (R397). -/
def opVerifyRead : OpSpec :=
  { code := 0x0E07, cls := [clsS, clsV], levels := [4], body := bodyVerifyRead }

/-- FAULT.READ (R398). -/
def opFaultRead : OpSpec :=
  { code := 0x0F01, cls := [clsS, clsH, clsV], levels := [0, 1, 2], body := bodyFaultRead }

/-- FAULT.CLEAR (R398). -/
def opFaultClear : OpSpec :=
  { code := 0x0F02, cls := [clsS, clsH], levels := [0, 1, 2], body := bodyFaultClear }

/-- FAULT.REACT (R398). -/
def opFaultReact : OpSpec :=
  { code := 0x0F03, cls := [clsS], levels := [0], body := bodyFaultReact }

/-- FAULT.BARK (R398). -/
def opFaultBark : OpSpec :=
  { code := 0x0F04, cls := [clsS], levels := [0], body := bodyFaultBark }

/-- FAULT.INJECT (R398). -/
def opFaultInject : OpSpec :=
  { code := 0x0F05, cls := [clsS, clsV], levels := [0], body := bodyFaultInject }

/-- IRQ.ROUTE (R398). -/
def opIrqRoute : OpSpec :=
  { code := 0x1001, cls := [clsS, clsH], levels := [0], body := bodyIrqRoute }

/-- IRQ.MASK (R398). -/
def opIrqMask : OpSpec :=
  { code := 0x1002, cls := [clsS, clsH], levels := [0], body := bodyIrqMask }

/-- IRQ.HOLDOFF (R398). -/
def opIrqHoldoff : OpSpec :=
  { code := 0x1003, cls := [clsS, clsH], levels := [0], body := bodyIrqHoldoff }

/-- IRQ.READ (R398). -/
def opIrqRead : OpSpec :=
  { code := 0x1004, cls := [clsS, clsH, clsV], levels := [0], body := bodyIrqRead }

/-- DMA.OWN (R400). -/
def opDmaOwn : OpSpec :=
  { code := 0x1101, cls := [clsS, clsH], levels := [0], body := bodyDmaOwn }

/-- DMA.SETUP (R400). -/
def opDmaSetup : OpSpec :=
  { code := 0x1102, cls := [clsS, clsH, clsG], levels := [0], body := bodyDmaSetup }

/-- DMA.TOKEN (R400). -/
def opDmaToken : OpSpec :=
  { code := 0x1103, cls := [clsS, clsH, clsG], levels := [0], body := bodyDmaToken }

/-- DMA.PAUSE (R400). -/
def opDmaPause : OpSpec :=
  { code := 0x1104, cls := [clsS, clsH, clsG], levels := [0], body := bodyDmaPause }

/-- DMA.READ (R400). -/
def opDmaRead : OpSpec :=
  { code := 0x1105, cls := [clsS, clsH, clsG, clsV], levels := [0], body := bodyDmaRead }

/-- TELEM.READ (R401). -/
def opTelemRead : OpSpec :=
  { code := 0x1201, cls := [clsS, clsH, clsG, clsV], levels := [0], body := bodyTelemRead }

/-- TELEM.PUSH (R401). -/
def opTelemPush : OpSpec :=
  { code := 0x1202, cls := [clsS, clsH], levels := [0], body := bodyTelemPush }

/-- TELEM.LIMIT (R401). -/
def opTelemLimit : OpSpec :=
  { code := 0x1203, cls := [clsS], levels := [0], body := bodyTelemLimit }

/-- WEAR.ORBIT (R401). -/
def opWearOrbit : OpSpec :=
  { code := 0x1301, cls := [clsS, clsH], levels := [4], body := bodyWearOrbit, judge := judgeWearOrbit }

/-- WEAR.CAP (R401). -/
def opWearCap : OpSpec :=
  { code := 0x1302, cls := [clsS, clsH], levels := [4], body := bodyWearCap }

/-- WEAR.READ (R401). -/
def opWearRead : OpSpec :=
  { code := 0x1303, cls := [clsS, clsH, clsV], levels := [4], body := bodyWearRead }

/-- REPAIR.LEDGER (R402). -/
def opRepairLedger : OpSpec :=
  { code := 0x1401, cls := [clsS, clsH, clsV], levels := [0], body := bodyRepairLedger }

/-- REPAIR.RETIRE (R402). -/
def opRepairRetire : OpSpec :=
  { code := 0x1402, cls := [clsS, clsV], levels := [0], body := bodyRepairRetire }

/-- REPAIR.CLEAR (R402). -/
def opRepairClear : OpSpec :=
  { code := 0x1403, cls := [clsV], levels := [0], body := bodyRepairClear }

/-- CASC.CEILING (R402). -/
def opCascCeiling : OpSpec :=
  { code := 0x1501, cls := [clsS], levels := [0], body := bodyCascCeiling }

/-- CASC.DEPUTY (R402). -/
def opCascDeputy : OpSpec :=
  { code := 0x1502, cls := [clsS], levels := [0], body := bodyCascDeputy }

/-- CASC.READ (R402). -/
def opCascRead : OpSpec :=
  { code := 0x1503, cls := [clsS, clsH, clsV], levels := [0], body := bodyCascRead }

/-- SVC.EXIT (R402). -/
def opSvcExit : OpSpec :=
  { code := 0x1601, cls := [clsV], levels := [0], body := bodySvcExit }

/-- SVC.BIST (R402). -/
def opSvcBist : OpSpec :=
  { code := 0x1602, cls := [clsV], levels := [1, 3], body := bodySvcBist }

/-- SVC.CLKOBS (R402). -/
def opSvcClkobs : OpSpec :=
  { code := 0x1603, cls := [clsV], levels := [1], body := bodySvcClkobs }

/-- SVC.MEMREAD (R402). -/
def opSvcMemread : OpSpec :=
  { code := 0x1604, cls := [clsV], levels := [0], body := bodySvcMemread }

/-- Opcodes of the DEV domain. -/
def opsDev : List OpSpec :=
  [opDevIdentify, opDevCaps, opDevEvents, opDevTime, opDevNop, opDevRegread, opDevRegwrite]

/-- Opcodes of the PWR domain. -/
def opsPwr : List OpSpec :=
  [opPwrSet, opPwrWake, opPwrRead]

/-- Opcodes of the CLK domain. -/
def opsClk : List OpSpec :=
  [opClkSeed, opClkRegion, opClkHeel, opClkGenlock, opClkReflost, opClkRead]

/-- Opcodes of the MEM domain. -/
def opsMem : List OpSpec :=
  [opMemRate, opMemRowprot, opMemErrlog, opMemRead]

/-- Opcodes of the ACC domain. -/
def opsAcc : List OpSpec :=
  [opAccWindow, opAccTable, opAccRead]

/-- Opcodes of the CANVAS domain. -/
def opsCanvas : List OpSpec :=
  [opCanvasWindow, opCanvasRead]

/-- Opcodes of the LAYER domain. -/
def opsLayer : List OpSpec :=
  [opLayerPlace, opLayerRemove, opLayerSource, opLayerFlip, opLayerScale, opLayerColour,
    opLayerFill, opLayerPolicy, opLayerPalette, opLayerCoefset, opLayerEotftable,
    opLayerTonetable, opLayerRead]

/-- Opcodes of the HEAD domain. -/
def opsHead : List OpSpec :=
  [opHeadPlace, opHeadTiming, opHeadBind, opHeadGroup, opHeadPair, opHeadColour, opHeadCommit,
    opHeadPolicy, opHeadRead]

/-- Opcodes of the LINK domain. -/
def opsLink : List OpSpec :=
  [opLinkConfig, opLinkTrain, opLinkAux, opLinkAutostart, opLinkRead]

/-- Opcodes of the INPUT domain. -/
def opsInput : List OpSpec :=
  [opInputConfig, opInputEdid, opInputCapture, opInputBind, opInputAudio, opInputStatus]

/-- Opcodes of the AUDIO domain. -/
def opsAudio : List OpSpec :=
  [opAudioConfig, opAudioRoute, opAudioMute, opAudioStatus]

/-- Opcodes of the MANTEL domain. -/
def opsMantel : List OpSpec :=
  [opMantelArea, opMantelAtlas, opMantelPalette, opMantelBackdrop, opMantelSprites,
    opMantelCommit, opMantelArm, opMantelStore, opMantelRead]

/-- Opcodes of the CTM domain. -/
def opsCtm : List OpSpec :=
  [opCtmWrite, opCtmFill, opCtmRead]

/-- Opcodes of the VERIFY domain. -/
def opsVerify : List OpSpec :=
  [opVerifyExpect, opVerifyReact, opVerifyRelease, opVerifyTiles, opVerifyEcho,
    opVerifySafefill, opVerifyRead]

/-- Opcodes of the FAULT domain. -/
def opsFault : List OpSpec :=
  [opFaultRead, opFaultClear, opFaultReact, opFaultBark, opFaultInject]

/-- Opcodes of the IRQ domain. -/
def opsIrq : List OpSpec :=
  [opIrqRoute, opIrqMask, opIrqHoldoff, opIrqRead]

/-- Opcodes of the DMA domain. -/
def opsDma : List OpSpec :=
  [opDmaOwn, opDmaSetup, opDmaToken, opDmaPause, opDmaRead]

/-- Opcodes of the TELEM domain. -/
def opsTelem : List OpSpec :=
  [opTelemRead, opTelemPush, opTelemLimit]

/-- Opcodes of the WEAR domain. -/
def opsWear : List OpSpec :=
  [opWearOrbit, opWearCap, opWearRead]

/-- Opcodes of the REPAIR domain. -/
def opsRepair : List OpSpec :=
  [opRepairLedger, opRepairRetire, opRepairClear]

/-- Opcodes of the CASC domain. -/
def opsCasc : List OpSpec :=
  [opCascCeiling, opCascDeputy, opCascRead]

/-- Opcodes of the SVC domain. -/
def opsSvc : List OpSpec :=
  [opSvcExit, opSvcBist, opSvcClkobs, opSvcMemread]

/-- Every valid opcode (R377). -/
def opTable : List OpSpec :=
  opsDev ++ opsPwr ++ opsClk ++ opsMem ++ opsAcc ++ opsCanvas ++ opsLayer ++ opsHead ++ opsLink
    ++ opsInput ++ opsAudio ++ opsMantel ++ opsCtm ++ opsVerify ++ opsFault ++ opsIrq ++ opsDma
    ++ opsTelem ++ opsWear ++ opsRepair ++ opsCasc ++ opsSvc

/-- The row of an opcode; none for an unknown one. -/
def opOf (code : Nat) : Option OpSpec := opTable.find? (·.code = code)

end Sys2Proof.Machine
end

