-- ==== Sys2Proof/Machine/Settle.lean ====
section
/-! DEFINITION. What follows every command by itself: packets are taken and checked, held commands start,
commands whose operation has ended are answered, and outgoing packets are delivered (R345-R370). -/

namespace Sys2Proof.Machine

/-! ## Checks 1 and 2 (R350, R351, R363) -/

/-- Count a framing error of a port (R351, R425, R472). -/
def State.framingError (s : State) (port : Nat) : State :=
  let s := if port < 16 then s.modDoor port fun d => { d with framing := satInc 8 d.framing }
    else s.modPort port fun q => { q with framing := q.framing + 1, framed := true }
  s.detect (dieRec 0 10) 0 0

/-- Whether the bytes that a port was sent hold one packet: on the M-port the packet takes the first bytes
of the register (R350, R366; DESIGN CHOICE, assumption 24). -/
def framedOk (port : Nat) (b : List Byte) : Bool :=
  let n := headerLength b
  16 ≤ b.length && n ≤ 252 && (if port = 17 then 20 + 4 * n ≤ b.length else b.length = 20 + 4 * n)

/-- Header word `i` of a packet. -/
def headerWord (b : List Byte) (i : Nat) : Nat := ofLe ((b.drop (4 * i)).take 4)

/-- The packet that bytes spell. -/
def pktOf (port link claimed : Nat) (b : List Byte) : Pkt :=
  let n := headerLength b
  { port, link, claimed
    tag := headerWord b 1 % 4096
    seq := headerWord b 1 / 65536
    seqChk := bit (headerWord b 0) 28
    scope := BitVec.ofNat 32 (headerWord b 2)
    params := (List.range n).map fun i => BitVec.ofNat 32 (headerWord b (4 + i)) }

/-- Whether the trailer of a packet fits its bytes (R350). -/
def trailerOk (b : List Byte) : Bool :=
  let n := 16 + 4 * headerLength b
  headerWord b (4 + headerLength b) = trailer (headerWord b 1 / 65536) (b.take n)

/-- Check a packet that a port received as bytes, and run it (R351). -/
def State.runBytes (s : State) (port link claimed : Nat) (b : List Byte) : State :=
  if !framedOk port b then s.framingError port
  else
    let p := pktOf port link claimed b
    let op := headerWord b 0 % 65536
    if !trailerOk b then
      s.turnAway port op p.tag (s.classOf port claimed) p.scope.toNat stBadCrc
        (if sequenced p then (s.port port).rxSeq else 0)
    else s.runPkt op (opOf op) p

/-! ## The receive side (R353, R360, R362, R363) -/

/-- The bytes of a packet as its sender sends it (R347). -/
def pktBytes (p : Pkt) (op : Nat) : List Byte :=
  let body := leBytes 4 (op % 65536 + 65536 * p.params.length + 2 ^ 28 * b2n p.seqChk) ++
    leBytes 4 (p.tag + 65536 * p.seq) ++ leBytes 4 p.scope.toNat ++ leBytes 4 0 ++
    p.params.flatMap fun w => leBytes 4 w.toNat
  body ++ leBytes 4 (trailer p.seq body)

/-- An entry of a receive buffer: the C-port's carry the claimed class and the link in front. -/
def rxEntry (port link claimed : Nat) (b : List Byte) : List Byte :=
  if port = 18 then BitVec.ofNat 8 claimed :: BitVec.ofNat 8 link :: b else b

/-- Check and run an entry of a receive buffer. -/
def State.runEntry (s : State) (port : Nat) (b : List Byte) : State :=
  match port, b with
  | 18, c :: l :: t => s.runBytes 18 l.toNat c.toNat t
  | p, b => s.runBytes p 0 0 b

/-- A packet that a port does not take now waits in its receive buffer; the S-port's counts as full then, and
the packet is discarded (R353, R363, R472). -/
def State.buffer (s : State) (port : Nat) (b : List Byte) : State :=
  if port = 16 then
    (s.modPort 16 fun q => { q with overflow := true }).detect (dieRec 0 10) 3 0
  else s.modPort port fun q => { q with rx := q.rx ++ [b] }

/-- Whether a ring of a function can be used now: it is enabled, Bus Master Enable is set, and its memory is
not being initialised (R362, R573). -/
def State.ringOk (s : State) (fn hbmBit : Nat) : Bool :=
  let d := s.door fn
  d.enabled && d.bme && s.bureauUp && s.portLive fn && !(s.hbmStep && bit d.ctrl hbmBit)

/-- Whether a port takes the packet at the front of its receive buffer now. -/
def State.takes (s : State) (port : Nat) : Bool :=
  s.bureauUp && s.portLive port && (s.port port).room && (16 ≤ port || s.ringOk port 1)

/-! ## Held and ended commands (R353, R376) -/

/-- Start the held commands of a port whose subjects are free, in order of arrival. -/
def State.startHeld (s : State) (port : Nat) : State :=
  let held := (s.port port).held
  if held.isEmpty then s
  else
    let r := held.foldl (fun (a : State × List Cmd) c =>
      match opOf c.op with
      | some sp =>
        if a.1.mustWait c (a.1.port port).running a.2 then (a.1, a.2 ++ [c]) else (a.1.start sp port c, a.2)
      | none => a) (s, [])
    r.1.modPort port fun q => { q with held := r.2 }

/-- End a command in progress whose operation has ended with its unit: a DMA.PAUSE whose channel is no
longer pausing, a LINK.TRAIN whose link no longer retrains (R376, R400). -/
def State.endOrphan (s : State) (port : Nat) (c : Cmd) : State :=
  match c.op with
  | 0x1104 =>
    if (s.chan (c.p 0)).state = 2 then s
    else s.finish port c (replyWord stOk (1 < c.p 1) 0 :: (s.chan (c.p 0)).place)
  | 0x0902 => if (s.link (c.p 0)).retrainCmd then s else s.endTrainCmd (c.p 0) none
  | _ => s

/-- Give every command in progress that has nothing left to wait for its reply. -/
def State.endOrphans (s : State) : State :=
  s.ports.foldl (fun s e => e.2.running.foldl (fun s c => s.endOrphan e.1 c) s) s

/-- Every port, in the order in which commands of one cycle are accepted (R370). -/
def portOrder : List Nat := [16, 18] ++ List.range 16 ++ [17]

/-- Start the held commands of every port. -/
def State.startAll (s : State) : State := portOrder.foldl State.startHeld s

/-! ## The sending side (R354, R358, R361) -/

/-- Write a function's outgoing packets into its completion ring while they fit. -/
def State.flushA : Nat → Nat → State → State
  | 0, _, s => s
  | n + 1, fn, s =>
    match (s.port fn).next s.cfg.pkgId with
    | none => s
    | some o =>
      let b := o.bytes (s.port fn).txSeq
      if s.ringOk fn 2 ∧ packetUnits b.length ≤ (s.door fn).cqFree then
        State.flushA n fn ((s.cqPut fn b).modPort fn fun q => q.number.delivered)
      else s

/-- Deliver what can be delivered now: on every A-port ring, on the C-port, and over Birton links what a
master sends of its own. -/
def State.flush (s : State) : State :=
  let s := (List.range 16).foldl (fun s fn =>
    if (s.door fn).enabled then State.flushA ((s.port fn).out.length + 130) fn s else s) s
  (if s.role = 2 then s.flushC else s).sendOut

/-! ## Head timing starts (R510, R574) -/

/-- Rosua gives head output: in ACTIVE, or in SERVICE entered from it, with no transition under way that ends
it (R510). -/
def State.outputOn (s : State) : Bool :=
  (s.pwr.state = .active || (s.pwr.state = .service && s.pwr.from_ = .active)) && s.pwr.step = .done &&
    match s.pwr.target with
    | some .ready => false
    | some .standby => false
    | some .retain => false
    | _ => true

/-- A head that may be the partner of a deep pair runs without a binding (R539). -/
def State.heelsAway (s : State) (h : Nat) : Bool := (s.heel h).leader = .head && (1024 ≤ (s.heel h).idx : Bool)

/-- Every head with an applied mode and a binding starts its timing, at frame sequence number 0. -/
def State.startHeads (s : State) : State :=
  if s.outputOn then
    s.heads.foldl (fun s e =>
      if e.2.mode.isSome ∧ (e.2.bind.link < 96 ∨ s.heelsAway e.1) ∧ !e.2.running ∧ s.headState e.1 = 1 then
        s.setHead e.1 { e.2 with running := true, seq := 0, line := 0, inFrame := false, sentLines := 0 }
      else s) s
  else s

/-! ## Settling -/

/-- What the block does by itself after a command: heads that start, mirrored layers, completions that are due, ended and held
commands, and deliveries. -/
def State.tidy (s : State) : State :=
  ((s.startHeads.settleMirror.settleFlips.settleCommits.settleMantel).endOrphans.startAll).flush

/-- Take packets from a receive buffer while the port takes them. -/
def State.pump : Nat → Nat → State → State
  | 0, _, s => s
  | n + 1, port, s =>
    match (s.port port).rx with
    | [] => s
    | b :: t =>
      if s.takes port then
        let s := s.modPort port fun q => { q with rx := t }
        let s := if port < 16 then s.modDoor port fun d => d.taken b.length else s
        State.pump n port (s.runEntry port b).tidy
      else s

/-- The state after everything that follows a command by itself. -/
def settle (s : State) : State :=
  let s := s.tidy
  portOrder.foldl (fun s port => State.pump (s.port port).rx.length port s) s

/-! ## A command packet (R345, R351, R353) -/

/-- A packet that passed framing arrives with a good trailer: it is checked and run, or waits in the
receive buffer while the port takes no further packet. A port that takes no commands drops it. -/
def runPacket (sp : OpSpec) (p : Pkt) (s : State) : State :=
  if !s.accepts p.port p.link then s
  else if (s.port p.port).room ∧ (s.port p.port).rx.isEmpty then s.runPkt sp.code (some sp) p
  else s.buffer p.port (rxEntry p.port p.link p.claimed (pktBytes p sp.code))

/-- The answer to a packet of one opcode. -/
def packet (sp : OpSpec) (p : Pkt) (s : State) : Host.Outcome State Fault Refusal :=
  .next (settle (runPacket sp p s))

end Sys2Proof.Machine
end

