-- ==== Sys2Proof/Machine/ClkEvents.lean ====
section
/-! DEFINITION. Steps of the clocks: the REFCLK watchdog, lock windows, parked wakes, ramps, fallback, and
the Heels with their leaders (R282-R307). -/

namespace Sys2Proof.Machine

/-! ## REFCLK (R282) -/

/-- Synthesizers of the dies present. -/
def State.synths (s : State) : List Nat := (List.range 140).filter fun k => s.dieState (synthDie k) = 1

/-- REFCLK is lost: every loop runs open, Heels that follow a leader coast, and the fault is raised. -/
def State.refclkLost (s : State) : State :=
  let s := { s with clk := { s.clk with refLost := true, refGood := 0 } }
  let s := s.synths.foldl (fun s k => s.modSynth k fun y => { y with frozen := true, refLost := true }) s
  let s := s.clk.heels.foldl (fun s e =>
    if e.2.state = 1 ∨ e.2.state = 2 ∨ e.2.state = 3 then s.coast e.1 2 else s) s
  s.detect (dieRec 0 3) 0 0 true

/-- Followers whose leader is valid begin to acquire it again. -/
def State.resumeHeels (s : State) : State :=
  s.clk.heels.foldl (fun s e =>
    if e.2.state = 4 ∧ e.2.cause = 2 ∧ s.leaderValid e.2.leader e.2.idx then
      s.modHeel e.1 fun l => { l with state := 1, periods := [], lastEvent := none, okCount := 0, cycle := 0 }
    else s) s

/-- REFCLK is back: the loops close again. -/
def State.refclkBack (s : State) : State :=
  let s := { s with clk := { s.clk with refLost := false, refBad := 0 } }
  let s := s.synths.foldl (fun s k => s.modSynth k fun y => { y with frozen := y.lostAt.isSome }) s
  ((s.unlive (dieRec 0 3) 0).detect (dieRec 0 3) 1 0).resumeHeels

/-- A REFCLK count of one AO period. -/
def State.watchdog (s : State) (count : Nat) : State :=
  if !s.clk.refOn then s
  else if 700 ≤ count ∧ count ≤ 830 then
    let s := { s with clk := { s.clk with refBad := 0, refGood := s.clk.refGood + 1 } }
    if s.clk.refLost ∧ 4 ≤ s.clk.refGood then s.refclkBack else s
  else
    let s := { s with clk := { s.clk with refGood := 0, refBad := s.clk.refBad + 1 } }
    if !s.clk.refLost ∧ 2 ≤ s.clk.refBad then s.refclkLost else s

/-- REFCLK_WATCHDOG_COUNT (R282). -/
def execRefclkWatchdogCount (count : Nat) (s : State) : Host.Outcome State Fault Refusal :=
  .next (settle (s.watchdog count))

/-! ## Lock (R286, R287, R289, R297) -/

/-- Index of a synthesizer's record on its die (R308). -/
def synthRecord (k : Nat) : Nat :=
  if k < 128 then k % 64 else if k < 136 then 64 + k % 4 else if k < 138 then 68 else 69

/-- Whether a count of `w` reference cycles lies within `num / den` of what the setting in force gives. -/
def Synth.near (y : Synth) (w count num den : Nat) : Bool :=
  let want := w * (y.n * 2 ^ 24 + y.frac)
  let got := count * 2 ^ 24
  (if want ≤ got then got - want else want - got) * den ≤ want * num

/-- Lock is declared: the consumer moves to the main output, and a head whose stream waited may start
(R286, R289, R295). -/
def State.lockDeclared (s : State) (k : Nat) : State :=
  let s := s.modSynth k fun y =>
    { y with lock := true, loadTo := none, lostAt := none, src := if y.src = 1 ∨ y.src = 3 then 0 else y.src
             frozen := y.frozen && s.clk.refLost }
  let s := if 128 ≤ k ∧ k < 136 then (s.unlive (k - 128) 44) else s.unlive (dieRec (synthDie k) 3) (if k < 128 then 4 else if k < 138 then 3 else 2)
  if k < 128 then s.modHead k fun h => { h with relock := false } else s

/-- Lock is lost: a pixel synthesizer freezes and keeps its head running; a region moves to the holding clock
and re-locks (R286, R297). -/
def State.lockLost (s : State) (k : Nat) : State :=
  let d := synthDie k
  let s := s.modSynth k fun y => { y with lock := false, lockLost := true, agree := 0 }
  if k < 128 then
    (s.modSynth k fun y => { y with frozen := true, lostAt := some s.now }).detect (dieRec d 3) 4 (k % 64) true
  else if k < 136 then
    (s.modSynth k fun y => y.relock ⟨y.n, y.frac, y.p⟩ y.target).detect (k - 128) 44 64 true
  else s.detect (dieRec d 3) (if k < 138 then 3 else 2) (synthRecord k) true

/-- The end of a lock window. -/
def State.lockWindow (s : State) (k count : Nat) : State :=
  let s := s.modSynth k fun y => { y with count }
  let y := s.synth k
  if y.src = 3 ∧ y.loadTo.isNone then s
  else if y.near 1024 count 50 1000000 then
    let s := s.setSynth k { y with agree := y.agree + 1, disagree := 0 }
    if 4 ≤ y.agree + 1 ∧ !y.lock then s.lockDeclared k else s
  else
    let s := s.setSynth k { y with agree := 0, disagree := y.disagree + 1 }
    if 2 ≤ y.disagree + 1 ∧ y.lock then s.lockLost k else s

/-- LOCK_WINDOW_END (R286). -/
def execLockWindowEnd (synth count : Nat) (s : State) : Host.Outcome State Fault Refusal :=
  .next (settle (if synth < 140 ∧ s.dieState (synthDie synth) = 1 then s.lockWindow synth count else s))

/-- A parked synthesizer wakes: the fast check releases its output, or its region waits on the holding clock
(R287). -/
def State.parkedWake (s : State) (k count : Nat) : State :=
  let y := s.synth k
  let ok := y.near 32 count 2 100
  let s := s.setSynth k { y with fastOk := ok, src := if ok then 0 else 1, lock := false, agree := 0, disagree := 0 }
  if k < 128 ∨ 136 ≤ k then s
  else
    let g := k - 128
    let s := s.modRegion g fun r => { r with gated := false }
    let s := (List.range 16).foldl (fun s p => s.modPc (16 * g + p) fun c => { c with selfRef := false, idleFrom := s.now }) s
    if ok then s
    else ({ s with clk := { s.clk with lateWake := tset s.clk.lateWake g (tget 0 s.clk.lateWake g + 1) } }).detect g 45 64

/-- PARKED_SYNTH_WAKE (R287). -/
def execParkedSynthWake (synth count : Nat) (s : State) : Host.Outcome State Fault Refusal :=
  .next (settle (if synth < 140 ∧ s.dieState (synthDie synth) = 1 ∧ (s.synth synth).src = 3 then s.parkedWake synth count
    else s))

/-! ## Ramps (R292, R293) -/

/-- The setting that a synthesizer ends a ramp with (R284). -/
def State.finalSet (s : State) (k : Nat) (f : Nat) : SynSet :=
  if k < 128 then
    (if (s.head k).rate.1 = 0 then synRound f 1000 (s.synth k).p
     else synRound (s.head k).rate.1 (s.head k).rate.2 (s.synth k).p)
  else synRound f 1000 (s.synth k).p

/-- One µs of a ramp: F moves to the nearest value, and to the exact one at the end. -/
def State.rampStep (s : State) (k : Nat) : State :=
  let y := s.synth k
  match y.ramp with
  | none => s
  | some r =>
    let r := { r with us := r.us + 1 }
    let a := if r.over then s.finalSet k r.f1 else synRound r.freq 1000 y.p
    s.setSynth k { y with n := a.n, frac := a.f, target := r.freq, ramp := if r.over then none else some r }

/-- RAMP_UPDATE: 1 µs passes (R292). -/
def execRampUpdate (synth : Nat) (s : State) : Host.Outcome State Fault Refusal :=
  .next (settle (if synth < 140 ∧ (s.synth synth).ramp.isSome then (advance 1000 s).rampStep synth else s))

/-! ## Pixel lock and fallback (R291, R297) -/

/-- A pixel synthesizer has not locked again within 100 µs: its head migrates. -/
def State.lockTimeout (s : State) (h : Nat) : State :=
  match (s.synth h).lostAt with
  | none => s
  | some t =>
    let s := advanceTo (t + 100000) s
    let s := s.modSynth h fun y => { y with lostAt := none }
    if (s.head h).migration.isSome ∨ (s.head h).modeP.isNone then s
    else
      let got := (s.cluster (h / 4)).plan.lookup h
      s.beginMigration h ((got.getD none).filter fun t => s.freeHead t && !s.reserved t)

/-- PIXEL_LOCK_RETURN_TIMEOUT (R297). -/
def execPixelLockReturnTimeout (h : Nat) (s : State) : Host.Outcome State Fault Refusal :=
  .next (settle (if h < 128 then s.lockTimeout h else s))

/-- CLOCK_SWITCH_FAULT: the consumer moves to FB0 (R291). -/
def execClockSwitchFault (synth : Nat) (s : State) : Host.Outcome State Fault Refusal :=
  .next (settle (if synth < 140 ∧ s.dieState (synthDie synth) = 1 then
    (s.modSynth synth fun y => { y with src := 2 }).detect (dieRec (synthDie synth) 3) 5 (synthRecord synth)
  else s))

/-! ## Heels (R299-R307)

Times and periods are in units of 0.5 ns. The frame period follows from M × Tf = D × Tl (R299; DEDUCED,
assumption 26). -/

/-- Nominal frame period of a follower as a fraction. -/
def State.nominal (s : State) (key : Nat) : Frac :=
  let of (m : Option Mode) : Frac := match m with
    | some m => (2000000000 * m.htot * m.vtot, max 1 m.rate)
    | none => (0, 1)
  if key < 256 then of (s.head key).mode
  else match (s.grp (key - 256)).period with
    | some p => (2000000000 * p.1, max 1 p.2)
    | none => (0, 1)

/-- Heads that a follower steers: a head and its pair partner, or the members of a group. -/
def State.steered (s : State) (key : Nat) : List Nat :=
  if key < 256 then s.pairHeads key else s.members (key - 256)

/-- Steer the synthesizers of a follower to a frame period, P unchanged. -/
def State.steer (s : State) (key tf : Nat) : State :=
  if tf = 0 then s
  else (s.steered key).foldl (fun s h => match (s.head h).mode with
    | some m => s.modSynth h fun y =>
        let a := synRound (2000000000 * m.htot * m.vtot) tf y.p
        if y.ramp.isSome ∨ y.frozen then y else { y with n := a.n, frac := a.f }
    | none => s) s

/-- Leader period measured: GENLOCK_IN's established one, else the mean of the last 4 periods. -/
def State.leaderPeriod (s : State) (l : Heel) : Nat :=
  if l.leader = .genlock then s.clk.genlock.period
  else if l.periods.isEmpty then 0 else l.periods.foldl (· + ·) 0 / l.periods.length

/-- Whether two periods differ by at most `ppm`. -/
def withinPpm (a b : Frac) (ppm : Nat) : Bool :=
  let x := a.1 * b.2
  let y := b.1 * a.2
  (if x ≤ y then y - x else x - y) * 1000000 ≤ y * ppm

/-- The frame period after one leader period of a ramp towards `want`. -/
def rampPeriod (tf want period slope : Nat) : Nat :=
  let room := max 1 (tf * slope * period / 2000000000000)
  if tf ≤ want then min want (tf + room) else max want (tf - room)

/-- Heads of a follower are to apply a resync at their next vertical blanking (R306). -/
def State.askResync (s : State) (key : Nat) (e : Int) : State :=
  (s.steered key).foldl (fun s h => s.modHead h fun x => { x with stretch := some e }) s

/-- Enter ACQUIRE_P (R300, R306, R307). -/
def State.acquireP (s : State) (key : Nat) (e : Int) : State :=
  let l := s.heel key
  let s := s.setHeel key { l with state := 2, okCount := 0 }
  if l.resync then s.askResync key e else s

/-- An aligned event in ACQUIRE_P or LOCKED. -/
def State.alignedEvent (s : State) (key : Nat) (e : Int) : State :=
  let l := s.heel key
  if l.state = 2 then
    let ok := if e.natAbs ≤ 10 then l.okCount + 1 else 0
    if 4 ≤ ok then
      (s.setHeel key { l with state := 3, locked := true, okCount := 0 }).postU 0x0380 (s.followerScope key)
        [key, LeaderKind.code l.leader, l.idx, ofS 32 e]
    else s.setHeel key { l with okCount := ok }
  else if l.state = 3 ∧ 100 < e.natAbs then s.acquireP key e
  else s

/-- The frame period applied in a state: towards the leader in ACQUIRE_F, offset by the slew rate in
ACQUIRE_P, the leader's in LOCKED. -/
def Heel.period (l : Heel) (want period : Nat) (e : Int) : Nat :=
  if l.state = 1 then rampPeriod (if l.tf = 0 then want else l.tf) want period l.slope
  else if l.state = 2 ∧ !l.resync ∧ 10 < e.natAbs then
    (if 0 < e then want + want * l.slew / 1000000 else want - want * l.slew / 1000000)
  else want

/-- A leader event reaches a follower (R300-R302). -/
def State.leaderEvent (s : State) (key t : Nat) (e : Int) : State :=
  let l := s.heel key
  if l.leader = .none ∨ !s.leaderValid l.leader l.idx ∨ s.clk.refLost then s
  else
    let l := match l.lastEvent with
      | some p => { l with periods := (l.periods ++ [t - p]).drop (l.periods.length - 3) }
      | none => l
    let aligned := l.cycle % l.d = 0
    let l := { l with lastEvent := some t, cycle := (l.cycle + 1) % l.d
                      err := if aligned then clampI (-2147483647) 2147483647 e else l.err }
    let tl := s.leaderPeriod l
    let s := s.setHeel key l
    if tl = 0 then s
    else if !withinPpm (tl * l.d, l.m) (s.nominal key) 5000 then
      (if l.state = 4 then s else if l.locked then s.coast key 1 else s.setHeel key { l with state := 0 })
    else
      let want := (2 * tl * l.d + l.m) / (2 * l.m)
      let l := if l.state = 0 ∨ l.state = 4 then
          { l with state := 1, okCount := 0, tf := if l.tf = 0 then (s.nominal key).1 / (s.nominal key).2 else l.tf }
        else l
      let tf := l.period want tl e
      let s := (s.setHeel key { l with tf, applied := (l.applied ++ [tf]).drop (l.applied.length - 15) }).steer key tf
      if l.state = 1 then (if withinPpm (tf, 1) (want, 1) 1 then s.acquireP key e else s)
      else if aligned then s.alignedEvent key e else s

/-- LEADER_EVENT (R300). -/
def execLeaderEvent (follower t : Nat) (err : Int) (s : State) : Host.Outcome State Fault Refusal :=
  .next (settle (s.leaderEvent follower t err))

/-- LEADER_LOST: every follower of the leader coasts (R305). -/
def execLeaderLost (kind : LeaderKind) (idx : Nat) (s : State) : Host.Outcome State Fault Refusal :=
  .next (settle (s.leaderLost kind idx 0))

/-! ## GENLOCK_IN (R304) -/

/-- Post GENLOCK.STATE: condition in the order of R304, and the measured period in ns. A condition without a
record bit raises source 90 itself (R461, R472). -/
def State.postGenlock (s : State) (cond : Nat) : State :=
  let s := if cond = 1 then s.detect (dieRec 0 3) 7 0 else if cond = 2 then s.detect (dieRec 0 3) 6 0 else s.raise 90
  s.postU 0x0382 s.scopePkg [cond, s.clk.genlock.period / 2]

/-- Replace the state of GENLOCK_IN. -/
def State.setGenlock (s : State) (g : Genlock) : State := { s with clk := { s.clk with genlock := g } }

/-- The nearest multiple of a period, at least 1. -/
def periodsIn (d period : Nat) : Nat := max 1 ((2 * d + period) / (2 * max 1 period))

/-- Whether two lengths differ by more than one part in `n`. -/
def offBy (a b n : Nat) : Bool := b < (if a ≤ b then b - a else a - b) * n

/-- An edge before the leader is valid. -/
def State.genlockAcquire (s : State) (t : Nat) : State :=
  let g := s.clk.genlock
  match g.last with
  | none => s.setGenlock { g with last := some t }
  | some p =>
    let d := t - p
    if offBy d (2 * g.tg) 200 then s.setGenlock { g with last := some t, good := 0, sum := 0 }
    else if g.good + 1 < 4 then s.setGenlock { g with last := some t, good := g.good + 1, sum := g.sum + d }
    else
      ((s.setGenlock { g with last := some t, good := 0, sum := 0, rateCnt := 0, valid := true, state := 1
                              period := (g.sum + d) / 4 }).postGenlock 0).leaderBack .genlock 0

/-- An edge while the leader is valid: a glitch is ignored; four periods off by more than 0.5 % make a new
period. -/
def State.genlockFollow (s : State) (t : Nat) : State :=
  let g := s.clk.genlock
  let d := t - g.last.getD t
  let k := periodsIn d g.period
  let e := if k * g.period ≤ d then d - k * g.period else k * g.period - d
  if g.period < 100 * e then
    (s.setGenlock { g with glitches := g.glitches + 1, state := 2 }).postGenlock 1
  else if k = 1 ∧ offBy d g.period 200 then
    (if g.rateCnt + 1 < 4 then s.setGenlock { g with last := some t, rateCnt := g.rateCnt + 1, sum := g.sum + d }
     else (s.setGenlock { g with last := some t, rateCnt := 0, sum := 0, period := (g.sum + d) / 4, state := 4 }).postGenlock 3)
  else s.setGenlock { g with last := some t, rateCnt := 0, sum := 0 }

/-- GENLOCK_EDGE (R304). -/
def execGenlockEdge (rising : Bool) (t : Nat) (s : State) : Host.Outcome State Fault Refusal :=
  let g := s.clk.genlock
  .next (settle (if !g.enable ∨ rising = g.falling ∨ !s.clk.refOn then s
    else if g.valid then s.genlockFollow t else s.genlockAcquire t))

/-- GENLOCK_LOST: no valid edge for 3 established periods (R304). -/
def execGenlockLost (s : State) : Host.Outcome State Fault Refusal :=
  let g := s.clk.genlock
  .next (settle (if g.valid then
      ((s.setGenlock { g with valid := false, state := 3, last := none, good := 0, sum := 0, rateCnt := 0 }).postGenlock 2).leaderLost
        .genlock 0 0
    else s))

end Sys2Proof.Machine
end

