-- ==== Sys2Proof/Machine/MantelEvents.lean ====
section
/-! DEFINITION. Steps of the Mantel Engines and the Mantel areas, the load of the sealed image, and the read
of a calibration LUT image (R136, R179, R184, R216, R217, R396). -/

namespace Sys2Proof.Machine

/-! ## The Mantel Engine pair (R184) -/

/-- A fault that held its live bit is over; the reaction that waits for it closes (R470, R475). -/
def State.faultOver (s : State) (rec b : Nat) : State :=
  let s := s.unlive rec b
  match (s.frec rec).open_ with
  | some o => if o.2 = b then s.closeReaction rec else s
  | none => s

/-- Bit of a region record that names a cluster. -/
def clusterBit (field c : Nat) : Nat := 4 * field + c % 4

/-- Verification groups of the line that a head is composing. -/
def Head.lineGroups (d : Head) : List Nat :=
  (d.lineNow.filter fun q => q.cls ≠ 0 && !q.bad).foldl (fun a q => addTo a q.group) []

/-- Groups of the lines in progress of a cluster fall in its test window, which begins or ends. -/
def State.markTest (s : State) (c : Nat) : State :=
  (List.range 4).foldl (fun s k => if (s.head (4 * c + k)).inFrame then
    s.modHead (4 * c + k) fun d => { d with testGroups := d.lineGroups.foldl addTo d.testGroups } else s) s

/-- A miscompare: copy 0 keeps driving the output, and copy 1 is tested. -/
def State.miscompare (s : State) (c : Nat) : State :=
  if s.pairState c ≠ 1 ∨ (s.pair c).state ≠ 0 then s
  else
    let s := s.modPair c fun p => { p with tested := 1, firstFail := false }
    ((s.markTest c).setPairState c 1).clusterFault 3 c 0 0 true

/-- The groups composed in a test window are noted until each head's frame ends; the test is over. -/
def State.endPairTest (s : State) (c : Nat) : State := (s.markTest c).faultOver (c / 4) (clusterBit 3 c)

/-- Fence copy 1 after its first test; the pair stays TESTING. -/
def State.fenceFirst (s : State) (c : Nat) : State :=
  (s.modPair c fun p => { p with tested := 0, firstFail := true, fenced := p.fenced ++ [1] }).repaired 0x12 true (c / 16)
    (2 * (c % 16) + 1) (2 * c + 1)

/-- The end of a test of one copy. -/
def State.pairTested (s : State) (c : Nat) (pass : Bool) : State :=
  let p := s.pair c
  if s.clusterState c ≠ 1 ∨ p.state ≠ 1 then s
  else if p.tested = 1 then
    (if pass then s.modPair c fun p => { p with tested := 0, firstFail := false } else s.fenceFirst c)
  else
    let s := match p.firstFail, pass with
      | false, true => (s.modPair c fun p => { p with transients := p.transients + 1 }).setPairState c 0
      | true, true => s.setPairState c 2
      | false, false => s.fenceCopy c 0
      | true, false => (s.clusterFault 4 c 0 0 true).fenceCopy c 0
    s.endPairTest c

/-- MANTEL_PAIR_MISCOMPARE (R184). -/
def execMantelPairMiscompare (c : Nat) (s : State) : Host.Outcome State Fault Refusal :=
  .next (settle (if c < 32 then s.miscompare c else s))

/-- MANTEL_PAIR_TEST_COMPLETE (R184). -/
def execMantelPairTestComplete (c : Nat) (pass : Bool) (s : State) : Host.Outcome State Fault Refusal :=
  .next (settle (if c < 32 then s.pairTested c pass else s))

/-! ## Areas and the sealed image (R179, R216) -/

/-- The copy of the areas is complete: the new bases hold, and MANTEL.AREA replies. -/
def State.areasCopied (s : State) : State :=
  match s.mantel.newAreas with
  | none => s
  | some (a, b, port, tag) => ((s.moveAreas a b).markAreas).finishTag port tag [replyWord stOk false 0]

/-- MANTEL_AREA_COPY_COMPLETE (R179). -/
def execMantelAreaCopyComplete (s : State) : Host.Outcome State Fault Refusal := .next (settle s.areasCopied)

/-- The seal is complete: the staged image is the sealed one (R216, R395). -/
def State.sealDone (s : State) : State :=
  match s.mantel.sealing with
  | none => s
  | some (port, tag) =>
    let n := min 65535 (s.mantel.seals + 1)
    ({ s with mantel := { s.mantel with
      store := s.mantel.staging, staging := none, storeHigh := 0, sealing := none, seals := n } }).finishTag port tag
      [replyWord stOk false 0, n]

/-- MANTEL_SEAL_COMPLETE (R216). -/
def execMantelSealComplete (s : State) : Host.Outcome State Fault Refusal := .next (settle s.sealDone)

/-! ## The sealed image at start (R217, R396) -/

/-- A value of `n` bytes in the sealed image. -/
def imageAt (t : Tab Nat) (off n : Nat) : Nat :=
  ofLe ((List.range n).map fun i => BitVec.ofNat 8 (tget 0 t (off + i)))

/-- Copy the listed bytes of part of the image to an address. -/
def Memory.putImage (m : Memory) (t : Tab Nat) (off n a : Nat) : Memory :=
  (t.filter fun e => off ≤ e.1 && e.1 < off + n).foldl (fun m e => m.put (a + (e.1 - off)) (BitVec.ofNat 8 e.2)) m

/-- The rectangles of the image, as CTM.FILL changes. -/
def imageRects (t : Tab Nat) : List CtmOp :=
  (List.range (min 4096 (imageAt t 0x100C410 4))).map fun i =>
    { first := imageAt t (0x100C414 + 12 * i) 4, last := imageAt t (0x100C418 + 12 * i) 4, fill := true
      entries := [imageAt t (0x100C41C + 12 * i) 2] }

/-- Fill one area from the image. -/
def Memory.loadArea (m : Memory) (t : Tab Nat) (a : Nat) : Memory :=
  let m := m.clear a (a + areaBytes - 1)
  let m := m.putImage t 0 0x1000000 a
  let m := [0, 1].foldl (fun (m : Memory) b =>
    let m := m.putImage t 0x1000010 32768 (a + paletteAt b 0)
    let m := m.putBytes (a + coloursAt b 0) ((List.range colourSet).map fun i => BitVec.ofNat 8 (tget 0 t (0x1008010 + i)))
    m.putImage t 0x1018614 524288 (a + spriteAt b 0)) m
  (imageRects t).foldl (fun m o => o.entriesOf.foldl (fun m e => m.putBytes (a + ctmPart + 2 * e.1) (leBytes 2 e.2)) m) m

/-- Whether two bases obey R178. -/
def State.basesOk (s : State) (a b : Nat) : Bool :=
  a % areaBytes = 0 && b % areaBytes = 0 && a / regionSpan < 8 && b / regionSpan < 8 &&
    s.regionState (a / regionSpan) = 1 && s.regionState (b / regionSpan) = 1 && a / regionSpan / 2 ≠ b / regionSpan / 2

/-- Load the image into both areas, commit its version and arm its heads. -/
def State.loadImage (s : State) (t : Tab Nat) : State :=
  let a := imageAt t 0x1000000 8
  let b := imageAt t 0x1000008 8
  let v := imageAt t 0x1098624 2
  let s : State := { s with
    mem := { s.mem with memory := (s.mem.memory.loadArea t a).loadArea t b }
    mantel := { s.mantel with
      areaA := a, areaB := b, buf := 0, version := v, sealed := none, sealedCtm := [], pendingCtm := [], dirty := false
      lens := (List.range 256).map fun i => (i, min 256 (imageAt t (0x1018414 + 4 * (i / 2)) 4)) } }
  let s := (s.markAreas).postS 0x0C82 s.scopePkg [v]
  (List.range 128).foldl (fun s h =>
    if s.headState h = 1 ∧ bit (imageAt t (0x1098614 + h / 8) 1) (h % 8) then s.armHead h true else s) s

/-- Without an image the areas hold the reset content, but for the atlas, which stays undefined (R185, R187,
R194). -/
def State.blankAreas (s : State) : State :=
  let clearOne (m : Memory) (a : Nat) : Memory := m.clear (a + ctmPart) (a + areaBytes - 1)
  { s with mem := { s.mem with memory := clearOne (clearOne s.mem.memory s.mantel.areaA) s.mantel.areaB } }

/-- The Mantel step of a cold start. -/
def State.mantelLoad (s : State) : State :=
  match s.mantel.store with
  | none => s.blankAreas
  | some t =>
    if s.basesOk (imageAt t 0x1000000 8) (imageAt t 0x1000008 8) then
      let s := s.loadImage t
      { s with pwr := { s.pwr with start := { s.pwr.start with mantelOk := true } } }
    else (s.blankAreas).postS 0x0C83 s.scopePkg [0]

/-- Offsets of the area content at which a copy lists a byte, or reset content is not 0. -/
def Memory.areaMarks (m : Memory) (a : Nat) : List Nat :=
  ((m.cells.filter fun c => a ≤ c.1 && c.1 < a + copiedBytes).map fun c => c.1 - a) ++
    (resetMarks a copiedBytes).map (· - a)

/-- Whether undefined content reaches into an area. -/
def Memory.rawArea (m : Memory) (a : Nat) : Bool :=
  m.undef.any fun r => decide (r.1 < a + copiedBytes) && decide (a ≤ r.2.1)

/-- Both copies are readable and agree; where they hold undefined content, the outcome is a free value
(R217, assumption 7). -/
def State.copiesAgree (s : State) : Bool :=
  let m := s.mem.memory
  let a := s.mantel.areaA
  let b := s.mantel.areaB
  if m.rawArea a ∨ m.rawArea b then Config.freeBool s.freeCtr
  else (s.badBlocks a copiedBytes).isEmpty && (s.badBlocks b copiedBytes).isEmpty &&
    (m.areaMarks a ++ m.areaMarks b).all fun o => m.byte (a + o) = m.byte (b + o)

/-- The Mantel step of a warm start: the copies are compared; if they differ, no head is armed (R217). -/
def State.mantelScrub (s : State) : State :=
  let ok := s.copiesAgree
  let s := { s with freeCtr := s.freeCtr + 1 }
  if ok then s
  else
    let m := s.mem.memory.forget s.mantel.areaA (s.mantel.areaA + copiedBytes - 1) s.freeCtr
    let m := m.forget s.mantel.areaB (s.mantel.areaB + copiedBytes - 1) s.freeCtr
    let s : State := { s with
      heads := s.heads.map fun e => (e.1, { e.2 with armed := false, pendingArm := none })
      mem := { s.mem with memory := m }
      freeCtr := s.freeCtr + 1
      pwr := { s.pwr with warmFailed := true } }
    s.postS 0x0C83 s.scopePkg [0]

/-! ## The calibration LUT (R136) -/

/-- The entries of a LUT image that differ from the identity image, with only the bits that count. -/
def lutOf (d : List Byte) : Tab Nat :=
  let w (i : Nat) : Nat := ofLe ((d.drop (8 * i)).take 8) &&& 0x0FFF0FFF0FFF
  let id (i : Nat) : Nat := (2 * 4095 * i + 32) / 64
  ((List.range 35937).map fun i => (i, w i)).filter fun e =>
    e.2 ≠ id (e.1 % 33) + id (e.1 / 33 % 33) * 2 ^ 16 + id (e.1 / 1089) * 2 ^ 32

/-- The read of a LUT image ends: it waits for the head's commit line, or is swapped in at once (R136, R574); a
read error keeps the LUT in force and is posted. -/
def State.lutRead (s : State) (h : Nat) : State :=
  match (s.head h).lutBusy with
  | none => s
  | some (a, m) =>
    let r := s.read a 287496 ⟨6, m, 0⟩
    let s := r.2.2.modHead h fun d => { d with lutBusy := none }
    if r.1 = .ok then
      s.modHead h fun d => if d.running then { d with staged := some (lutOf r.2.1) } else { d with lut := lutOf r.2.1 }
    else s.postI (s.head h).lutIssuer 0x0881 (s.scopeOf 4 h) (h :: words64 a)

/-- LUT_IMAGE_READ_COMPLETE: the load of a cluster's staging store ends (R136). -/
def execLutImageReadComplete (c : Nat) (s : State) : Host.Outcome State Fault Refusal :=
  .next (settle (if c < 32 then ((List.range 4).map (4 * c + ·)).foldl State.lutRead s else s))

end Sys2Proof.Machine
end

