-- ==== Sys2Proof/Machine/Interrupts.lean ====
section
/-! DEFINITION. Delivery of interrupts, and the steps of faults and reactions (R428, R464-R478, R490). -/

namespace Sys2Proof.Machine

/-! ## Targets (R429, R464, R465) -/

/-- A target of an interrupt: an MSI-X vector of a function, the S-port, or a Bureau core, 4 die + core. -/
inductive IrqTarget where
  | msix (fn vec : Nat)
  | sport
  | core (i : Nat)
  deriving DecidableEq, Repr

/-- The target of a source: its word holds the kind in [1:0], the function in [5:2], the vector in [12:6] and
the core in [14:13] (R429). -/
def State.irqTarget (s : State) (n : Nat) : IrqTarget :=
  let w := tget 0 s.irq.target n
  if bits w 1 0 = 1 then .sport
  else if bits w 1 0 = 2 then .core (4 * (n / 256) + bits w 14 13)
  else .msix (bits w 5 2) (bits w 12 6)

/-- Whether a vector of a function is awake: the link is up, the function is enabled, a bus master and not in
D3hot, and the host does not mask the vector (R465). -/
def State.vectorAwake (s : State) (fn vec : Nat) : Bool :=
  let d := s.door fn
  s.portLive fn && d.bme && !d.d3hot && !d.vecMask.getLsbD vec

/-- Whether an IRQ.NOTIFY waits to be delivered on the S-port (R465). -/
def State.notifyWaits (s : State) : Bool := (s.port 16).out.any (·.kind = 5)

/-- Whether a target is free and awake. -/
def State.targetReady (s : State) : IrqTarget → Bool
  | .msix fn vec => s.vectorAwake fn vec && !(s.door fn).insvc.getLsbD vec
  | .sport => !s.notifyWaits
  | .core i => !s.irq.busyCore.contains i

/-- An MSI-X write: the vector is in service until the host acknowledges it (R428, R465). -/
def State.msixWrite (s : State) (fn vec : Nat) : State :=
  ({ s with irq := { s.irq with msix := s.irq.msix ++ [(fn, vec)] } }).modDoor fn fun d =>
    { d with insvc := d.insvc ||| ((1 : BitVec 128) <<< vec) }

/-- Whether the hold-off timer of a group runs (R468). -/
def State.holding (s : State) (g : Nat) : Bool := s.now + 1 < tget 0 s.irq.running g

/-- Start the hold-off timer of a group; 0 disables it (R468). -/
def State.startHoldoff (s : State) (g : Nat) : State :=
  let us := tget 0 s.irq.holdoff g
  if us = 0 then s else { s with irq := { s.irq with running := tset s.irq.running g (s.now + 1000 * us + 1) } }

/-- Deliver a source to its target: its pending bit and raise count clear (R464, R465). -/
def State.deliver (s : State) (n : Nat) : State :=
  let count := tget 0 s.irq.counts n
  let t := s.irqTarget n
  let s := { s with irq := { s.irq with
    pend := s.irq.pend &&& ~~~((1 : BitVec 512) <<< n), counts := tset s.irq.counts n 0 } }
  let s := s.startHoldoff (groupOf n)
  match t with
  | .msix fn vec => s.msixWrite fn vec
  | .sport => s.send 16 { kind := 5, opcode := 0x1080, scope := s.scopePkg, params := [n, groupOf n, count] }
  | .core i => { s with irq := { s.irq with busyCore := addTo s.irq.busyCore i } }

/-- PF0 vector 127 carries URGENT notifications, one at a time; it ignores IRQ_MASK and hold-off (R474). -/
def State.deliverUrgent (s : State) : State :=
  if 0 < s.irq.urgentWait ∧ s.targetReady (.msix 0 127) then
    ({ s with irq := { s.irq with urgentWait := 0 } }).msixWrite 0 127
  else s

/-- One evaluation of the interrupt controllers: each free target takes its lowest source; the hold-off groups
are judged as they were at its start (R464-R468). -/
def State.irqEvaluate (s : State) : State :=
  let can := (List.range 512).filter fun n =>
    s.irq.pend.getLsbD n && !s.irq.mask.getLsbD n && s.srcLive n && !s.holding (groupOf n)
  let r := can.foldl (fun (a : State × List Nat) n =>
    if a.1.targetReady (a.1.irqTarget n) ∧ !(a.2.contains (groupOf n)) then
      (a.1.deliver n, if tget 0 a.1.irq.holdoff (groupOf n) = 0 then a.2 else groupOf n :: a.2)
    else a) (s.deliverUrgent, [])
  r.1

/-- IRQ_DELIVERY: one evaluation, in one fabric cycle (R464). -/
def execIrqDelivery (s : State) : Host.Outcome State Fault Refusal := .next (settle (advance 2 s.irqEvaluate))

/-- HOLDOFF_EXPIRY: the timer of a group ends (R468). -/
def execHoldoffExpiry (group : Nat) (s : State) : Host.Outcome State Fault Refusal :=
  .next (settle (
    let e := tget 0 s.irq.running group
    if e = 0 then s
    else
      let s := advanceTo (e - 1) s
      { s with irq := { s.irq with running := tdel s.irq.running group } }))

/-- BUREAU_IRQ_ACK: the firmware acknowledges the interrupt of a core (R465). -/
def execBureauIrqAck (die core : Nat) (s : State) : Host.Outcome State Fault Refusal :=
  .next (settle { s with irq := { s.irq with busyCore := dropOf s.irq.busyCore (4 * die + core) } })

/-! ## Faults (R469-R475, R490) -/

/-- An uncorrectable Trestle or CTM cache error: the third within 1 s retires the cluster (R490). -/
def State.trestleError (s : State) (c : Nat) : State :=
  let l := ((s.cluster c).trestleErrs.filter (s.now < · + 1000000000)) ++ [s.now]
  let s := s.modCluster c fun r => { r with trestleErrs := l }
  if 3 ≤ l.length then s.retireCluster c else s

/-- What a fault of a region bit brings with it beside its reaction: a Blender fault retires its cluster, and
Trestle errors are counted (R490). -/
def State.faultWork (s : State) (rec bit : Nat) : State :=
  let c := 4 * rec + bit % 4
  if 8 ≤ rec ∨ s.clusterState c ≠ 1 then s
  else if 8 ≤ bit ∧ bit ≤ 11 then s.retireCluster c
  else if 28 ≤ bit ∧ bit ≤ 31 then s.trestleError c
  else s

/-- FAULT_DETECTED: a fault of a collector or a die record (R470). -/
def execFaultDetected (rec bit : Nat) (syn : Word) (holds : Bool) (s : State) : Host.Outcome State Fault Refusal :=
  .next (settle (
    if 64 ≤ bit ∨ 40 ≤ rec ∨ !s.recLive rec then s
    else
      let t := s.detect rec bit syn.toNat holds
      if wasReset s t then t else t.faultWork rec bit))

/-- The block that an open reaction of a region resets, after its test: an LE slot, or a copy of a Mantel pair
(R473). -/
def State.resetTested (s : State) (rec b : Nat) (passed : Bool) : State :=
  let c := 4 * rec + b % 4
  let u := tget 0 (s.frec rec).syns b % 16
  if 8 ≤ rec then s
  else if b < 8 then (if passed then s else s.retireSlot c u)
  else if 12 ≤ b ∧ b < 20 then (if passed then s else s.fenceCopy c (u % 2))
  else s

/-- BLOCK_RESET_COMPLETE: the block that the open reaction of a record waits for has left its reset and been
tested; the reaction closes (R473, R475). -/
def execBlockResetComplete (rec : Nat) (passed : Bool) (s : State) : Host.Outcome State Fault Refusal :=
  .next (settle (match (s.frec rec).open_ with
    | some o => (s.resetTested rec o.2 passed).faultOver rec o.2
    | none => s))

/-- BARK_PULSE_ELAPSED: ERR_N has been low for BARK_WIDTH (R478). -/
def execBarkPulseElapsed (s : State) : Host.Outcome State Fault Refusal :=
  .next (settle (
    if s.faults.errLow then
      let s := advanceTo s.faults.barkEnd s
      { s with faults := { s.faults with pulseDone := true } }
    else s))

end Sys2Proof.Machine
end

