-- ==== Sys2Proof/Machine/LayerEngine.lean ====
section
/-! DEFINITION. The Layer Engine: fetch, unpack, chroma upsampling, scaling, and the colour stages of one
destination line (R82-R108, R131-R133). -/

namespace Sys2Proof.Machine

/-! ## The intermediate pixel (R83, R84, R90) -/

/-- An intermediate pixel: three components and alpha. -/
structure Texel where
  c : List Int
  a : Int
  deriving DecidableEq, Repr

/-- Bit replication of an `n`-bit code to 16 bits (R84). -/
def widen (n c : Nat) : Nat :=
  let r := ceilDiv 16 n
  ((List.range r).foldl (fun v _ => v * 2 ^ n + c) 0) / 2 ^ (n * r - 16)

/-- A binary16 number as a fraction of 2^24, with the infinities as large values; none for NaN. -/
def halfVal (h : Nat) : Option Int :=
  let e := bits h 14 10
  let m := bits h 9 0
  let v : Option Int :=
    if e = 31 then (if m = 0 then some (2 ^ 60) else none)
    else if e = 0 then some (m : Nat)
    else some (((1024 + m) * 2 ^ (e - 1) : Nat) : Int)
  v.map fun x => if bit h 15 then -x else x

/-- A binary16 colour component as s3.12 (R90). -/
def halfColour (h : Nat) : Int :=
  match halfVal h with
  | none => 0
  | some v => clampI (-32768) 32767 (roundQ v 4096)

/-- A binary16 alpha as u0.16 (R90). -/
def halfAlpha (h : Nat) : Int :=
  match halfVal h with
  | none => 0
  | some v => (2 * 65535 * clampI 0 (2 ^ 24) v + 2 ^ 24) / 2 ^ 25

/-- An ARGB8888 pixel. -/
def argb8888 (v : Nat) : Texel :=
  { c := [(widen 8 (bits v 23 16) : Nat), (widen 8 (bits v 15 8) : Nat), (widen 8 (bits v 7 0) : Nat)]
    a := (widen 8 (bits v 31 24) : Nat) }

/-- The fill colour of a layer in a format's family (R133). -/
def Fill.texel (f : Fill) (format : Nat) (a : Nat) : Texel :=
  let g (v : Nat) : Int := if format = 4 then toS 16 v else (v : Nat)
  { c := [g f.c0, g f.c1, g f.c2], a := (a : Nat) }

/-- A one-plane element that holds one pixel (R89, R91). -/
def unpackPixel (format v : Nat) (palette : Tab Nat) (fill : Fill) : Texel :=
  match format with
  | 1 => { c := [(widen 8 (bits v 7 0) : Nat), (widen 8 (bits v 15 8) : Nat), (widen 8 (bits v 23 16) : Nat)]
           a := (widen 8 (bits v 31 24) : Nat) }
  | 2 => { c := [(widen 5 (bits v 15 11) : Nat), (widen 6 (bits v 10 5) : Nat), (widen 5 (bits v 4 0) : Nat)], a := 65535 }
  | 3 => { c := [(widen 10 (bits v 29 20) : Nat), (widen 10 (bits v 19 10) : Nat), (widen 10 (bits v 9 0) : Nat)]
           a := (widen 2 (bits v 31 30) : Nat) }
  | 4 => { c := [halfColour (bits v 15 0), halfColour (bits v 31 16), halfColour (bits v 47 32)]
           a := halfAlpha (bits v 63 48) }
  | 8 => { c := [(bits v 19 10 * 64 : Nat), (bits v 9 0 * 64 : Nat), (bits v 29 20 * 64 : Nat)]
           a := (widen 2 (bits v 31 30) : Nat) }
  | 9 => argb8888 (tget 0 palette (v % 256))
  | 10 => { (fill.texel format 0) with a := (widen 8 (v % 256) : Nat) }
  | _ => argb8888 v

/-! ## Reading a buffer (R93-R95) -/

/-- The request of an LE (R323, R405). -/
def leReq : Req := ⟨1, 54, 0⟩

/-- Whether an LE's read of the 64-byte block at an address is answered without an error. -/
def State.blockReadable (s : State) (a : Nat) : Bool :=
  match s.gate a false leReq.checked with
  | .open _ _ => (List.range 8).all fun i => (s.mem.memory.judge (a / 64 * 8 + i)).kind < 2
  | _ => false

/-- One element of a plane; none where its block is not readable. -/
def State.element (s : State) (src : Source) (bases : List Nat) (pl ex ey : Nat) : Option Nat :=
  let a := bases.getD pl 0 + elemOffset src pl ex ey
  if s.blockReadable a then some (ofLe (s.mem.memory.read a (elemBytes src.format pl))) else none

/-- Where a layer's pixels come from: own components and alpha of a pixel, and subsampled chroma samples. A
value that is not there is `none`. -/
structure Sampler where
  /-- 0 no subsampling, 1 horizontal, 2 both ways. -/
  sub : Nat
  own : Nat → Nat → Option Texel
  chroma : Nat → Nat → Option (List Int)

/-- The sampler of a buffer in memory (R89). -/
def State.bufferSampler (s : State) (f : FrozenLayer) (src : Source) : Sampler :=
  let e := s.element src f.bases
  match src.format with
  | 5 => { sub := 2, own := fun x y => (e 0 x y).map fun v => { c := [(v * 256 : Nat)], a := 65535 }
           chroma := fun m n => (e 1 m n).map fun v => [(bits v 7 0 * 256 : Nat), (bits v 15 8 * 256 : Nat)] }
  | 6 => { sub := 2, own := fun x y => (e 0 x y).map fun v => { c := [(bits v 15 6 * 64 : Nat)], a := 65535 }
           chroma := fun m n => (e 1 m n).map fun v => [(bits v 15 6 * 64 : Nat), (bits v 31 22 * 64 : Nat)] }
  | 7 => { sub := 1, own := fun x y => (e 0 (x / 2) y).map fun v =>
             { c := [((if x % 2 = 0 then bits v 15 6 else bits v 47 38) * 64 : Nat)], a := 65535 }
           chroma := fun m n => (e 0 m n).map fun v => [(bits v 31 22 * 64 : Nat), (bits v 63 54 * 64 : Nat)] }
  | k => { sub := 0, own := fun x y => (e 0 x y).map fun v => unpackPixel k v f.palette f.cfg.fill
           chroma := fun _ _ => none }

/-- A component of a received stream in the intermediate form (R83, R249). -/
def streamComp (rgb : Bool) (d v : Nat) : Int := if rgb then (widen d v : Nat) else (v * 2 ^ (16 - d) : Nat)

/-- The sampler of a direct feed: the lines delivered so far, three components a pixel (R96, R249). -/
def Input.sampler (i : Input) : Sampler :=
  let at' (x y k : Nat) : Option Int := (tfind i.directLine y).bind fun l => (l[3 * x + k]?).map fun v => ((v : Nat) : Int)
  { sub := if i.encoding = 2 then 1 else if i.encoding = 3 then 2 else 0
    own := fun x y => match at' x y 0, at' x y 1, at' x y 2 with
      | some a, some b, some c => some { c := [a, b, c], a := 65535 }
      | _, _, _ => none
    chroma := fun m n => match at' (2 * m) (if i.encoding = 3 then 2 * n else n) 1,
        at' (2 * m) (if i.encoding = 3 then 2 * n else n) 2 with
      | some b, some c => some [b, c]
      | _, _ => none }

/-! ## Chroma upsampling (R97) -/

/-- One axis of the upsampling: the value for pixel `n` from samples `c`. -/
def upsample (interp centred : Bool) (c : Int → Int) (n : Nat) : Int :=
  let m : Int := (n / 2 : Nat)
  if !interp then c m
  else if centred then (if n % 2 = 0 then (3 * c m + c (m - 1) + 2) / 4 else (3 * c m + c (m + 1) + 2) / 4)
  else if n % 2 = 0 then c m else (c m + c (m + 1) + 1) / 2

/-- First and last buffer position of the source rectangle on an axis, as applied. -/
def Layer.span (l : Layer) (cols : Bool) : Nat × Nat :=
  if cols then (l.applied.srcX, l.applied.srcX + l.cutW - 1) else (l.applied.srcY, l.applied.srcY + l.cutH - 1)

/-- A chroma component at a pixel: vertically first for 4:2:0, then horizontally; a sample outside the source
rectangle takes the nearest inside it, and one that is not readable the fill (R95, R97). -/
def Sampler.chromaAt (p : Sampler) (l : Layer) (fill : Texel) (k x y : Nat) : Int :=
  let near (cols : Bool) (m : Int) : Nat :=
    (clampI ((l.span cols).1 / 2 : Nat) ((l.span cols).2 / 2 : Nat) m).toNat
  let at' (m n : Nat) : Int := match p.chroma m n with
    | some c => c.getD k 0
    | none => fill.c.getD (k + 1) 0
  let col (m : Int) : Int :=
    if p.sub = 2 then upsample l.scale.interp l.scale.vCentred (fun n => at' (near true m) (near false n)) y
    else at' (near true m) y
  upsample l.scale.interp l.scale.hCentred col x

/-- The intermediate pixel at a buffer position; a pixel that its block does not supply is `bad` (R95). -/
def Sampler.texel (p : Sampler) (l : Layer) (fill : Texel) (bad : Option Texel) (x y : Nat) : Option Texel :=
  match p.own x y with
  | none => bad
  | some t =>
    if p.sub = 0 then some t
    else match p.chroma (x / 2) (if p.sub = 2 then y / 2 else y) with
      | none => bad
      | some _ => some { t with c := [t.c.getD 0 0, p.chromaAt l fill 0 x y, p.chromaAt l fill 1 x y] }

/-! ## The polyphase scaler (R70, R71, R98-R103) -/

/-- One pass: the exact sum of coefficient times component, rounded and clamped (R102). A pixel that is missing
leaves the result missing. -/
def scalePass (half : Bool) (l : List (Int × Option Texel)) : Option Texel :=
  if l.any (·.2.isNone) then none
  else
    let t := l.map fun e => (e.1, e.2.getD { c := [0, 0, 0], a := 0 })
    let sum (f : Texel → Int) : Int := t.foldl (fun a e => a + e.1 * f e.2) 0
    let rnd (lo hi v : Int) : Int := clampI lo hi ((v + 512) / 1024)
    let lo : Int := if half then -32768 else 0
    let hi : Int := if half then 32767 else 65535
    some { c := (List.range 3).map fun i => rnd lo hi (sum fun x => x.c.getD i 0), a := rnd 0 65535 (sum (·.a)) }

/-- The texel at source indices of the along and across axes, each clamped into the source rectangle (R71). -/
def Part.source (p : Part) (tex : Nat → Nat → Option Texel) (al ac : Int) : Option Texel :=
  let i (x : Axis) (v : Int) : Nat := x.org + (clampI 0 ((x.cut : Int) - 1) v).toNat
  if p.along.cols then tex (i p.along al) (i p.across ac) else tex (i p.across ac) (i p.along al)

/-- The across pass at an along index for across count `k` (R98). -/
def Part.crossed (p : Part) (f : Frozen) (l : Layer) (tex : Nat → Nat → Option Texel) (al k : Int) : Option Texel :=
  let b := idxOf p.across.step k
  if !p.across.scaled then p.source tex al b
  else
    let t := runTaps p.across.step l.taps
    let co := acrossTaps f.coefSets l.scale.vset t (phaseOf p.across.step k)
    scalePass (l.source.format = 4) ((List.range t).map fun n =>
      (co.getD n 0, p.source tex al (b + acrossFirst t + (n : Nat))))

/-- The scaled pixel at counts of the along and across axes. -/
def Part.pixel (p : Part) (f : Frozen) (l : Layer) (tex : Nat → Nat → Option Texel) (ka kc : Int) : Option Texel :=
  let a := idxOf p.along.step ka
  if !p.along.scaled then p.crossed f l tex a kc
  else
    let co := alongTaps f.coefSets l.scale.hset (phaseOf p.along.step ka)
    scalePass (l.source.format = 4) ((List.range 8).map fun n =>
      (co.getD n 0, p.crossed f l tex (a - 3 + (n : Nat)) kc))

/-! ## A layer's line (R53, R59, R82, R152) -/

/-- The head as its frame was frozen. -/
def Head.asFrozen (h : Head) (f : Frozen) : Head :=
  { h with ox := f.ox, oy := f.oy, orient := f.orient, mirror := f.mirror, pendingMode := none }

/-- Counts of the along and across axes of a head part at a panel pixel; none where it draws nothing. -/
def Part.counts (p : Part) (hd : Head) (px py : Nat) : Option (Int × Int) :=
  let c := hd.canvasOf px py
  let (va, vc) := if turned hd.orient then (c.2, c.1) else (c.1, c.2)
  let ka := p.along.count (va : Nat)
  let kc := p.across.count (vc : Nat)
  if p.along.kLo ≤ ka ∧ ka ≤ p.along.kHi ∧ p.across.kLo ≤ kc ∧ kc ≤ p.across.kHi then some (ka, kc) else none

/-- Transfer function in force: half-float forces LINEAR (R114). -/
def Layer.transferNow (l : Layer) (format : Nat) : Nat := if format = 4 then 4 else l.colour.transfer

/-- The EOTF table of a slot in force; a slot never loaded is the identity. -/
def Frozen.eotfOf (f : Frozen) (slot : Nat) : List Nat :=
  (tfind f.eotf slot).getD ((List.range 1025).map fun i => 1024 * i)

/-- The tone table of a slot in force; a slot never loaded has gain 1. -/
def Frozen.toneOf (f : Frozen) (slot : Nat) : List Nat := (tfind f.tone slot).getD (List.replicate 4096 16384)

/-- Stages 5 to 9 on a scaled pixel of a layer. -/
def Frozen.finish (f : Frozen) (x : FrozenLayer) (format : Nat) (t : Texel) : LePix :=
  layerPixel x.cfg.colour format (x.cfg.transferNow format) f.colour x.lm x.knee (f.eotfOf x.cfg.colour.eotfSlot)
    (f.toneOf x.cfg.colour.toneSlot) t.c t.a.toNat

/-- The backing ring of a direct layer: the buffer that is current for it (R260, R264). -/
def State.backing (s : State) (x : FrozenLayer) : Option (FrozenLayer × Source) :=
  if x.bases.isEmpty then none else some (x, (s.input x.cfg.bindInput).ringSource)

/-- The pixel source of a layer in a frame. What is shown is 0 a buffer, 1 the fill, 2 nothing, 3 a direct feed
whose missing pixels take the policy, 4 the no-signal fill (R152, R258, R259, R264). -/
def State.pixelOf (s : State) (x : FrozenLayer) (p : Part) (f : Frozen) (ka kc : Int) : Option LePix :=
  let l := x.cfg
  let k := l.source.format
  let buffer (y : FrozenLayer) (src : Source) : Option LePix :=
    let fill := l.fill.texel src.format 65535
    let tex := (s.bufferSampler y src).texel l fill (some fill)
    (p.pixel f { l with source := src } tex ka kc).map (f.finish x src.format)
  let policy : Option LePix :=
    if l.policy = 0 then (s.backing x).bind fun b => buffer b.1 b.2
    else if l.policy = 1 then some (f.finish x k (l.fill.texel k l.fill.a)) else none
  match x.shows with
  | 0 => buffer x l.source
  | 1 => some (f.finish x k (l.fill.texel k l.fill.a))
  | 3 =>
    let i := s.input l.bindInput
    match p.pixel f l (i.sampler.texel l (l.fill.texel k 65535) none) ka kc with
    | some t => some (f.finish x k t)
    | none => policy
  | 4 => let w := if l.bindOwn then l.bindFill else l.fill
         some (f.finish x k (w.texel k w.a))
  | _ => none

/-- A layer's line on a head: one entry per panel pixel (R132). -/
def State.layerLine (s : State) (hd : Head) (f : Frozen) (x : FrozenLayer) (p : Part) (line wa : Nat) : LeLine :=
  { layer := x.id, line
    px := (List.range wa).map fun px => (p.counts hd px line).bind fun k => s.pixelOf x p f k.1 k.2 }

/-! ## What a line fetches (R93-R95) -/

/-- Post LAYER.REWRITE, at most once per flip or captured buffer: to the issuer and the subscribers (R95). -/
def State.postRewrite (s : State) (li flip addr : Nat) : State :=
  let l := s.layer li
  if l.rewritten then s
  else
    let s := s.modLayer li fun l => { l with rewritten := true }
    let dest := if l.bindMode = 0 then (l.current.map (·.issuer)).getD 0 else l.bindIssuer
    let w := [li, flip] ++ words64 addr
    let s := s.postI dest 0x0782 s.scopePkg w
    (List.range 19).foldl (fun s p => if p ≠ dest ∧ (s.subs p).testBit 7 then s.postTo p 0x0782 s.scopePkg w else s) s

/-- Across indices of the filter window of a count, clamped into the source rectangle (R94). -/
def Part.lineSet (p : Part) (l : Layer) (k : Int) : List Nat :=
  let b := idxOf p.across.step k
  let at' (v : Int) : Nat := p.across.org + (clampI 0 ((p.across.cut : Int) - 1) v).toNat
  if !p.across.scaled then [at' b]
  else
    let t := runTaps p.across.step l.taps
    (List.range t).foldl (fun a n => addTo a (at' (b + acrossFirst t + (n : Nat)))) []

/-- The 64-byte blocks that elements of one across position need: the whole fetch units of the along axis, in
every plane; in tiled layout every line of the micro-blocks touched (R93, R94). -/
def Part.blocksOn (p : Part) (src : Source) (bases : List Nat) (ac : Nat) : List Nat :=
  let e := p.along.extent (fetchUnit src p.rotated) p.along.kLo p.along.kHi
  let acs := if src.tiled then (List.range 4).map (ac / 4 * 4 + ·) else [ac]
  acs.foldl (fun a c =>
    ((List.range (e.2 - e.1)).map (e.1 + ·)).foldl (fun a v =>
      let (x, y) := if p.along.cols then (v, c) else (c, v)
      if src.width ≤ x ∨ src.height ≤ y then a
      else (List.range (fmtPlanes src.format)).foldl (fun a pl =>
        addTo a ((bases.getD pl 0 + elemOffset src pl (x / elemW src.format pl) (y / elemH src.format pl)) / 64 * 64)) a) a) []

/-- Fetch the lines of a count's window that the previous count did not need; a block that errs posts
LAYER.REWRITE (R94, R95). -/
def State.fetchLine (s : State) (x : FrozenLayer) (p : Part) (k : Int) : State :=
  let l := x.cfg
  let prev := if p.acrossDown then k + 1 else k - 1
  let was := if p.across.kLo ≤ prev ∧ prev ≤ p.across.kHi then p.lineSet l prev else []
  let lines := (p.lineSet l k).filter fun a => !was.contains a
  let bs := lines.foldl (fun a c => (p.blocksOn l.source x.bases c).foldl addTo a) []
  bs.foldl (fun s a =>
    let r := s.readBlock a 64 leReq
    if r.1 = .ok then r.2.2 else r.2.2.postRewrite x.id x.flip a) s

/-! ## LE_FETCH_WINDOW (R159) -/

/-- Fetch and process one layer of a head for a line. -/
def State.leLayer (s : State) (h line : Nat) (f : Frozen) (x : FrozenLayer) : State :=
  let hd := (s.head h).asFrozen f
  match hd.mode, x.cfg.part x.id h hd with
  | some m, some p =>
    let mid := ((List.range m.wa).findSome? fun px => p.counts hd px line).map (·.2)
    match mid with
    | none => s
    | some k =>
      let s := if x.shows = 0 then s.fetchLine x p k else s
      let o := s.layerLine hd f x p line m.wa
      s.modHead h fun d => { d with leLines := (d.leLines.filter fun e => !(e.layer = x.id && e.line = line)) ++ [o] }
  | _, _ => s

/-- The configuration of the frame that a line to be fetched belongs to: lines up to the one being sent are those
of the coming frame. -/
def Head.fetchFor (h : Head) (line : Nat) : Option Frozen :=
  if h.inFrame ∧ h.line < line then h.frozen else h.coming

/-- The LEs of a head's cluster fetch ahead for a line: every ordinary layer of the frame but a direct one, whose
pixels come from its input in the line window (R96, R159). -/
def State.fetchWindow (s : State) (h line : Nat) : State :=
  match (s.head h).fetchFor line, (s.head h).mode with
  | some f, some m =>
    if (s.head h).running ∧ !(s.head h).orphan ∧ line < m.ha then
      (f.layers.filter (·.shows ≠ 3)).foldl (fun s x => s.leLayer h line f x) s
    else s
  | _, _ => s

end Sys2Proof.Machine
end

