-- ==== Sys2Proof/Machine/RepairEvents.lean ====
section
/-! DEFINITION. Steps of self-repair and background work: Kennel rotation and tests, LE faults, migration,
the ledger, Bureau failover, scrubbing, calibration, wear and telemetry (R481-R503). -/

namespace Sys2Proof.Machine

/-! ## Kennel rotation (R483-R487) -/

/-- A swap, a migration or a Bureau failover holds the rotations of a cluster (R487). -/
def State.repairWork (s : State) (c : Nat) : Bool :=
  (s.cluster c).takeover.isSome || (s.cluster c).hand.isSome || (s.usable c).any (fun k => (s.slot (9 * c + k)).faulty) ||
    (List.range 4).any (fun j => (s.head (4 * c + j)).migration.isSome) || (s.bureau (c / 16)).failedPair.isSome

/-- The next usable slot after a slot, wrapping from E8 to E0 (R483). -/
def State.slotAfter (s : State) (c k : Nat) : Nat :=
  (((List.range 8).map fun i => (k + 1 + i) % 9).find? fun j => (s.usable c).contains j).getD k

/-- Begin the hand-over from the next slot to the Kennel slot (R484). -/
def State.beginRotation (s : State) (c k : Nat) : State :=
  s.modCluster c fun r => { r with hand := some (s.slotAfter c k, k), kennel := some k, heldRot := false }

/-- Rotate, or hold the rotation while other work or the Kennel's test goes on; a cluster without a Kennel
does not rotate (R486, R487). -/
def State.rotate (s : State) (c : Nat) : State :=
  match s.kennelSlot c with
  | none => s
  | some k =>
    if s.clusterState c ≠ 1 then s
    else if s.repairWork c ∨ (s.slot (9 * c + k)).role = some 2 then s.modCluster c fun r => { r with heldRot := true }
    else s.beginRotation c k

/-- Run a held rotation once the work that held it has ended (R487). -/
def State.heldRotation (s : State) (c : Nat) : State := if (s.cluster c).heldRot then s.rotate c else s

/-- KENNEL_ROTATION_DUE: one that falls due while another is held skips it (R483, R487). -/
def execKennelRotationDue (c : Nat) (s : State) : Host.Outcome State Fault Refusal :=
  .next (settle (if c < 32 then (s.modCluster c fun r => { r with lastRot := s.now, heldRot := false }).rotate c else s))

/-- A slot with a role named. -/
def State.setRole (s : State) (c k role : Nat) : State := s.modSlot (9 * c + k) fun x => { x with role := some role }

/-- The end of a hand-over's compared line windows: the Kennel takes the spans and the outgoing slot is tested,
or the Kennel repeats its test (R484). -/
def State.handCompared (s : State) (c : Nat) (agree : Bool) : State :=
  match (s.cluster c).hand with
  | none => s
  | some (o, k) =>
    if (s.slot (9 * c + k)).role = some 2 then s
    else if agree then
      ((s.modCluster c fun r => { (r.handOver o k) with hand := none, kennel := some o }).setRole c k 0).setRole c o 2
    else s.setRole c k 2

/-- HANDOVER_COMPARE_RESULT (R484). -/
def execHandoverCompareResult (c : Nat) (agree : Bool) (s : State) : Host.Outcome State Fault Refusal :=
  .next (settle (if c < 32 then s.handCompared c agree else s))

/-! ## Sudden faults of an LE (R488, R489) -/

/-- Source of the LE faults of a cluster's region (R461). -/
def leSource (c : Nat) : Nat := 256 * (c / 16) + 32 + 8 * (c / 4 % 4)

/-- The output of a slot is withheld on every head that its spans serve. -/
def State.withhold (s : State) (c k : Nat) : State :=
  ((s.cluster c).assign.filter fun e => e.2.2.2 = k).foldl (fun s e =>
    s.modHead e.1 fun h => { h with withheld := addTo h.withheld k }) s

/-- Spread the spans of a cluster over LE slots (R489). -/
def State.spread (s : State) (c : Nat) (les : List LeLoad) : State :=
  s.modCluster c fun r => { r with
    assign := les.flatMap fun e => e.spans.map fun x => (x.head, x.layer, x.first, e.slot) }

/-- Without a Kennel the spans go to the remaining LEs; where they do not fit, the cluster is retired (R489,
R490). -/
def State.redistribute (s : State) (c : Nat) : State :=
  let rest := (s.usable c).filter fun k => !(s.slot (9 * c + k)).faulty
  let les := s.assignOn c rest
  if les.all (·.fits) ∧ (!rest.isEmpty ∨ s.noSpans c) then
    (List.range 9).foldl (fun s k => s.unwithhold c k) ((s.spread c les).modCluster c fun r => { r with takeover := none })
  else s.retireCluster c

/-- Retire a faulty slot. While the Kennel takes over from it, its output stays withheld until then (R488). -/
def State.retireFaulty (s : State) (c k : Nat) : State :=
  match (s.cluster c).takeover with
  | some t =>
    if t.1 = k then
      ((s.modSlot (9 * c + k) fun x => { x with role := some 3, faulty := false }).modCluster c
        fun r => { r with kennel := none }).repaired 0x11 true (c / 16) (9 * (c % 16) + k) (9 * c + k)
    else s.retireSlot c k
  | none => s.retireSlot c k

/-- An active LE reports a fault: its output is withheld, and the Kennel takes over, or its spans are spread. A
fault whose source resets its block is tested before its slot is judged; any other retires it at once. -/
def State.leFault (s : State) (c k : Nat) : State :=
  if s.slotState (9 * c + k) ≠ 1 ∨ s.kennelSlot c = some k ∨ (s.slot (9 * c + k)).faulty then s
  else
    let tested : Bool := rReset (s.react (leSource c)) = 1
    let s := (s.modSlot (9 * c + k) fun x => { x with faulty := true }).withhold c k
    let spare := if (s.cluster c).takeover.isNone then s.kennelSlot c else none
    let s := s.modCluster c fun r => { r with hand := none, takeover := (spare.map fun j => (k, j)).or r.takeover }
    let s := match spare with
      | some j => s.setRole c j 1
      | none => if tested then s.redistribute c else s
    let s := if tested then s else s.retireFaulty c k
    s.clusterFault 0 c k 0 tested

/-- LE_FAULT_DETECTED (R488). -/
def execLeFaultDetected (c slot : Nat) (s : State) : Host.Outcome State Fault Refusal :=
  .next (settle (if c < 32 ∧ slot < 9 then s.leFault c slot else s))

/-- The Kennel has taken over every head; the interruption is reported (R488). -/
def State.takeoverDone (s : State) (c us : Nat) : State :=
  match (s.cluster c).takeover with
  | none => s
  | some (k, j) =>
    let s := ((s.modCluster c fun r => { (r.handOver k j) with takeover := none }).unwithhold c k).setRole c j 0
    let s := if s.slotState (9 * c + k) = 1 then (s.modCluster c fun r => { r with kennel := some k }).setRole c k 2 else s
    (s.repairAction 0x30 (9 * c + k) 0 us).heldRotation c

/-- KENNEL_TAKEOVER_COMPLETE (R488). -/
def execKennelTakeoverComplete (c us : Nat) (s : State) : Host.Outcome State Fault Refusal :=
  .next (settle (if c < 32 then s.takeoverDone c us else s))

/-- The slot returns: as the Kennel of a cluster with nine usable slots, else to its spans. -/
def State.slotReturns (s : State) (c k : Nat) : State :=
  let s := s.modSlot (9 * c + k) fun x => { x with faulty := false, transients := (x.transients.filter (s.now < · + dayNs)) ++ [s.now] }
  let s := s.repaired 0x10 false (c / 16) (9 * (c % 16) + k) (9 * c + k)
  if (s.usable c).length = 9 then (s.modCluster c fun r => { r with kennel := some k }).setRole c k 2
  else s.spread c (s.assignment c)

/-- The short test of a faulty LE ends: the first transient in 24 h returns it, a second or a failure retires
it (R488). -/
def State.shortTested (s : State) (c k : Nat) (pass : Bool) : State :=
  let x := s.slot (9 * c + k)
  if !x.faulty then s
  else
    let s := if pass ∧ !(x.transients.any (s.now < · + dayNs)) then s.slotReturns c k else s.retireFaulty c k
    (s.faultOver (c / 4) (clusterBit 0 c)).heldRotation c

/-- LE_SHORT_TEST_COMPLETE (R488). -/
def execLeShortTestComplete (c slot : Nat) (pass : Bool) (s : State) : Host.Outcome State Fault Refusal :=
  .next (settle (if c < 32 ∧ slot < 9 then s.shortTested c slot pass else s))

/-- The Kennel's test ends. A pass leaves it ready; where its repeat followed a hand-over that disagreed, the
outgoing slot is at fault. A failure retires it (R484, R485). -/
def State.kennelTested (s : State) (c : Nat) (pass : Bool) : State :=
  match s.kennelSlot c with
  | none => s
  | some k =>
    if !pass then
      let s := (s.modSlot (9 * c + k) fun x => { x with testOk := false }).retireSlot c k
      (s.clusterFault 1 c k 0 true).faultOver (c / 4) (clusterBit 1 c)
    else
      let was := (s.slot (9 * c + k)).role
      let s := s.modSlot (9 * c + k) fun x => { x with testOk := true, role := some 1 }
      match (s.cluster c).hand with
      | some (o, _) =>
        if was = some 2 then (s.modCluster c fun r => { r with hand := none }).leFault c o else s
      | none => s.heldRotation c

/-- KENNEL_LOGIC_TEST_COMPLETE (R485). -/
def execKennelLogicTestComplete (c : Nat) (pass : Bool) (s : State) : Host.Outcome State Fault Refusal :=
  .next (settle (if c < 32 then s.kennelTested c pass else s))

/-! ## Migration (R492) -/

/-- MIGRATION_SYNTH_LOCKED: the target's synthesizer is locked to the old setting. -/
def execMigrationSynthLocked (h : Nat) (s : State) : Host.Outcome State Fault Refusal :=
  .next (settle (match (s.head h).migration with
    | some m => match m.target with
      | some t => (s.modHead h fun x => { x with migration := some { m with locked := true } }).modSynth t
          fun y => { y with lock := true, fastOk := true, src := 0, loadTo := none }
      | none => s
    | none => s))

/-- MIGRATION_LINK_SWITCH: the link moves to the target's packer, once its synthesizer is locked. -/
def execMigrationLinkSwitch (h : Nat) (s : State) : Host.Outcome State Fault Refusal :=
  .next (settle (match (s.head h).migration with
    | some m => if m.locked then
        (match m.target with
         | some t => (s.endMigration h).heldRotation (t / 4)
         | none => s)
      else s
    | none => s))

/-! ## The ledger (R481) -/

/-- Put an entry into the ledger; when it is full the entry replaces the oldest one that is not permanent, if
there is one. -/
def ledgerPut (l : List (List Nat)) (e : List Nat) : List (List Nat) :=
  if l.length < 1024 then l ++ [e]
  else match l.findIdx? fun x => !entryPerm x with
    | some i => l.set i e
    | none => l

/-- LEDGER_WRITE_COMPLETE: both copies of the ledger hold the repairs made. -/
def execLedgerWriteComplete (s : State) : Host.Outcome State Fault Refusal :=
  .next (settle { s with repair := { s.repair with ledger := s.repair.unwritten.foldl ledgerPut s.repair.ledger, unwritten := [] } })

/-! ## Bureau failover (R494) -/

/-- The active pair of a die fails: the standby pair takes over, or no pair is in service. Whether a lockstep
miscompare was the cause, which bit 0 records, is a free value (R472, assumption 7). -/
def State.bureauFails (s : State) (d : Nat) : State :=
  let b := s.bureau d
  let other := 1 - b.active
  let s := if Config.freeBool s.freeCtr then s.noteBit (dieRec d 0) 0 b.active else s
  let s := { s with freeCtr := s.freeCtr + 1 }
  if b.failedPair.isSome ∨ b.retired.contains other then s.detect (dieRec d 0) 3 b.active true
  else (s.setBureau d { b with active := other, failedPair := some b.active }).detect (dieRec d 0) 1 b.active true

/-- BUREAU_FAILOVER (R494). -/
def execBureauFailover (die : Nat) (s : State) : Host.Outcome State Fault Refusal :=
  .next (settle (if s.dieState die = 1 then s.bureauFails die else s))

/-- The failed pair has passed its self-test and stands by, or is retired (R494); held rotations of the die's
clusters run (R487). -/
def State.pairSelfTested (s : State) (d : Nat) (pass : Bool) : State :=
  match (s.bureau d).failedPair with
  | none => s
  | some p =>
    let s := s.modBureau d fun b => { b with failedPair := none, retired := if pass then b.retired else addTo b.retired p }
    let s := if pass then s.repaired 0x15 false d p (2 * d + p)
      else (s.repaired 0x14 true d p (2 * d + p)).noteBit (dieRec d 0) 2 p
    ((List.range 16).map (16 * d + ·)).foldl State.heldRotation (s.faultOver (dieRec d 0) 1)

/-- BUREAU_PAIR_SELFTEST_COMPLETE (R494). -/
def execBureauPairSelftestComplete (die : Nat) (pass : Bool) (s : State) : Host.Outcome State Fault Refusal :=
  .next (settle (if die < 2 then s.pairSelfTested die pass else s))

/-! ## Hound scrubbing (R496, R497) -/

/-- Requests of the Hound (R323, R405). -/
def houndReq : Req := ⟨7, 56, 0⟩
/-- The Hound's repair of a Mantel copy carries M16 (R408). -/
def houndRepair : Req := ⟨7, 16, 0⟩

/-- Whether an address lies in a buffer. -/
def inBuffer (src : Source) (bases : List Nat) (a : Nat) : Bool :=
  (List.range bases.length).any fun pl => bases.getD pl 0 ≤ a && a < bases.getD pl 0 + planeBytes src pl

/-- The flip-ID word of LAYER.REWRITE for a capture ring's buffer (R95). -/
def stampWord (n : Nat) : Nat := 0x80000000 + n % 2 ^ 31

/-- The word of the buffer of a placed layer that holds an address: its flip ID, or the stamp of a ring's buffer
(R95, R497). -/
def State.rewriteWord (s : State) (l : Layer) (a : Nat) : Option Nat :=
  if l.bindMode = 0 then
    (if l.placed then l.current.bind fun f => if inBuffer l.source f.bases a then some f.id else none else none)
  else
    let i := s.input l.bindInput
    ((List.range i.bufs.length).find? fun b => inBuffer i.ringSource (i.bufs.getD b []) a).map fun b =>
      stampWord (tget (0, 0) i.stamps b).1

/-- Post LAYER.REWRITE for every layer whose buffer holds an address. -/
def State.scrubRewrite (s : State) (a : Nat) : State :=
  s.layers.foldl (fun s e => match s.rewriteWord e.2 a with
    | some w => s.postRewrite e.1 w a
    | none => s) s

/-- Write a block of one Mantel copy from the other, where that is readable (R181). -/
def State.repairCopy (s : State) (a b : Nat) : State :=
  let r := s.readBlock b 64 houndRepair
  if r.1 = .ok then (r.2.2.writeBlock a r.2.1 houndRepair).2 else r.2.2

/-- What follows a scrub read of a block that answers with an error. -/
def State.scrubBad (s : State) (a : Nat) (r : DmaResp) : State :=
  let pa := s.mantel.areaA
  let pb := s.mantel.areaB
  if pa ≤ a ∧ a < pa + copiedBytes then s.repairCopy a (pb + (a - pa))
  else if pb ≤ a ∧ a < pb + copiedBytes then s.repairCopy a (pa + (a - pb))
  else if r = .uncorrectable then s.scrubRewrite a else s

/-- The block after a scrubbed one in the pass over a region's mapped bands; none at its end. -/
def State.scrubNext (s : State) (g d : Nat) : Option Nat :=
  if (s.windowAt g (d + 64)).isSome then some (d + 64)
  else (((s.windowList g).map fun w => w.2.band * bandBytes).filter (d < ·)).foldl
    (fun m x => some (min x (m.getD x))) none

/-- Follow the full pass of a region; its lag is the time beyond the 10 min of a pass (R496, R502). -/
def State.scrubPass (s : State) (g d : Nat) : State :=
  if (s.region g).scrubPos ≠ d then s
  else match s.scrubNext g d with
    | some n => s.modRegion g fun r => { r with scrubPos := n }
    | none => s.modRegion g fun r => { r with
        scrubPos := 0, scrubs := satInc 32 r.scrubs, scrubStart := s.now
        scrubLag := (s.now - r.scrubStart) / 1000000000 - 600 }

/-- Errors that have come up in the words of a block since it was written. -/
def State.upset (s : State) (a : Nat) (flips : List (Nat × BitVec 72)) : State :=
  { s with mem := { s.mem with memory := flips.foldl (fun (m : Memory) f =>
    let w := a / 64 * 8 + f.1 % 8
    m.setErr w (tget 0 m.err w ^^^ f.2)) s.mem.memory } }

/-- One scrub read. -/
def State.scrub (s : State) (a : Nat) (flips : List (Nat × BitVec 72)) : State :=
  let a := a / 64 * 64
  let r := (s.upset a flips).readBlock a 64 houndReq
  let s := r.2.2.scrubPass (a / regionSpan) (a % regionSpan)
  if r.1 = .uncorrectable ∨ r.1 = .poisoned then s.scrubBad a r.1 else s

/-- HOUND_SCRUB_READ (R497). -/
def execHoundScrubRead (addr : Nat) (flips : List (Nat × BitVec 72)) (s : State) : Host.Outcome State Fault Refusal :=
  .next (settle (s.scrub addr flips))

/-! ## Calibration (R498) -/

/-- A thermal reading, kept with the highest since start (R502). -/
def Telem.read (t : Telem) (n : Nat) (v : Int) : Telem :=
  { t with sensors := tset t.sensors n v, sensorMax := tset t.sensorMax n (max v (tget v t.sensorMax n)) }

/-- A sensor more than 5 degrees from the mean of its neighbours. -/
def Telem.astray (t : Telem) (n : Nat) : Bool :=
  let l := Config.sensorNeighbours n
  let k : Int := (l.length : Nat)
  let d := tget 0 t.sensors n * k - l.foldl (fun a i => a + tget 0 t.sensors i) 0
  !l.isEmpty && decide (80 * k < d ∨ d < -80 * k)

/-- CALIBRATION_TICK: readings are cross-checked, and the sinks' symbol errors are read over AUX (R498). -/
def execCalibrationTick (readings : List (Nat × Int)) (symErrs : List (Nat × Nat)) (s : State) :
    Host.Outcome State Fault Refusal :=
  .next (settle (
    let t := (readings.filter fun e => e.1 < 64 && s.dieState (e.1 / 32) = 1).foldl (fun t e => t.read e.1 e.2) s.telem
    let bad := (List.range 64).filter fun n => s.dieState (n / 32) = 1 && t.astray n
    let s := { s with telem := { t with failed := bad.foldl addTo t.failed } }
    (symErrs.filter fun e => s.linkState e.1 = 1 && (s.link e.1).state = 4).foldl (fun s e =>
      s.modLink e.1 fun l => { l with symErrs := e.2 % 2 ^ 32 }) s))

/-! ## Panel wear (R499, R501) -/

/-- One second of a block: its mean luminance in units of 1/1,024, rounded by a free value, and its dwell. -/
def Head.wearBlock (h : Head) (free b : Nat) : Head :=
  let m := tget (0, 1) h.meanLum b
  let q := m.1 / (1024 * max 1 m.2)
  let q := if m.1 % (1024 * max 1 m.2) ≠ 0 ∧ Config.freeBool (free + b) then q + 1 else q
  { h with lum := tset h.lum b (min (2 ^ 32 - 1) (tget 0 h.lum b + q)), dwell := tset h.dwell b (satInc 32 (tget 0 h.dwell b)) }

/-- WEAR_UPDATE_TICK: every head whose timing runs (R499). -/
def execWearUpdateTick (s : State) : Host.Outcome State Fault Refusal :=
  .next (settle (s.heads.foldl (fun s e =>
    if e.2.running then
      { (s.setHead e.1 ((List.range e.2.blocks).foldl (fun h b => h.wearBlock s.freeCtr b) e.2)) with
        freeCtr := s.freeCtr + e.2.blocks }
    else s) s))

/-- A head whose offset has a step to take. -/
def State.orbits (s : State) (h : Nat) : Bool :=
  let d := s.head h
  s.headState h = 1 && d.running && !d.orbitOff && (0 < d.orbitA || d.orbitDx ≠ 0 || d.orbitDy ≠ 0)

/-- Heads that step with a head: its pair partner, and heads of its wall group with equal amplitude and period. -/
def State.orbitWith (s : State) (h : Nat) : List Nat :=
  let d := s.head h
  let same := if d.group < 32 then
    (s.members d.group).filter fun j => (s.head j).orbitA = d.orbitA ∧ (s.head j).orbitP = d.orbitP else []
  (s.pairHeads h ++ same).foldl addTo [h]

/-- WEAR_ORBIT_STEP: the offset of a head, and of those that step with it, has a step to take at its next commit
line (R501). -/
def execWearOrbitStep (h : Nat) (s : State) : Host.Outcome State Fault Refusal :=
  .next (settle (
    if h < 128 ∧ s.orbits h then
      ((s.orbitWith h).filter s.orbits).foldl (fun s j => s.modHead j fun x => { x with orbitStep := true }) s
    else s))

/-! ## Telemetry (R401, R503, R568, R569) -/

/-- Indices of a telemetry set (R502). -/
def setIndices (set : Nat) : Nat := [1, 8, 128, 8, 104, 32].getD set 0

/-- Bytes of a push record. -/
def State.pushRecord (s : State) (set i : Nat) : List Byte :=
  let w := s.telemWords set i
  (([set + 256 * i + 65536 * w.length] ++ words64 s.us ++ [0]) ++ w).flatMap (leBytes 4)

/-- Put bytes into the push ring, going on behind the header at the ring's end (R503). -/
def State.pushBytes (s : State) : Nat → List Byte → State
  | 0, _ => s
  | n + 1, b =>
    if b.isEmpty then s
    else
      let t := s.telem
      let k := min b.length (t.ringSize - t.ringOff)
      let r := (s.write (t.ringBase + t.ringOff) (b.take k) ⟨6, t.pushMaster, 0⟩).2
      let next := if t.ringOff + k < t.ringSize then t.ringOff + k else 64
      State.pushBytes { r with telem := { r.telem with ringOff := next } } n (b.drop k)

/-- One record, and its count. -/
def State.pushOne (s : State) (set i : Nat) : State :=
  let s := (s.pushBytes 4 (s.pushRecord set i)).telemDrawn
  { s with telem := { s.telem with ringN := (s.telem.ringN + 1) % 2 ^ 32 } }

/-- TELEM_PUSH_PERIOD: a record for each unit of each selected set, then the header (R503). -/
def execTelemPushPeriod (s : State) : Host.Outcome State Fault Refusal :=
  .next (settle (
    if s.telem.period = 0 then s
    else
      let s := (bitsOf 6 s.telem.sets).foldl (fun s set =>
        ((List.range (setIndices set)).filter fun i => s.telemUnit set i = 1).foldl (fun s i => s.pushOne set i) s) s
      (s.write s.telem.ringBase (([s.telem.ringOff, s.telem.ringN] ++ List.replicate 14 0).flatMap (leBytes 4))
        ⟨6, s.telem.pushMaster, 0⟩).2))

/-- Judge the junction against one of the fixed limits of R569: the bit holds while the hottest sensor is above
it. -/
def State.junction (s : State) (d bit limit : Nat) (v : Int) : State :=
  let hot := (List.range 32).any fun i =>
    !s.telem.failed.contains (32 * d + i) && (16 * limit : Int) < tget 0 s.telem.sensors (32 * d + i)
  let live := (s.frec (dieRec d 11)).live.getLsbD bit
  if hot ∧ !live then s.detect (dieRec d 11) bit (ofS 8 (v / 16)) true
  else if !hot ∧ live then s.faultOver (dieRec d 11) bit else s

/-- A reading of a thermal sensor. -/
def State.thermalReading (s : State) (n : Nat) (v : Int) : State :=
  if 64 ≤ n ∨ s.dieState (n / 32) ≠ 1 ∨ s.telem.failed.contains n then s
  else
    let s := { s with telem := s.telem.read n v }
    ((s.judgeReading n v).junction (n / 32) 2 100 v).junction (n / 32) 1 105 v

/-- A reading of a region's core rail in mV, with its lowest and highest since start (R502). -/
def State.railReading (s : State) (g : Nat) (v : Int) : State :=
  if s.regionState g ≠ 1 then s
  else
    let n := v.toNat
    let l := tget [] s.telem.rails g
    let row := if l.isEmpty then [n, n, n] else [n, min n (l.getD 1 n), max n (l.getD 2 n)]
    ({ s with telem := { s.telem with rails := tset s.telem.rails g row } }).judgeReading (64 + g) v

/-- TELEM_SENSOR_READING. -/
def execTelemSensorReading (rail : Bool) (idx : Nat) (val : Int) (s : State) : Host.Outcome State Fault Refusal :=
  .next (settle (if rail then s.railReading idx val else s.thermalReading idx val))

end Sys2Proof.Machine
end

