-- ==== Sys2Proof/Machine/Freeze.lean ====
section
/-! DEFINITION. The commit line of a head: flips are selected, and the configuration of the coming frame is frozen
(R60, R63, R143-R158, R196, R197, R218, R254-R265, R501, R539, R540). -/

namespace Sys2Proof.Machine

/-! ## Heads that share a commit line (R63, R76, R145) -/

/-- Heads whose commit line is that of a head: it, its pair partner, and the aligned members of its wall group with
theirs, as far as their timing runs. -/
def State.sharers (s : State) (h : Nat) : List Nat :=
  let d := s.head h
  let g := if d.group < 32 ∧ d.aligned then (s.members d.group).filter fun j => (s.head j).aligned else [h]
  ((g.flatMap s.pairHeads).foldl addTo []).filter fun j => (s.head j).running && (s.head j).coming.isNone && s.headState j = 1

/-- Select for every layer whose lead head has its commit line now (R149, R254). -/
def State.selectAt (s : State) (hs : List Nat) : State :=
  s.layers.foldl (fun s e =>
    match s.leadHead e.1 with
    | some l =>
      if !hs.contains l then s
      else if (s.layer e.1).bindMode = 0 then s.selectFlips e.1 (some l)
      else s.selectRing e.1 (some l)
    | none => s) s

/-! ## Orbit (R218, R501) -/

/-- The offset after one step: along x to (A, 0), then clockwise round the square as the panel shows it; inwards
from outside the square, and back to (0, 0) with amplitude 0. -/
def orbitNext (a dx dy : Int) (mirror : Bool) : Int × Int :=
  let towards (v : Int) : Int := if 0 < v then v - 1 else v + 1
  if a = 0 then (if dx ≠ 0 then (towards dx, dy) else if dy ≠ 0 then (dx, towards dy) else (dx, dy))
  else if a < dx ∨ dx < -a then (towards dx, dy)
  else if a < dy ∨ dy < -a then (dx, towards dy)
  else if dx < a ∧ -a < dx ∧ dy < a ∧ -a < dy then (dx + 1, dy)
  else
    -- on the square: y runs downwards on the canvas
    let y := if mirror then -dy else dy
    let p : Int × Int :=
      if dx = a ∧ y < a then (dx, y + 1)
      else if y = a ∧ -a < dx then (dx - 1, y)
      else if dx = -a ∧ -a < y then (dx, y - 1)
      else (dx + 1, y)
    (p.1, if mirror then -p.2 else p.2)

/-- Take the orbit step that waits. -/
def Head.orbit (h : Head) : Head :=
  if h.orbitStep then
    let o := orbitNext (h.orbitA : Nat) h.orbitDx h.orbitDy h.mirror
    { h with orbitDx := o.1, orbitDy := o.2, orbitStep := false }
  else h

/-- A head with its viewport moved by its orbit offset, inside the usable window. -/
def State.orbited (s : State) (d : Head) : Head :=
  let v := d.view
  { d with ox := (clampI (s.wx : Nat) ((s.wx + s.usableW - max 1 v.w : Nat) : Int) ((d.ox : Int) + d.orbitDx)).toNat
           oy := (clampI (s.wy : Nat) ((s.wy + s.usableH - max 1 v.h : Nat) : Int) ((d.oy : Int) + d.orbitDy)).toNat }

/-- Whether a tile of class 1 or 2 lies in a viewport under the version that a head is to show. -/
def State.tilesIn (s : State) (h : Nat) (v : View) : Bool :=
  v.tiles.any fun t => tileClass (s.ctmAt (s.ctmFor h) t.1 t.2) ≠ 0

/-- An orbiting head that comes to show a Mantel tile stops: its offset is 0 from this frame, and WEAR.SUSPENDED is
posted (R218). -/
def State.orbitHead (s : State) (h : Nat) : State :=
  let d := (s.head h).orbit
  let s := s.setHead h d
  if (d.orbitDx = 0 ∧ d.orbitDy = 0 ∧ d.orbitA = 0) ∨ d.orbitOff ∨ !d.armed ∨ !s.tilesIn h (s.orbited d).view then s
  else (s.setHead h { d with orbitDx := 0, orbitDy := 0, orbitOff := true }).postU 0x1380 (s.scopeOf 4 h) [h, d.comingSeq]

/-! ## What a layer shows (R152, R258-R265) -/

/-- What a policy shows in place of a buffer that is not valid: nothing, or the fill. -/
def Layer.invalid (l : Layer) : Nat := if l.policy = 1 then 1 else 2

/-- Whether an input delivers a picture that its bound layers may show: acquired, and not held. -/
def Input.delivers (i : Input) : Bool := i.acquired && i.reason = 0

/-- Whether a direct layer's feed is on in the coming frame of a head: the stream is good and the head's Heel is
LOCKED, so that Δ holds (R265). -/
def State.feedOn (s : State) (l : Layer) (h : Nat) : Bool := (s.input l.bindInput).delivers && (s.heelOf h).state = 3

/-- What a layer shows in a frame: 0 its buffer, 1 the fill, 2 nothing, 3 the direct feed, 4 the no-signal fill. -/
def State.showCode (s : State) (l : Layer) (h : Nat) : Nat :=
  let buffer := l.current.isSome
  let policy := if buffer then l.policy else l.invalid
  if l.bindMode = 0 then (if buffer && !l.late then 0 else policy)
  else if l.bindMode = 2 ∧ s.feedOn l h then 3
  else if l.nosignal then 4
  else if l.bindMode = 1 ∧ (s.input l.bindInput).delivers ∧ buffer then 0
  else policy

/-- A layer as a head's coming frame shows it. -/
def State.freezeLayer (s : State) (h li : Nat) : FrozenLayer :=
  let l := s.layer li
  let shows := s.showCode l h
  let f := l.current.getD {}
  { id := li, shows, bases := f.bases, serial := f.serial
    cfg := if l.bindMode = 2 ∧ shows = 0 then { l with source := (s.input l.bindInput).ringSource } else l
    flip := if l.bindMode = 0 then f.id else stampWord f.capStamp
    lm := (l.dyn.map (·.1)).getD l.colour.lm, knee := (l.dyn.map (·.2)).getD l.colour.knee
    palette := tget [] s.palettes li }

/-- Put a layer into stacking order: by z, then by layer ID (R60). -/
def stackIn (x : FrozenLayer) : List FrozenLayer → List FrozenLayer
  | [] => [x]
  | a :: t =>
    if x.cfg.applied.z < a.cfg.applied.z ∨ (x.cfg.applied.z = a.cfg.applied.z ∧ x.id < a.id) then x :: a :: t
    else a :: stackIn x t

/-- The ordinary layers of a head's coming frame, bottom to top. -/
def State.stack (s : State) (h : Nat) (d : Head) : List FrozenLayer :=
  (s.layers.filter fun e => e.2.meets d).foldl (fun a e => stackIn (s.freezeLayer h e.1) a) []

/-! ## Deep pairs (R539, R540) -/

/-- Links in state UP on a head's die that lead to another package. -/
def State.upLinks (s : State) (h : Nat) : List Nat :=
  (List.range 4).map (4 * (h / 64) + ·) |>.filter fun b => s.birtonUp b && (s.birton b).partner.isSome

/-- The head of another package that a head may be paired with: the one that it heels to, which makes it the
partner Hq, or one that heels to it, of which nothing is known here (R539; assumption 7). A pair that is formed
outlives its link (R543, R544). -/
def State.deepPeer (s : State) (h : Nat) : Option (Nat × Bool) :=
  let d := s.head h
  let l := s.heel h
  let leads (p : Nat) : Bool := (s.upLinks h).any fun b => ((s.birton b).partner.map (·.pkg)) = some p
  if l.leader = .head ∧ 1024 ≤ l.idx then
    (if (leads (l.idx / 128 - 8) ∨ d.deep = some (l.idx - 1024) ∧ !d.deepOwner) ∧ l.m = 1 ∧ l.d = 1 ∧ d.bind.link = 255 ∧ d.pair.isNone ∧ 32 ≤ d.group ∧ !d.armed then
      some (l.idx - 1024, false) else none)
  else
    match d.deepOwner, d.deep, (s.upLinks h).findSome? fun b => (s.birton b).partner.map (·.pkg) with
    | true, some j, _ => some (j, true)
    | _, _, some p => some (128 * p + (Config.freeWord (s.freeCtr + 1)).toNat % 128, true)
    | _, _, none => none

/-- Form, keep or dissolve a head's deep pair. Conditions that the other package holds are free values; the offset
of the partner's Heel is two line periods of Hp (R539; assumption 7). -/
def State.deepStep (s : State) (h : Nat) : State :=
  let d := s.head h
  match s.deepPeer h with
  | none => if d.deep.isNone then s else s.modHead h fun d => { d with deep := none, deepOwner := false }
  | some (j, owner) =>
    let free := s.freeCtr
    let s : State := { s with freeCtr := free + 2 }
    let kept := d.deep = some j ∧ d.deepOwner = owner ∧ (s.pairLink h (j / 128)).isNone
    if kept ∨ Config.freeBool free then
      let s := s.modHead h fun d => { d with deep := some j, deepOwner := owner }
      if owner then s
      else match d.mode with
        | some m => s.modHeel h fun l => { l with offset := (2 * m.htot * 1000000000 / max 1 m.rate : Nat) }
        | none => s
    else s.modHead h fun d => { d with deep := none, deepOwner := false }

/-- The layers of a stack that a head of a deep pair draws: the top 16 in the owner's package, the rest in the
partner's (R540). -/
def Head.ownStack (d : Head) (l : List FrozenLayer) : List FrozenLayer :=
  if d.deep.isNone then l else if d.deepOwner then l.drop (l.length - 16) else l.take (l.length - 16)

/-! ## The commit line (R146, R158) -/

/-- What waits for a head's commit line beside its layers: arming, the sealed version, a calibration LUT, and the
release of a head action (R136, R196, R197, R213). -/
def Head.atCommit (d : Head) : Head :=
  { d with
    armed := d.pendingArm.getD d.armed, pendingArm := none, switched := true, lut := d.staged.getD d.lut, staged := none
    pendingAction := if d.releasing then some 0 else d.pendingAction, releasing := false }

/-- The configuration of a head's coming frame. -/
def State.frozenOf (s : State) (h : Nat) : Frozen :=
  let d := s.orbited (s.head h)
  let v := s.shownBy h
  { ox := d.ox, oy := d.oy, orient := d.orient, mirror := d.mirror, colour := d.colour
    layers := d.ownStack (s.stack h d)
    coefSets := s.coefSets, eotf := s.eotf, tone := s.tone, armed := d.armed, version := v.1, buf := v.2.1, overlay := v.2.2
    seq := d.comingSeq, cap := d.cap, deepRole := if d.deep.isNone then 0 else if d.deepOwner then 1 else 2 }

/-- Freeze the coming frame of a head. Its cluster is awake by then (R27); a direct layer that is fed again drops its
no-signal fill (R259, R265). -/
def State.freezeHead (s : State) (h : Nat) : State :=
  let s := ((s.modHead h Head.atCommit).orbitHead h).deepStep h
  let f := s.frozenOf h
  let s := (s.modHead h fun d => { d with coming := some f }).modCluster (h / 4) fun r => { r with gated := false }
  f.layers.foldl (fun s x =>
    if x.shows = 3 then (s.modLayer x.id fun l => { l with nosignal := false }).setDelta x.id else s) s

/-- The commit line of a head, and of every head that shares it. -/
def State.commitLine (s : State) (h : Nat) : State :=
  let hs := s.sharers h
  let s := hs.foldl State.freezeHead (s.selectAt hs)
  let s := (hs.foldl (fun a j => addTo a (j / 4)) []).foldl (fun t c => t.modCluster c fun r => { r with assign := t.spansNow c }) s
  { s with framed := true }

/-- HEAD_COMMIT_LINE (R144, R146). One that comes again before its frame has begun changes nothing. -/
def execHeadCommitLine (h : Nat) (s : State) : Host.Outcome State Fault Refusal :=
  .next (settle (
    let d := s.head h
    if h < 128 ∧ s.headState h = 1 ∧ d.running ∧ d.coming.isNone then s.commitLine h else s))

end Sys2Proof.Machine
end

