-- ==== Sys2Proof/Machine/Compose.lean ====
section
/-! DEFINITION. One line of a head: what the Blender supplies and what the Mantel Engines compose (R53, R132, R134,
R171-R173, R182-R198, R488, R493, R500, R542). -/

namespace Sys2Proof.Machine

/-! ## Mantel content that an engine holds for a frame (R182, R187-R190) -/

/-- Mantel content is unreadable in both copies (R469). -/
def State.contentLost (s : State) (h : Nat) : State := s.clusterFault 5 (h / 4) (h % 4) 0

/-- Read an item of the Mantel content for a head's frame; one that is unreadable in both copies leaves the copy that
the engine holds (R182). -/
def State.holdItem (s : State) (h off n : Nat) (put : Head → List Byte → Head) : State :=
  let r := s.mantelRead off n
  if r.2.1 then r.2.2.modHead h fun d => put d r.1
  else (r.2.2.modHead h fun d => { d with contentFault := true }).contentLost h

/-- Entry `i` of `n` bytes in a byte string. -/
def entryOf (n i : Nat) (b : List Byte) : Nat := ofLe ((b.drop (n * i)).take n)

/-- A sprite is on (R189). -/
def spriteOn (v : Nat) : Bool := bit v 102
/-- Palette bank of a sprite. -/
def spriteBank (v : Nat) : Nat := bits v 99 96
/-- Replication of a sprite. -/
def spriteRep (v : Nat) : Nat := bits v 101 100 + 1

/-- Palette banks that the sprites of a head use. -/
def Head.banks (d : Head) : List Nat :=
  (d.heldSprites.filter (spriteOn ·.2)).foldl (fun a e => addTo a (spriteBank e.2)) []

/-- The sprite list of a head in the version shown. -/
def State.holdSprites (s : State) (h : Nat) (f : Frozen) : State :=
  let n := tget 0 s.mantel.lens (2 * h + f.buf)
  s.holdItem h (spriteAt f.buf h) (16 * n) fun d b =>
    { d with heldSprites := (List.range n).map fun i => (i, entryOf 16 i b), heldCount := n }

/-- A palette bank of the version shown. -/
def State.holdBank (s : State) (h : Nat) (f : Frozen) (k : Nat) : State :=
  s.holdItem h (paletteAt f.buf k) 2048 fun d b =>
    { d with heldPalette := tsetMany d.heldPalette ((List.range 256).map fun i => (256 * k + i, entryOf 8 i b)) }

/-- The backdrop and fault colours of the version shown. -/
def State.holdColours (s : State) (h : Nat) (f : Frozen) : State :=
  s.holdItem h (coloursAt f.buf h) 136 fun d b => { d with heldBackdrop := (List.range 17).map fun i => (i, entryOf 8 i b) }

/-- An armed head's engine takes its Mantel content for a frame. -/
def State.holdMantel (s : State) (h : Nat) (f : Frozen) : State :=
  if f.armed then
    let s := (s.holdSprites h f).holdColours h f
    (s.head h).banks.foldl (fun s k => s.holdBank h f k) s
  else s

/-- A 12-bit value reduced to depth `n` (R188). -/
def reduce12 (n v : Nat) : Nat := v / 2 ^ (12 - n)

/-- The reduced components of a palette entry or colour (R187, R188). -/
def colour12 (n v : Nat) : List Nat := [reduce12 n (bits v 11 0), reduce12 n (bits v 27 16), reduce12 n (bits v 43 32)]

/-- The fault colour that a head's engine holds; its reset value before it has held one (R187). -/
def Head.faultColour (d : Head) : Nat := tget 0xFFF00000FFF d.heldBackdrop 16

/-! ## The Canvas Tile Map of a line (R27, R192, R193, R196) -/

/-- Index of a canvas tile in the map (R192). -/
def State.tileIndex (s : State) (cx cy : Nat) : Nat := (cy / 8 - s.wy / 8) * 4096 + (cx / 8 - s.wx / 8)

/-- Fetch the 64-byte block of 32 map entries that holds one, once per frame. -/
def State.ctmFetch (s : State) (h : Nat) (f : Frozen) (b : Nat) : State :=
  if (tfind (s.head h).ctmCache b).isSome then s
  else
    let r := s.mantelBlock (ctmPart + 64 * b) 64
    let ops := if f.overlay then s.mantel.sealedCtm else []
    let v := r.1.map fun d => (List.range 32).foldr (fun i a => a * 65536 + (ctmOverlay ops (32 * b + i)).getD (entryOf 2 i d)) 0
    let t := r.2.modHead h fun d => { d with ctmCache := tset d.ctmCache b v, ctmFault := d.ctmFault || v.isNone }
    if v.isNone then t.contentLost h else t

/-- A map entry that a head has fetched; none where it is unreadable in both copies. -/
def Head.ctmEntry (d : Head) (i : Nat) : Option Nat :=
  ((tfind d.ctmCache (i / 32)).getD none).map fun v => v / 2 ^ (16 * (i % 32)) % 65536

/-! ## Sprites (R190, R191) -/

/-- A sprite is on and covers a canvas pixel. -/
def spriteCovers (v cx cy : Nat) : Bool :=
  let r := spriteRep v
  spriteOn v && bits v 79 64 ≤ cx && cx < bits v 79 64 + bits v 47 32 * r &&
    bits v 95 80 ≤ cy && cy < bits v 95 80 + bits v 63 48 * r

/-- Atlas offset that a sprite shows at a canvas pixel. -/
def spriteAtlas (v cx cy : Nat) : Nat :=
  let r := spriteRep v
  (bits v 31 16 + (cy - bits v 95 80) / r) * 4096 + bits v 15 0 + (cx - bits v 79 64) / r

/-- Sprites of a head that cover a canvas pixel, highest index first. -/
def Head.spritesAt (d : Head) (cx cy : Nat) : List Nat :=
  ((d.heldSprites.filter fun e => e.1 < d.heldCount && spriteCovers e.2 cx cy).map (·.2)).reverse

/-- Atlas blocks of a line, each read once; none where a block is unreadable in both copies. -/
abbrev Atlas := Tab (Option (List Byte))

/-- Read an atlas block for a line. -/
def State.atlasFetch (a : State × Atlas) (h b : Nat) : State × Atlas :=
  if (tfind a.2 b).isSome then a
  else
    let r := a.1.mantelBlock (64 * b) 64
    let t := if r.1.isNone then (r.2.modHead h fun d => { d with contentFault := true }).contentLost h else r.2
    (t, tset a.2 b r.1)

/-- Reduced palette colour and alpha that a sprite gives a pixel; the opaque fault colour where its block is
unreadable (R182). -/
def Head.spritePixel (d : Head) (n : Nat) (atlas : Atlas) (v cx cy : Nat) : List Nat × Nat :=
  let o := spriteAtlas v cx cy
  match (tfind atlas (o / 64)).getD none with
  | none => (colour12 n d.faultColour, 2 ^ n - 1)
  | some b =>
    let e := tget 0 d.heldPalette (256 * spriteBank v + (b.getD (o % 64) 0).toNat)
    (colour12 n e, reduce12 n (bits e 59 48))

/-- The palette colour and alpha over a pixel: those of the highest sprite whose reduced alpha is not 0. -/
def Head.overPixel (d : Head) (n : Nat) (atlas : Atlas) (cx cy : Nat) : List Nat × Nat :=
  (((d.spritesAt cx cy).map fun v => d.spritePixel n atlas v cx cy).find? (·.2 ≠ 0)).getD ([0, 0, 0], 0)

/-! ## The Blender's sources (R134, R171, R488) -/

/-- What a layer gives the Blender for a pixel. -/
inductive Supply where
  /-- It does not cover the pixel. -/
  | clear
  | pixel (p : LePix)
  /-- The output of the LE that should supply it is withheld. -/
  | held
  /-- It has not arrived. -/
  | missing
  deriving DecidableEq, Repr

/-- The LE slot that supplies a layer's pixel `off` of its head part. -/
def ClusterRep.slotOf (r : ClusterRep) (h li off : Nat) : Option Nat :=
  ((r.assign.filter fun e => e.1 = h && e.2.1 = li && e.2.2.1 ≤ off).foldl (fun (b : Option (Nat × Nat)) e =>
    match b with
    | some x => if x.1 ≤ e.2.2.1 then some (e.2.2.1, e.2.2.2) else b
    | none => some (e.2.2.1, e.2.2.2)) none).map (·.2)

/-- What one layer gives the Blender along a line of a head. -/
def State.supplies (s : State) (h line wa : Nat) (hd : Head) (f : Frozen) (x : FrozenLayer) : List Supply :=
  match x.cfg.part x.id h hd with
  | none => List.replicate wa .clear
  | some p =>
    let ks := (List.range wa).map fun px => p.counts hd px line
    let lo := (ks.findIdx? (·.isSome)).getD 0
    let got : Option LeLine :=
      if x.shows = 2 then none
      else if x.shows = 3 then some (s.layerLine hd f x p line wa)
      else hd.leLines.find? fun e => e.layer = x.id && e.line = line
    let cl := s.cluster (h / 4)
    let src : List (Option LePix) := match got with
      | some g => g.px
      | none => []
    (ks.zip ((src ++ List.replicate (wa - src.length) none).zip (List.range wa))).map fun e =>
      if e.1.isNone ∨ x.shows = 2 then .clear
      else if !hd.withheld.isEmpty && ((cl.slotOf h x.id (e.2.2 - lo)).any fun k => hd.withheld.contains k) then .held
      else if got.isNone || got.any (·.missing.contains e.2.2) then .missing
      else match e.2.1 with
        | some q => .pixel q
        | none => .clear

/-- The Blender's output for a pixel; none where a layer's data has not arrived. A layer whose output is withheld
gives the whole pixel the output of the head's previous line (R488). -/
def blendAt (cap : Nat) (bg : List Nat) (prev : Option (List Nat)) (l : List Supply) : Option (List Nat) :=
  if l.any fun e => e = .held then prev
  else l.foldl (fun acc e => match e with
    | .pixel p => acc.map fun a => blend cap a p
    | .missing => none
    | _ => acc) (some bg)

/-- Lists of what several layers give, turned into one list of supplies per pixel. -/
def byPixel (wa : Nat) (l : List (List Supply)) : List (List Supply) :=
  l.foldr (fun r acc => (r.zip acc).map fun e => e.1 :: e.2) (List.replicate wa [])

/-- A composite line that has come whole: its words (R541, R543). -/
def Head.wholeLine (d : Head) (line wa : Nat) : Option (List Nat) :=
  (tfind d.composite line).filter fun w => w.length = 9 * ceilDiv wa 8

/-- A component of a pixel of a composite line: 72 bits a pixel, 24 a component (R541). -/
def compositeAt (w : List Nat) (px k : Nat) : Nat :=
  let o := 72 * px + 24 * k
  (w.getD (o / 64) 0 + 2 ^ 64 * w.getD (o / 64 + 1) 0) / 2 ^ (o % 64) % 2 ^ 24

/-- The pixel that lies under every layer: the composite of a deep pair where its line has come, else the background
(R542, R543). -/
def Head.under (d : Head) (f : Frozen) (line wa px : Nat) : List Nat :=
  match f.deepRole, d.wholeLine line wa with
  | 1, some l => (List.range 3).map (compositeAt l px)
  | _, _ => f.colour.bg

/-! ## The line (R171, R183, R500) -/

/-- The map entries of a line, fetched where the head is armed. -/
def State.tilesOn (s : State) (h : Nat) (f : Frozen) (at' : List (Nat × Nat)) : State :=
  if f.armed then
    (at'.foldl (fun a c => addTo a (s.tileIndex c.1 c.2 / 32)) []).foldl (fun s b => s.ctmFetch h f b) s
  else s

/-- Class, group, backdrop index and whether the entry is unreadable, of a canvas pixel on a head (R192, R193). -/
def State.tileOn (s : State) (h : Nat) (f : Frozen) (c : Nat × Nat) : Nat × Nat × Nat × Bool :=
  if !f.armed then (0, 0, 0, false)
  else match (s.head h).ctmEntry (s.tileIndex c.1 c.2) with
    | none => (1, 0, 0, true)
    | some e => (tileClass e, bits e 7 0, bits e 11 8, false)

/-- Fetch the atlas blocks of the sprites over a line's Mantel tiles. -/
def State.atlasOn (s : State) (h : Nat) (at' : List (Nat × Nat)) : State × Atlas :=
  (at'.foldl (fun a c => ((s.head h).spritesAt c.1 c.2).foldl (fun a v => addTo a (spriteAtlas v c.1 c.2 / 64)) a) []).foldl
    (fun a b => State.atlasFetch a h b) (s, [])

/-- Compose a line of a head up to the packer: the Blender's output, and for each Mantel pixel what lies over it. -/
def State.composeLine (s : State) (h line : Nat) (f : Frozen) (m : Mode) : State :=
  let hd := (s.head h).asFrozen f
  let n := hd.depth
  let at' := (List.range m.wa).map fun px => hd.canvasOf px line
  let s := s.tilesOn h f at'
  let cls := at'.map (s.tileOn h f)
  let a := s.atlasOn h (((at'.zip cls).filter fun e => e.2.1 ≠ 0 && !e.2.2.2.2).map (·.1))
  let s := a.1
  let d := s.head h
  let passing : List (List Supply) :=
    if f.deepRole = 1 ∧ ((s.cluster (h / 4)).slotOf h compositeLayer m.wa).any d.withheld.contains then
      [List.replicate m.wa .held] else []
  let sup := byPixel m.wa (passing ++ f.layers.map (s.supplies h line m.wa hd f))
  let awake := s.clusterState (h / 4) = 1
  let pix := ((at'.zip cls).zip (sup.zip (List.range m.wa))).map fun e =>
    let (c, k) := e.1
    let cap := if f.cap = 0 ∨ k.1 ≠ 0 then 16777215 else f.cap
    let ov := if k.1 = 0 then ([0, 0, 0], 0)
      else if k.2.2.2 then (colour12 n d.faultColour, 2 ^ n - 1) else d.overPixel n a.2 c.1 c.2
    ({ acc := if awake then blendAt cap ((d.under f line m.wa e.2.2).map (min cap)) d.outLine[e.2.2]? e.2.1 else none
       cls := k.1, group := k.2.1, bad := k.2.2.2, tx := c.1 / 8, ty := c.2 / 8, cx := c.1, cy := c.2
       b := colour12 n (tget 0 d.heldBackdrop k.2.2.1), m := ov.1, alpha := ov.2 } : LinePix)
  s.modHead h fun d => { d with
    line, lineNow := pix, linePolicy := d.policy, lineColour := d.urColour
    leLines := d.leLines.filter (·.line ≠ line), composite := tdel d.composite line }

end Sys2Proof.Machine
end

