-- ==== Sys2Proof/Machine/Power.lean ====
section
/-! DEFINITION. Power states, sleep and wake, supplies, resets, and the steps of a start (R344, R477-R481,
R507-R521, R555-R558, R569). -/

namespace Sys2Proof.Machine

/-! ## Head timing ends (R510, R574) -/

/-- The next line of a head starts: its underrun is over (R470). -/
def State.underrunOver (s : State) (h : Nat) : State :=
  if (s.head h).urLine.isNone then s
  else
    let s := s.modHead h fun d => { d with urLine := none }
    if (List.range 4).any fun k => (s.head (h / 4 * 4 + k)).urLine.isSome then s
    else s.faultOver (h / 16) (clusterBit 6 (h / 4))

/-- A head's timing stops; every change that waited for a commit line or a blanking takes effect. A cluster whose
last head stops is power-gated (R27). -/
def State.stopHead (s : State) (h : Nat) : State :=
  let s := s.underrunOver h
  let d := s.head h
  let s := match d.pendingMode with
    | some m => (s.setHead h (d.takeMode m)).tunePixel h
    | none => s
  let s := s.modHead h fun d =>
    { d with running := false, streaming := false, inFrame := false, frozen := none, coming := none, lineNow := [], leLines := []
             outLine := [], tiles := [], urLine := none, urFirst := none, bind := d.bindP, pendingBind := none
             depth := d.pendingDepth.getD d.depth, pendingDepth := none, armed := d.pendingArm.getD d.armed
             pendingArm := none, lut := d.staged.getD d.lut, staged := none, switched := true, stretch := none, stretching := false
             stretchPx := 0 }
  if s.drives (h / 4) then s else s.modCluster (h / 4) fun r => { r with gated := true }

/-- The timing of every running head stops. -/
def State.stopHeads (s : State) : State := s.heads.foldl (fun s e => if e.2.running then s.stopHead e.1 else s) s

/-! ## Asleep (R509, R510, R519) -/

/-- The cascade of a package whose links go down. -/
def Casc.down (c : Casc) : Casc :=
  { links := c.links.map fun e => (e.1, { signal := e.2.signal }), ceiling := c.ceiling, deputy := c.deputy, gen := c.gen }

/-- Enter READY-RETAIN: heads restart from 0 later, lanes go idle, REFCLK and the synthesizers stop, HBM is in
self-refresh. -/
def State.enterRetain (s : State) : State :=
  let s := s.stopHeads
  let pcs := (List.range 128).foldl (fun t p => tmod {} t p fun c => { c with selfRef := true }) s.mem.pcs
  let doors := (List.range (s.regs.numVfs + 1)).foldl (fun t fn => tmod {} t fn fun d => { d with d3hot := true }) s.regs.doors
  { s with
    heads := s.heads.map fun e => (e.1, { e.2 with
      seq := 0, refs := [], counters := [0, 0, 0, 0, 0], fired := [false, false, false, false, false], testCrcs := [] })
    links := s.links.map fun e => (e.1, if e.2.enabled then e.2.into 1 else e.2)
    inputs := s.inputs.map fun e => (e.1, { e.2 with hpd := false, trained := none, state := 0, reason := 0, acquired := false, good := 0, writing := false })
    audio := s.audio.map fun e => (e.1, e.2.unacquire)
    clk := { s.clk with
      refOn := false, refLost := false, refBad := 0, refGood := 0
      synths := s.clk.synths.map fun e => (e.1, { e.2 with lock := false, src := 3, ramp := none, agree := 0, disagree := 0 })
      heels := s.clk.heels.map fun e => (e.1, { e.2 with state := 0, periods := [], applied := [], lastEvent := none })
      genlock := { s.clk.genlock with state := 0, valid := false, last := none, good := 0, sum := 0 } }
    mem := { s.mem with pcs }
    regs := { s.regs with doors }
    casc := s.casc.down
    pwr := { s.pwr with lanesIdle := true } }

/-- A port of which only the number of its discarded events is left. -/
def Port.forgotten (q : Port) : Port :=
  let ev := (q.out.filter fun o => !o.isReply) ++ q.record.flatMap (·.2)
  ev.foldl Port.noteLost { lostN := q.lostN, lostMask := q.lostMask }

/-- Enter STANDBY: everything but the always-on domain takes its reset value, and undelivered events are
counted for DEV.EVENTLOST. -/
def State.enterStandby (s : State) : State :=
  let r := s.chipReset 0 0 0
  { r with
    ports := s.ports.map fun e => (e.1, e.2.forgotten)
    faults := { errLow := s.faults.errLow, barkEnd := s.faults.barkEnd, pulseDone := s.faults.pulseDone }
    pwr := { s.pwr with lanesIdle := true } }

/-! ## Transitions (R382, R510, R511) -/

/-- A target that ends head output. -/
def PState.quiet (t : PState) : Bool := t = .ready || t.sleep

/-- Whether a decided transition can complete: head frames have ended; before a sleep, commands in progress
are completed and replies are delivered. -/
def State.mayMove (s : State) (t : PState) : Bool :=
  (!t.quiet || s.heads.all fun e => !e.2.inFrame) &&
  (!t.sleep || (List.range 19).all fun p =>
    !s.portLive p || ((s.port p).running.isEmpty && (s.port p).held.isEmpty && !(s.port p).out.any OutPkt.isReply))

/-- Commands in progress on the M-port reply BUSY when SERVICE ends. -/
def State.leaveService (s : State) : State :=
  ((s.port 17).held ++ (s.port 17).running).foldl (fun s c => s.finish 17 c [replyWord stBusy false 0])
    (s.modPort 17 fun q => { q with held := [] })

/-- A wake begins (R512, R513, R519, R520). -/
def State.beginWake (s : State) (bit : Nat) : State :=
  let p := { s.pwr with lastWake := bit, wakeBits := 2 ^ bit, target := none, pendingWake := false }
  if s.pwr.state = .standby then
    { s with pwr := { p with
        state := .ready, from_ := .standby, supEn := true, start := { kind := 1, origin := s.now }
        step := if s.pwr.switchedGood then .reference else .supplies } }
  else
    { s with pwr := { p with state := .ready, start := { kind := 2, origin := s.now }, step := .reference } }

/-- A transition completes: PWR.STATE is posted, and a wake that arrived meanwhile begins at once. -/
def State.moveTo (s : State) (t : PState) : State :=
  let old := s.pwr.state
  let s := if old = .service then s.leaveService else s
  let s := if t = .ready then s.stopHeads else s
  let s := s.postU 0x0280 s.scopePkg [old.code, t.code, s.pwr.cause]
  let s := match t with
    | .retain => s.enterRetain
    | .standby => s.enterStandby
    | _ => s
  let s := { s with pwr := { s.pwr with
    state := t, from_ := old, target := none, service := t = .service, boundary := [] } }
  if t.sleep ∧ s.pwr.pendingWake then s.beginWake s.pwr.lastWake else s

/-- POWER_TRANSITION_COMPLETE (R510). -/
def execPowerTransitionComplete (s : State) : Host.Outcome State Fault Refusal :=
  .next (settle (match s.pwr.target with
    | some t => if s.mayMove t then s.moveTo t else s
    | none => s))

/-! ## Wake sources (R383, R512, R513) -/

/-- A wake source fires. -/
def State.wake (s : State) (b : Nat) : State :=
  if 6 ≤ b ∨ !bit s.pwr.wakeMask b then s
  else if s.pwr.state = .standby ∨ s.pwr.state = .retain then s.beginWake b
  else
    let mark (w : Nat) : Nat := if bit w b then w else w + 2 ^ b
    let p := { s.pwr with wakeNow := mark s.pwr.wakeNow }
    match s.pwr.target with
    | some .standby => { s with pwr := { p with pendingWake := true, lastWake := if p.pendingWake then p.lastWake else b } }
    | some .retain => { s with pwr := { p with pendingWake := true, lastWake := if p.pendingWake then p.lastWake else b } }
    | _ =>
      if s.pwr.step ≠ .done ∧ (s.pwr.start.kind = 1 ∨ s.pwr.start.kind = 2) then
        { s with pwr := { p with wakeBits := mark s.pwr.wakeBits } }
      else { s with pwr := p }

/-- WAKE_EVENT (R512). -/
def execWakeEvent (bit : Nat) (s : State) : Host.Outcome State Fault Refusal := .next (settle (s.wake bit))

/-! ## Supplies (R513, R555, R556) -/

/-- OFF: everything is lost but the non-volatile stores; power-on reset is asserted and ERR_N is low. -/
def State.powerOff (s : State) : State :=
  let r := s.chipReset 0 0 0
  { r with
    mem := { r.mem with cachePtr := 0 }
    faults := { errLow := true }
    pwr := { state := .off, step := .done, supEn := false, aoIoGood := s.pwr.aoIoGood, switchedGood := false, por := true
             lanesIdle := true } }

/-- AO_IO_RAILS_GOOD: VDD_AO and VDD_IO are in their windows, and SUP_EN rises (R555). -/
def execAoIoRailsGood (s : State) : Host.Outcome State Fault Refusal :=
  .next (settle (if s.pwr.aoIoGood then s
    else { s with pwr := { s.pwr with aoIoGood := true, supEn := true, step := .supplies } }))

/-- AO_IO_RAIL_LOSS: power-on reset is asserted at once (R556). -/
def execAoIoRailLoss (s : State) : Host.Outcome State Fault Refusal :=
  .next (settle ({ s with pwr := { s.pwr with aoIoGood := false } }).powerOff)

/-- LAST_SUPPLY_IN_REGULATION: the origin of a cold start (R515, R555). -/
def execLastSupplyInRegulation (s : State) : Host.Outcome State Fault Refusal :=
  .next (settle (
    if !s.pwr.aoIoGood ∨ !s.pwr.supEn then s
    else
      let s := { s with pwr := { s.pwr with switchedGood := true } }
      if s.pwr.step ≠ .supplies then s
      else if s.pwr.por then { s with pwr := { s.pwr with start := { origin := s.now } } }
      else { s with pwr := { s.pwr with step := .reference } }))

/-- SUP_EN_DROP: SUP_EN falls 1 ms after STANDBY is entered (R555). -/
def execSupEnDrop (s : State) : Host.Outcome State Fault Refusal :=
  .next (settle (if s.pwr.state = .standby then
    { s with pwr := { s.pwr with supEn := false, switchedGood := false } } else s))

/-- SWITCHED_RAIL_TIMEOUT: a wake whose rails do not come back returns to STANDBY (R556). -/
def execSwitchedRailTimeout (s : State) : Host.Outcome State Fault Refusal :=
  .next (settle (if s.pwr.step = .supplies ∧ !s.pwr.por ∧ !s.pwr.switchedGood then
    ({ s with pwr := { s.pwr with state := .standby, step := .done, supEn := false } }).noteBit (dieRec 0 11) 0 0
  else s))

/-- RAIL_OUT_OF_RANGE: in operation the fault is raised; in READY-RETAIN the loss of a supply leads to OFF
(R513, R556). -/
def execRailOutOfRange (rail : Nat) (s : State) : Host.Outcome State Fault Refusal :=
  .next (settle (
    if s.pwr.por ∨ s.pwr.state = .off then { s with pwr := { s.pwr with switchedGood := false } }
    else if s.pwr.state = .retain then s.powerOff
    else if s.pwr.state = .standby ∨ s.pwr.step = .supplies then { s with pwr := { s.pwr with switchedGood := false } }
    else s.detect (dieRec 0 11) 0 (rail % 256)))

/-! ## Resets (R477, R557, R569) -/

/-- RESET_N_PULSE: 10 µs reset the device, less than 1 µs is ignored, and what lies between is open (R557;
assumption 7). -/
def execResetNPulse (ns : Nat) (s : State) : Host.Outcome State Fault Refusal :=
  .next (settle (
    if s.pwr.por ∨ ns < 1000 then s
    else if ns < 10000 ∧ !Config.freeBool s.freeCtr then { s with freeCtr := s.freeCtr + 1 }
    else s.chipReset 0 1 0))

/-- THERMAL_TRIP: acts as CHIP_RESET and holds the device in reset; the syndrome it records is a free value
(R569; assumption 7). -/
def execThermalTrip (s : State) : Host.Outcome State Fault Refusal :=
  .next (settle (
    if s.pwr.por then s
    else
      let r := s.chipReset 1 2 (Config.freeWord s.freeCtr).toNat
      { r with pwr := { r.pwr with trip := true } }))

/-- THERMAL_TRIP_RELEASE: every sensor reads below 95 °C, and the restart begins (R569). -/
def execThermalTripRelease (s : State) : Host.Outcome State Fault Refusal :=
  .next (settle { s with pwr := { s.pwr with trip := false } })

/-! ## The repair ledger at start (R341, R481, R482) -/

/-- The unit of a ledger entry: die, unit, row, bank. -/
def entryUnit (e : List Nat) : Nat × Nat × Nat × Nat :=
  (e.getD 1 0 % 2, bits (e.getD 1 0) 15 8, bits (e.getD 2 0) 14 0, bits (e.getD 2 0) 20 15)

/-- Put one ledger entry into force. -/
def State.applyEntry (s : State) (e : List Nat) : State :=
  let (d, u, row, bank) := entryUnit e
  match entryKind e with
  | 0x03 => s.modSlot (144 * d + u) fun x => { x with role := some 4 }
  | 0x11 => s.modSlot (144 * d + u) fun x => { x with role := some 3 }
  | 0x12 => s.modPair (16 * d + u / 2) fun p =>
      let f := addTo p.fenced (u % 2)
      { p with fenced := f, state := if f.length = 2 then 4 else if u % 2 = 0 then 3 else 2 }
  | 0x13 => s.modCluster (16 * d + u) fun r => { r with retired := true }
  | 0x14 => s.modBureau d fun b => { b with retired := addTo b.retired u, active := if b.active = u then 1 - u % 2 else b.active }
  | 0x20 => s.modPc (64 * d + u) fun p => { p with shadows := p.shadows ++ [(bank, row)] }
  | 0x23 => s.modPc (64 * d + u) fun p => { p with shadows := p.shadows ++ [(bank, row)] }
  | 0x24 => s.modPc (64 * d + u) fun p => { p with retired := true }
  | _ => s

/-- A waiting REPAIR.CLEAR removes the field entries (R402). -/
def Repair.clearField (r : Repair) : Repair :=
  if r.cleared then { r with ledger := r.ledger.filter fun e => entryKind e < 0x10, cleared := false, unwritten := [] } else r

/-- Load the ledger into force. -/
def State.loadLedger (s : State) : State :=
  let s := { s with repair := s.repair.clearField }
  s.repair.ledger.foldl State.applyEntry s

/-- A shadowed row is repaired in HBM: hard at a cold start, soft at a warm one. Whether the stack has a spare
left is open (R341; assumption 7). -/
def State.repairRow (s : State) (hard : Bool) (e : List Nat) : State :=
  if entryKind e ≠ 0x20 ∧ entryKind e ≠ 0x23 then s
  else
    let (d, u, row, bank) := entryUnit e
    let spare := entryKind e = 0x20 && Config.freeBool s.freeCtr
    let kind := if !spare then 0x23 else if hard then 0x21 else 0x22
    let w := (entryKind e + 256 * b2n (entryPerm e), kind + 256 * b2n (kind ≠ 0x22))
    let e' := e.set 0 (e.getD 0 0 - w.1 + w.2)
    let s := { s with freeCtr := s.freeCtr + 1
                      repair := { s.repair with ledger := s.repair.ledger.map fun x => if x = e then e' else x } }
    if spare then (s.modPc (64 * d + u) fun p => { p with shadows := p.shadows.filter (· ≠ (bank, row)) }).repairAction kind
        (64 * d + u) 0 0
    else s

/-- Repair the ledger's rows. -/
def State.repairRows (s : State) (hard : Bool) : State := s.repair.ledger.foldl (fun s e => s.repairRow hard e) s

/-! ## The steps of a start (R515-R521) -/

/-- Record the end of a step (R521). -/
def State.stamp (s : State) (k : Nat) : State :=
  { s with pwr := { s.pwr with start := { s.pwr.start with
    ts := tset s.pwr.start.ts k ((s.now - s.pwr.start.origin) / 1000 % 2 ^ 32) } } }

/-- Go on to a step. -/
def State.toStep (s : State) (k : StartStep) : State := { s with pwr := { s.pwr with step := k } }

/-- Sample the straps (R558). -/
def State.sampleStraps (s : State) : State :=
  { s with cfg := { s.cfg with
    cascMaster := s.cfg.strapMaster, pkgId := s.cfg.strapId % 8, testMode := s.cfg.strapTest } }

/-- POR_RELEASE (R479, R515, R556, R558). -/
def execPorRelease (s : State) : Host.Outcome State Fault Refusal :=
  .next (settle (
    if s.pwr.por ∧ s.pwr.aoIoGood ∧ s.pwr.switchedGood ∧ s.pwr.step = .supplies then
      (({ s with faults := { s.faults with errLow := s.pwr.errHeld, pulseDone := s.pwr.errHeld }
                 pwr := { s.pwr with por := false, state := .ready } }).sampleStraps.toStep .aoBoot).stamp 0
    else s))

/-- AO_BOOT_DONE: the ledger is loaded; where its CRC fails, the field entries are discarded (R481). -/
def execAoBootDone (ledgerCrcOk : Bool) (s : State) : Host.Outcome State Fault Refusal :=
  .next (settle (
    if s.pwr.step ≠ .aoBoot ∨ s.pwr.trip then s
    else
      let s := s.sampleStraps
      let s := if ledgerCrcOk then s
        else ({ s with repair := { s.repair with ledger := s.repair.ledger.filter fun e => entryKind e < 0x10 } }).detect
          (dieRec 0 12) 2 0
      (s.loadLedger.toStep .reference).stamp 1))

/-- The synthesizers that run without a head lock; those of heads with a mode follow (R281). -/
def State.startSynths (s : State) : State :=
  let s := { s with clk := { s.clk with refOn := true } }
  let s := (s.synths.filter (128 ≤ ·)).foldl (fun s k =>
    let hz := if k < 136 then tget 1000000000 s.clk.regionHz (k - 128) else 0
    let a := if k < 136 then regionSet hz else if k < 138 then memorySet (s.memRate (k - 136)).mbit else synRound 500000000 1 12
    s.modSynth k fun y =>
      { y.relock a (if k < 136 then hz * 1000 else y.target) with lock := true, src := 0, loadTo := none }) s
  s.heads.foldl (fun s e => if e.2.mode.isSome then
    (s.tunePixel e.1).modSynth e.1 fun y => { y with lock := true, src := 0, loadTo := none } else s) s

/-- REFERENCE_LOCK_DONE (R281, R519, R520). -/
def execReferenceLockDone (s : State) : Host.Outcome State Fault Refusal :=
  .next (settle (
    if s.pwr.step ≠ .reference then s
    else
      let s := (if s.pwr.start.kind = 1 then s.loadLedger else s).startSynths
      (s.toStep (if s.pwr.start.kind = 2 then .resume else .bureau)).stamp 2))

/-- Heads that the sealed image arms (R516). -/
def State.imageArms (s : State) (h : Nat) : Bool :=
  match s.mantel.store with
  | some t => bit (imageAt t (0x1098614 + h / 8) 1) (h % 8)
  | none => false

/-- Links whose HPD is high, those of heads that the image arms or that are armed first (R224, R516). -/
def State.bootLinks (s : State) : List Nat :=
  let up := (s.links.filter fun e => e.2.hpd && e.2.enabled && s.linkState e.1 = 1).map (·.1)
  let first (l : Nat) : Bool := s.heads.any fun e => e.2.bind.link = l && (e.2.armed || s.imageArms e.1)
  up.filter first ++ up.filter (!first ·)

/-- Bindings that LINK.AUTOSTART stores come into force (R244). -/
def State.autoBindings (s : State) : State :=
  s.heads.foldl (fun s e =>
    if e.2.autoEn ∧ s.headState e.1 = 1 ∧ e.2.autoBind.link ≠ 255 then s.setHead e.1 { e.2 with bind := e.2.autoBind } else s) s

/-- BUREAU_BOOT_DONE: link discovery begins (R515, R516, R518). -/
def execBureauBootDone (patchOk : Bool) (s : State) : Host.Outcome State Fault Refusal :=
  .next (settle (
    if s.pwr.step ≠ .bureau then s
    else
      let s := { s with pwr := { s.pwr with lanesIdle := false } }
      let s := if patchOk then s else s.detect (dieRec 0 0) 4 0
      let s := s.autoBindings
      let s := s.bootLinks.foldl (fun s l => if (s.link l).state = 1 then s.enterWork l 2 else s) s
      (s.toStep .hbm).stamp 3))

/-- HBM_INIT_DONE: ledger rows are repaired, and pseudo-channels that failed full training are retired (R329,
R330, R341, R518). -/
def execHbmInitDone (fullTrain : Bool) (failedPcs : List Nat) (s : State) : Host.Outcome State Fault Refusal :=
  .next (settle (
    if s.pwr.step ≠ .hbm then s
    else
      let s := s.repairRows true
      let s := failedPcs.foldl (fun s p => if p < 128 ∧ s.pcState p = 1 then s.retirePc p else s) s
      let s := { s with pwr := { s.pwr with start := { s.pwr.start with fullTrain } } }
      (s.toStep .mantel).stamp 4))

/-- The end of a cold start: ACTIVE where a head is armed or auto-started, else READY (R516, R520). -/
def State.endStart (s : State) : State :=
  let on := s.heads.any fun e => s.headState e.1 = 1 && (e.2.armed || e.2.autoEn)
  let t : PState := if on then .active else .ready
  let s := { s with pwr := { s.pwr with
    state := t, step := .done, start := { s.pwr.start with endedReady := !on } } }
  if s.pwr.start.kind = 1 then s.postU 0x0280 s.scopePkg [PState.code .standby, t.code, s.pwr.lastWake]
  else if on then s.postU 0x0280 s.scopePkg [PState.code .ready, t.code, 0]
  else s

/-- MANTEL_LOAD_DONE (R217). -/
def execMantelLoadDone (s : State) : Host.Outcome State Fault Refusal :=
  .next (settle (if s.pwr.step = .mantel then (s.mantelLoad.stamp 5).endStart else s))

/-- Links train again after a warm start, at the stored configuration first (R519). -/
def State.warmLinks (s : State) : State :=
  s.bootLinks.foldl (fun s l =>
    let k := s.link l
    if k.state ≠ 1 then s
    else match k.stored with
      | some c => (s.modLink l fun x => { x with cands := c :: s.candidates l }).enterWork l 3
      | none => s.enterWork l 2) s

/-- The end of a warm start: the state that was left comes back. -/
def State.endWarm (s : State) : State :=
  let t := s.pwr.from_
  let s := (s.mantelScrub.stamp 5).warmLinks
  let s : State := { s with
    inputs := s.inputs.map fun e => (e.1, { e.2 with hpd := e.2.enabled })
    pwr := { s.pwr with state := t, step := .done, lanesIdle := false } }
  s.postU 0x0280 s.scopePkg [PState.code .retain, t.code, s.pwr.lastWake]

/-- WARM_START_STEP_DONE: the Bureau resumes, HBM leaves self-refresh, the areas are compared (R519). -/
def execWarmStartStepDone (s : State) : Host.Outcome State Fault Refusal :=
  .next (settle (match s.pwr.step with
    | .resume => (s.toStep .warmHbm).stamp 3
    | .warmHbm =>
      let s := s.repairRows false
      let s : State := { s with mem := { s.mem with pcs := s.mem.pcs.map fun e => (e.1, { e.2 with selfRef := false }) } }
      (s.toStep .warmMantel).stamp 4
    | .warmMantel => s.endWarm
    | _ => s))

end Sys2Proof.Machine
end

