-- ==== Sys2Proof/Machine/LineOut.lean ====
section
/-! DEFINITION. The line that a head sends: output stages, substitution, composition, packing and signatures, and the
steps of a head's lines and blankings (R135-R145, R171-R174, R198-R202, R212, R215, R241, R295, R306, R499, R541). -/

namespace Sys2Proof.Machine

/-! ## Emission of a pixel (R138-R141, R171, R172, R198) -/

/-- What the emission of a line carries from pixel to pixel. -/
structure Emit where
  px : Nat := 0
  last : Option (List Nat) := none
  dither : Tab Int := []
  tiles : List Tile := []
  crc : List Nat := []
  /-- Packed pixels, the newest first. -/
  out : List (List Nat) := []
  groups : List Nat := []
  deriving DecidableEq, Repr

/-- Where and how a line is emitted: the head, its frame, line, width and height, and the column from which the
underrun policy is emitted. -/
structure LineJob where
  d : Head
  f : Frozen
  n : Nat
  y : Nat
  wa : Nat
  ha : Nat
  from_ : Nat
  test : Bool
  deriving DecidableEq, Repr

/-- Pass diffusion errors on; what would leave the active area is discarded (R139). -/
def LineJob.spread (j : LineJob) (t : Tab Int) (px c : Nat) (errs : List Int) : Tab Int :=
  let put (t : Tab Int) (x y : Nat) (v : Int) : Tab Int :=
    if j.wa ≤ x ∨ j.ha ≤ y then t else tmod 0 t (4 * (y * j.wa + x) + c) (· + v)
  let t := put t (px + 1) j.y (errs.getD 0 0)
  let t := if px = 0 then t else put t (px - 1) (j.y + 1) (errs.getD 1 0)
  put (put t px (j.y + 1) (errs.getD 2 0)) (px + 1) (j.y + 1) (errs.getD 3 0)

/-- The encoded ordinary pixel of real data, and the diffusion errors after it (R135-R139). -/
def LineJob.encode (j : LineJob) (t : Tab Int) (px : Nat) (q : LinePix) (acc : List Nat) : List Nat × Tab Int :=
  let e := oetf j.f.colour acc
  let o := if j.f.colour.lutOn then lutApply j.d.lut e else e
  if q.cls ≠ 0 ∨ j.f.colour.dither = 0 then (o.map (quantPlain j.n), t)
  else if j.f.colour.dither = 1 then (o.map (quantOrdered j.n q.cx q.cy), t)
  else
    (List.range 3).foldl (fun a c =>
      let r := diffuse j.n (o.getD c 0) (tget 0 t (4 * (j.y * j.wa + px) + c))
      (a.1 ++ [r.1], j.spread a.2 px c r.2)) ([], t)

/-- The underrun colour at the depth of the head (R172). -/
def LineJob.urPixel (j : LineJob) : List Nat := j.d.lineColour.map (quantPlain j.n)

/-- The black pixel of the blank state, packed (R241). -/
def blankPixel (hc : HeadColour) (n : Nat) : List Nat :=
  if !hc.ycc then [0, 0, 0]
  else [if hc.full then 0 else 16 * 2 ^ (n - 8), 2 ^ (n - 1), 2 ^ (n - 1)]

/-- The packed pixel that the head emits for an encoded ordinary pixel: the Mantel composition, or what an orphaned
head, SAFE_FILL or BLANK put in its place (R140, R193, R198, R212, R241, R493). -/
def LineJob.packed (j : LineJob) (q : LinePix) (o : List Nat) : List Nat :=
  let mix (b : List Nat) : List Nat := (List.range 3).map fun i => mantelMix j.n q.alpha (q.m.getD i 0) (b.getD i 0)
  let k := if j.d.orphan then j.urPixel
    else if j.d.action = 1 then j.d.safe.map (reduce12 j.n)
    else if q.cls = 1 then mix q.b else if q.cls = 2 then mix o else o
  if j.d.action = 2 ∧ !j.d.orphan then blankPixel j.f.colour j.n else packPixel j.f.colour j.n k

/-- The check register of a tile before its first pixel (R202). -/
def tileStart (tx ty seq : Nat) : Nat := feed16 (feed16 (feed16 0xFFFFFFFF (8 * tx)) (8 * ty)) seq

/-- Whether the viewport cuts a tile (R200). -/
def View.cuts (v : View) (tx ty : Nat) : Bool :=
  8 * tx < v.x || 8 * ty < v.y || v.x + v.w < 8 * tx + 8 || v.y + v.h < 8 * ty + 8

/-- Feed a packed pixel into the signature of its tile (R200, R202). -/
def LineJob.sign (j : LineJob) (l : List Tile) (px : Nat) (q : LinePix) (p : List Nat) : List Tile :=
  let pos := j.y * j.wa + px
  if l.any fun t => t.tx = q.tx && t.ty = q.ty then
    l.map fun t => if t.tx = q.tx ∧ t.ty = q.ty then { t with crc := p.foldl feed16 t.crc, last := pos, count := t.count + 1 } else t
  else
    l ++ [{ tx := q.tx, ty := q.ty, group := q.group, crc := p.foldl feed16 (tileStart q.tx q.ty j.f.seq), last := pos
            count := 1, cut := (j.d.asFrozen j.f).view.cuts q.tx q.ty }]

/-- Emit one pixel. -/
def LineJob.emit (j : LineJob) (e : Emit) (q : LinePix) : Emit :=
  let r : List Nat × Tab Int × Bool := match q.acc with
    | some acc => if j.from_ ≤ e.px then ([], e.dither, false) else
        let r := j.encode e.dither e.px q acc
        (r.1, r.2, true)
    | none => ([], e.dither, false)
  let o := if r.2.2 then r.1 else if j.d.linePolicy = 0 then e.last.getD j.urPixel else j.urPixel
  let p := j.packed q o
  let signed := q.cls ≠ 0 ∧ !q.bad
  { px := e.px + 1, last := if r.2.2 then some o else e.last, dither := r.2.1
    tiles := if signed then j.sign e.tiles e.px q p else e.tiles
    crc := if j.test then (List.range 3).map fun i => Config.testCrc (e.crc.getD i 0) (p.getD i 0) % 65536 else e.crc
    out := p :: e.out
    groups := if signed then addTo e.groups q.group else e.groups }

/-! ## Emission of a line -/

/-- First column that the Blender has not supplied. -/
def Head.missingFrom (d : Head) : Option Nat := d.lineNow.findIdx? (·.acc.isNone)

/-- Column from which the line being sent carries the underrun policy, if any (R171). -/
def Head.underrunFrom (d : Head) : Option Nat :=
  match d.missingFrom, d.urLine with
  | some a, some b => some (min a b.2)
  | some a, none => some a
  | none, some b => some b.2
  | none, none => none

/-- Add the Blender's output of a line to the wear measures of its blocks (R499). -/
def Head.measure (d : Head) (f : Frozen) (y wa : Nat) : Head :=
  let per := ceilDiv wa 64
  (d.lineNow.foldl (fun (a : Head × Nat) q =>
    let b := y / 64 * per + a.2 / 64
    let w := tget (0, 0) a.1.frameLum b
    let v := match q.acc with
      | some p => 1 + p.getD 0 0 + p.getD 1 0 * 2 ^ 24 + p.getD 2 0 * 2 ^ 48
      | none => 0
    let h := { a.1 with frameSig := tset a.1.frameSig b (tget 0 a.1.frameSig b * 2 ^ 73 + v) }
    (match q.acc with
     | some p => { h with frameLum := tset h.frameLum b (w.1 + (luminance f.colour.primaries (p.map fun n => ((n : Nat) : Int))).toNat, w.2 + 1) }
     | none => h, a.2 + 1)) (d, 0)).1

/-- The composite of a line as 8-pixel groups of 9 words (R541). -/
def lineWords (pix : List (List Nat)) : List Nat :=
  let at' (i : Nat) : List Nat := pix.getD i [0, 0, 0]
  (List.range (ceilDiv pix.length 8)).flatMap fun g =>
    let v := (List.range 8).foldr (fun i a =>
      let p := at' (8 * g + i)
      a * 2 ^ 72 + (p.getD 0 0 + p.getD 1 0 * 2 ^ 24 + p.getD 2 0 * 2 ^ 48)) 0
    (List.range 9).map fun i => v / 2 ^ (64 * i) % 2 ^ 64

/-- The class field of a line-stream frame: Hp's head index, and the line (R541; DESIGN CHOICE, assumption 28). -/
def lineField (head line : Nat) : Nat := head % 128 + 128 * line

/-- The partner of a deep pair sends its Blender output to Hp's package (R541). -/
def State.streamLine (s : State) (d : Head) (f : Frozen) : State :=
  match d.deep with
  | none => s
  | some j => match s.linkTo (j / 128) with
    | none => s
    | some b =>
      (parts32 2400 (lineWords (d.lineNow.map fun q => q.acc.getD f.colour.bg))).foldl
        (fun s p => s.birtonSend b 1 (j / 128) false (lineField j d.line) p) s

/-- End the line being sent: it is emitted, signed and measured, and substituted pixels are counted (R174, R207). -/
def State.emitLine (s : State) (h : Nat) : State :=
  let d := s.head h
  match d.frozen, d.mode with
  | some f, some m =>
    let u := d.underrunFrom
    let testing := (s.pair (h / 4)).state = 1
    let j : LineJob := { d, f, n := d.depth, y := d.line, wa := m.wa, ha := m.ha, from_ := u.getD m.wa, test := d.echo }
    let e := if f.deepRole = 2 then ({} : Emit)
      else d.lineNow.foldl j.emit { last := d.lastReal, dither := d.dither, tiles := d.tiles, crc := d.crcAcc }
    let d := (d.measure f d.line m.wa)
    let d := { d with
      lastReal := e.last, dither := e.dither.filter fun x => 4 * (j.y + 1) * m.wa ≤ x.1, tiles := e.tiles
      crcAcc := if j.test then e.crc else d.crcAcc, packed := e.out.reverse
      testGroups := if testing then e.groups.foldl addTo d.testGroups else d.testGroups
      outLine := (d.lineNow.zip (List.range m.wa)).map fun q => q.1.acc.getD (d.outLine.getD q.2 f.colour.bg)
      sentLines := if d.streaming then d.sentLines + 1 else d.sentLines
      urFirst := if u.isSome then d.urFirst.or (some d.line) else d.urFirst
      urLines := if u.isSome then d.urLines + 1 else d.urLines
      urPixels := d.urPixels + (m.wa - u.getD m.wa) }
    (if f.deepRole = 2 then s.streamLine d f else s).setHead h d
  | _, _ => s

/-! ## Underruns (R171, R174) -/

/-- The source that a region's collector recorded first, or 0 (R174). -/
def State.firstFault (s : State) (g : Nat) : Nat :=
  let r := s.frec g
  if r.firstValid then (bitSource g r.firstSrc r.firstSyn).getD 0 else 0

/-- An underrun of the line being sent, from a column on. -/
def State.underrunAt (s : State) (h col : Nat) : State :=
  let d := s.head h
  let src := s.firstFault (h / 16)
  let s := s.setHead h { d with
    urLine := some (d.line, match d.urLine with
      | some b => min col b.2
      | none => col)
    urSource := if d.urSource = 0 then src else d.urSource }
  if d.urLine.isSome then s
  else s.clusterFault 6 (h / 4) (h % 4) (match d.frozen with | some f => f.seq | none => d.seq) true

/-- UNDERRUN: a pixel of the line being sent is due and has not been supplied (R171). -/
def execUnderrun (h line col : Nat) (s : State) : Host.Outcome State Fault Refusal :=
  .next (settle (
    let d := s.head h
    if h < 128 ∧ d.inFrame ∧ d.line = line ∧ col < d.lineNow.length then s.underrunAt h col else s))

/-! ## The start of a line (R171, R199, R212) -/

/-- A head's frame begins: what the commit line froze is in force, and everything kept per frame starts anew. -/
def State.beginFrame (s : State) (h : Nat) : State :=
  let s := if (s.head h).coming.isSome then s else s.freezeHead h
  let s := s.modHead h fun d => { d with
    frozen := d.coming, coming := none, inFrame := true, line := 0, sentLines := 0, ctmCache := [], lastReal := none
    dither := [], tiles := [], urFirst := none, urLines := 0, urPixels := 0, urSource := 0, ctmFault := false
    contentFault := false, testGroups := [], crcAcc := [0, 0, 0], frameLum := [], frameSig := []
    stretch := if d.stretching then none else d.stretch, stretching := false, stretchPx := 0 }
  match (s.head h).frozen with
  | some f => s.holdMantel h f
  | none => s

/-- Bin of a line's slack in ns (R502). -/
def slackBin (v : Int) : Nat := if v < 0 then 0 else min 15 (1 + v.toNat / 500)

/-- Count a line's slack at the arrival of its last block, which is a free value; a line of a deep pair whose
composite has not come counts in bin 0 (R502, R543; assumption 7). -/
def State.countSlack (s : State) (h : Nat) (f : Frozen) (line : Nat) : State :=
  let v : Int := toS 32 (Config.freeWord s.freeCtr).toNat
  let late := f.deepRole = 1 ∧ ((s.head h).wholeLine line (((s.head h).mode.map (·.wa)).getD 0)).isNone
  let s : State := { s with freeCtr := s.freeCtr + 1 }
  s.modHead h fun d =>
    let k := if late then 0 else slackBin v
    { d with slack := tset d.slack k (satInc 32 (tget 0 d.slack k))
             slackMin := if late then d.slackMin else if d.slack.isEmpty then v else min v d.slackMin }

/-- An active line of a head begins. -/
def State.lineStart (s : State) (h line : Nat) : State :=
  let s := if line = 0 then s.beginFrame h else s.emitLine h
  let s := (s.underrunOver h).modHead h fun d => { d with action := d.pendingAction.getD d.action, pendingAction := none }
  match (s.head h).frozen, (s.head h).mode with
  | some f, some m =>
    let s := (s.countSlack h f line).composeLine h line f m
    match (s.head h).missingFrom with
    | some col => s.underrunAt h col
    | none => s
  | _, _ => s

/-- HEAD_LINE_START: the first pixel of an active line leaves the packer; lines come in order (R143). -/
def execHeadLineStart (h line : Nat) (s : State) : Host.Outcome State Fault Refusal :=
  .next (settle (
    let d := s.head h
    let due := if d.inFrame then decide (line = d.line + 1 ∧ line < (d.mode.map (·.ha)).getD 0) else decide (line = 0)
    if h < 128 ∧ s.headState h = 1 ∧ d.running ∧ due then s.lineStart h line else s))

/-- LE_FETCH_WINDOW (R159). -/
def execLeFetchWindow (h line : Nat) (s : State) : Host.Outcome State Fault Refusal :=
  .next (settle (if h < 128 ∧ s.headState h = 1 ∧ s.clusterState (h / 4) = 1 then s.fetchWindow h line else s))

/-! ## Vertical blanking (R145, R230, R237, R238, R242, R295, R306, R307) -/

/-- Put a pending mode into force: a frequency within the same P is reached by a ramp, any other by a new lock, for
which the stream waits (R292, R295). -/
def State.modeAtBlanking (s : State) (h : Nat) : State :=
  match (s.head h).pendingMode with
  | none => s
  | some m =>
    let s := s.modHead h (·.takeMode m)
    let r := (s.head h).rate
    let y := s.synth h
    let a := pixelSet r.1 r.2
    if a.p = y.p ∧ y.lock then s.setSynth h { y with ramp := some (y.rampTo y.target (r.1 * 1000 / r.2) 1000 1000) }
    else (s.modHead h fun d => { d with relock := true, streaming := false }).tunePixel h

/-- Put a pending binding into force, and a held one whose sink now offers its path (R237, R238). -/
def State.bindAtBlanking (s : State) (h : Nat) : State :=
  let s := match (s.head h).pendingBind with
    | some b => s.putBind h b
    | none => s
  let b := (s.head h).bind
  if !b.held ∨ 96 ≤ b.link then s
  else
    let l := s.link b.link
    match l.sink, l.known with
    | some k, true => if SinkOffers k b.path then s.putBind h { b with held := false } else s
    | _, _ => s

/-- Whether a head's stream may run: its link is ACTIVE, trained and carries the mode, and no new lock, binding or
training waits (R234, R241, R242). -/
def State.mayStream (s : State) (h : Nat) : Bool :=
  let d := s.head h
  let l := s.link d.bind.link
  let r := d.rateP
  d.bind.link < 96 && !d.bind.held && l.state = 4 && l.trained.isSome && !l.retrainAll && !d.relock && d.mode.isSome &&
    s.carried h r.1 r.2

/-- Start a head's stream; the first of a start is recorded (R242, R521). -/
def State.startStream (s : State) (h : Nat) : State :=
  if (s.head h).streaming ∨ !s.mayStream h then s
  else
    let s := s.modHead h fun d => { d with streaming := true }
    if (tfind s.pwr.start.ts 6).isNone then s.stamp 6 else s

/-- Parameters of a CLK.HEEL that waited for the end of a stretched blanking (R307). -/
def State.heldHeel (s : State) (h : Nat) : State :=
  match (s.heel h).held with
  | some w => (s.setHeelWords h w).modHeel h fun l => { l with held := none }
  | none => s

/-- Pixels by which a resync makes a vertical blanking longer, or shorter if negative, at an effective commit distance:
the phase error in whole pixels, by the shorter way that leaves the blanking it needs (R306). -/
def Head.resyncPixels (d : Head) (c : Nat) : Int :=
  match d.stretch with
  | none => 0
  | some e =>
    let m := d.mode.getD {}
    let r := d.rate
    let frame := m.htot * m.vtot
    let a := min frame ((2 * e.natAbs * r.1 + 1000000000 * r.2) / (2000000000 * r.2))
    let shrink := if 0 < e then frame - a else a
    let stretch := if 0 < e ∧ (a ≤ frame - a ∨ frame = a) then a else frame - a
    if (m.ha + c + 2) * m.htot + shrink ≤ frame ∧ shrink < stretch then 0 - (shrink : Int) else stretch

/-- The start of a vertical blanking. When a joining head has come into alignment with its group is open (R76;
assumption 7). -/
def State.blanking (s : State) (h : Nat) : State :=
  let s := s.modHead h fun d => { d with depth := d.pendingDepth.getD d.depth, pendingDepth := none }
  let s := ((s.modeAtBlanking h).bindAtBlanking h).heldHeel h
  let c := s.commitFor h
  let s := s.modHead h fun d => { d with commitNow := c, stretching := d.stretch.isSome, stretchPx := d.resyncPixels c }
  let s : State := if (s.head h).group < 32 ∧ !(s.head h).aligned then
      { (s.modHead h fun d => { d with aligned := Config.freeBool s.freeCtr }) with freeCtr := s.freeCtr + 1 }
    else s
  s.startStream h

/-- VERTICAL_BLANKING_START. -/
def execVerticalBlankingStart (h : Nat) (s : State) : Host.Outcome State Fault Refusal :=
  .next (settle (
    let d := s.head h
    if h < 128 ∧ s.headState h = 1 ∧ d.running ∧ !d.inFrame then s.blanking h else s))

end Sys2Proof.Machine
end

