-- ==== Sys2Proof/Machine/FrameEnd.lean ====
section
/-! DEFINITION. The end of a head's frame: signatures, comparison, records, reactions, the sink echo and the end of
the frame's accounts; the gating of clusters and regions (R27, R150, R174, R199, R203-R215, R234, R499, R510, R514). -/

namespace Sys2Proof.Machine

/-! ## Signatures and results (R203, R207) -/

/-- Put a tile into combination order: by its last visible pixel (R203). -/
def tileIn (x : Tile) : List Tile → List Tile
  | [] => [x]
  | a :: t => if x.last < a.last then x :: a :: t else a :: tileIn x t

/-- The signed tiles of a group in combination order. -/
def Head.tilesOf (d : Head) (g : Nat) : List Tile := (d.tiles.filter (·.group = g)).foldl (fun a t => tileIn t a) []

/-- The signature of a tile (R202). -/
def Tile.sig (t : Tile) : Nat := t.crc ^^^ 0xFFFFFFFF

/-- One step of the combination: rotate left by 5, then add a tile signature (R203). -/
def combine (g s : Nat) : Nat := (g * 32 % 2 ^ 32 + g / 2 ^ 27) ^^^ s

/-- A group signature (R203). -/
def groupSig (l : List Tile) : Nat := l.foldl (fun g t => combine g t.sig) 0

/-- Groups that a frame's comparison judges: with a signed tile, or an entry for its sequence number (R207). -/
def Head.judged (d : Head) (seq : Nat) : List Nat :=
  (List.range 256).filter fun g => d.tiles.any (·.group = g) || d.refs.any fun e => e.group = g && e.q = seq

/-- The comparison of a group: its result code, which is the first of R207's rows that applies. -/
def State.judgeGroup (s : State) (h : Nat) (f : Frozen) (sent : Bool) (g : Nat) : Nat × State :=
  let d := s.head h
  if !sent then (4, s)
  else if d.ctmFault ∨ d.testGroups.contains g then (1, s)
  else match d.refs.find? fun e => e.group = g && e.q = f.seq && e.ver = f.version with
    | none => (2, s)
    | some e =>
      let r := s.readBlock (s.mantel.areaA + refAt h g e.slot) 8 (engineReq 0)
      if r.1 ≠ .ok then (3, r.2.2)
      else (if ofLe (r.2.1.drop 4) = groupSig (d.tilesOf g) then 0 else 1, r.2.2)

/-- The results of a frame, in ascending group order. -/
def State.results (s : State) (h : Nat) (f : Frozen) (sent : Bool) : List (Nat × Nat) × State :=
  ((s.head h).judged f.seq).foldl (fun a g =>
    let r := a.2.judgeGroup h f sent g
    (a.1 ++ [(g, r.1)], r.2)) ([], s)

/-! ## VERIFY.RECORD and VERIFY.TILESIG (R204, R208, R209) -/

/-- The two words of a record's entry (R208). -/
def Head.entryWords (d : Head) (r : Nat × Nat) : List Nat :=
  let l := d.tilesOf r.1
  [r.1 + 2 ^ 8 * r.2 + 2 ^ 11 * b2n (l.any (·.cut)) + 2 ^ 12 * min 0xFFFFF l.length, groupSig l]

/-- Records of a head that are lost with the next one: what a held record has lost, and itself (R209). -/
def Port.lostRecords (q : Port) (h : Nat) : Nat :=
  match tfind q.record h with
  | some (o :: _) => min 65535 (o.params.getD 4 0 % 65536 + 1)
  | _ => 0

/-- The parts of a frame's record (R208). -/
def State.recordParts (s : State) (h : Nat) (f : Frozen) (sent : Bool) (rs : List (Nat × Nat)) : List OutPkt :=
  let d := s.head h
  let n := max 1 (ceilDiv rs.length 120)
  (List.range n).map fun k =>
    let part := (rs.drop (120 * k)).take 120
    { kind := 3, opcode := 0x0E80, scope := s.scopeOf 4 h, params :=
        [ h % 256 + 2 ^ 8 * s.cfg.pkgId + 2 ^ 16 * k + 2 ^ 24 * n, f.seq + 2 ^ 16 * f.version,
          b2n sent + 2 * (s.pair (h / 4)).state + 16 * d.echoResult + 64 * b2n d.ctmFault + 128 * b2n d.contentFault +
            2 ^ 16 * part.length,
          rs.length + 2 ^ 9 * (rs.filter (·.2 ≠ 0)).length,
          (s.port 16).lostRecords h + 2 ^ 16 * d.echoSeq, lo32 s.us ] ++ part.flatMap d.entryWords }

/-- Post the record on the S-port; the first of a start is recorded (R208, R521). -/
def State.postRecord (s : State) (h : Nat) (f : Frozen) (sent : Bool) (rs : List (Nat × Nat)) : State :=
  let parts := s.recordParts h f sent rs
  let s := s.modPort 16 (·.enqueueRecord h parts)
  if (tfind s.pwr.start.ts 7).isNone then s.stamp 7 else s

/-- Post the tile signatures that VERIFY.TILES asked for (R204). -/
def State.postTiles (s : State) (h seq : Nat) : State :=
  let d := s.head h
  d.tilesReq.foldl (fun s g =>
    let l := d.tilesOf g
    s.postS 0x0E81 (s.scopeOf 4 h) ([seq, l.length] ++ (l.take 240).flatMap fun t => [8 * t.tx + 65536 * (8 * t.ty), t.sig]))
    (s.setHead h { d with tilesReq := [] })

/-! ## Reactions (R210-R213) -/

/-- The source number of verification reactions of a cluster (R461). -/
def verifySource (h : Nat) : Nat := 256 * (h / 64) + 16 + h / 4 % 16

/-- Run a verification reaction: notification, ERR_N and head action (R212). An action stays in force until a
release; one that is stronger replaces it (R213; DESIGN CHOICE, assumption 29). -/
def State.verifyReaction (s : State) (h : Nat) (r : React) : State :=
  let s := if r.errPin then s.errPin else s
  let s := match r.notify with
    | 1 => s.pend (verifySource h)
    | 2 => s.urgent (verifySource h) [0, 0, 0, 0]
    | _ => s
  if r.action = 0 then s
  else s.modHead h fun d =>
    { d with pendingAction := some (max r.action (max d.action (d.pendingAction.getD 0))), releasing := false }

/-- Count a frame, or an echo comparison, with or without a result kind, and run the reaction once when its counter
reaches the threshold (R211). -/
def State.tally (s : State) (h k : Nat) (found : Bool) : State :=
  let d := s.head h
  let n := if found then satInc 32 (d.counters.getD k 0) else 0
  let was := found && d.fired.getD k false
  let run := found && !was && (d.reaction k).threshold ≤ n
  let s := s.setHead h { d with counters := d.counters.set k n, fired := d.fired.set k (was || run) }
  if run then s.verifyReaction h (d.reaction k) else s

/-- The comparison of an armed head's frame; its entries are freed (R206-R212). -/
def State.compare (s : State) (h : Nat) (f : Frozen) (sent : Bool) : State :=
  let r := s.results h f sent
  let s := r.2.postRecord h f sent r.1
  let s := (List.range 4).foldl (fun s k => s.tally h k (r.1.any (·.2 = k + 1))) s
  s.modHead h fun d => { d with refs := d.refs.filter (·.q ≠ f.seq) }

/-! ## The sink echo (R214, R215) -/

/-- A test CRC of three components as one number. -/
def crcWord (c : List Nat) : Nat := c.getD 0 0 % 65536 + 2 ^ 16 * (c.getD 1 0 % 65536) + 2 ^ 32 * (c.getD 2 0 % 65536)

/-- A link that is trained and delivers streams. -/
def State.echoLink (s : State) (h : Nat) : Bool := s.echoAble h && (s.link (s.head h).bind.link).state = 4

/-- Keep the test CRC of a transmitted frame; the echo becomes UNAVAILABLE while the count has not changed for 8
frames, or while the link retrains. -/
def State.echoFrame (s : State) (h seq : Nat) (sent : Bool) : State :=
  if !(s.head h).echo then s
  else
    let on := s.echoLink h
    s.modHead h fun d =>
      let l := if sent then d.testCrcs ++ [(seq, crcWord d.crcAcc)] else d.testCrcs
      { d with testCrcs := l.drop (l.length - 4), echoIdle := d.echoIdle + 1
               echoResult := if d.echoIdle + 1 < 8 ∧ on then d.echoResult else 3 }

/-- A read of the sink's test CRC after a frame. -/
def State.echoRead (s : State) (h count v : Nat) : State :=
  let d := s.head h
  if !d.echo then s
  else if !s.echoLink h then s.setHead h { d with echoResult := 3 }
  else if count = d.echoCount ∨ d.testCrcs.isEmpty then s
  else
    let d := { d with echoCount := count, echoIdle := 0 }
    match d.testCrcs.reverse.find? (·.2 = v) with
    | some m => (s.setHead h { d with echoResult := 1, echoSeq := m.1 }).tally h 4 false
    | none => (s.setHead h { d with echoResult := 2, echoSeq := (d.testCrcs.getLast?.map (·.1)).getD 0 }).tally h 4 true

/-- ECHO_CRC_READ_COMPLETE (R215). -/
def execEchoCrcReadComplete (h count crcR crcG crcB : Nat) (s : State) : Host.Outcome State Fault Refusal :=
  .next (settle (if h < 128 then s.echoRead h count (crcWord [crcR, crcG, crcB]) else s))

/-! ## The end of a frame -/

/-- HEAD.UNDERRUN of a frame with substituted pixels (R174). -/
def State.postUnderrun (s : State) (h seq : Nat) : State :=
  let d := s.head h
  match d.urFirst with
  | some l => s.postU 0x0880 (s.scopeOf 4 h) [h, seq, l, d.urLines, d.urPixels, d.urSource]
  | none => s

/-- Selections that the frame showed (R150): a buffer, or a ring in any form. -/
def State.showFrame (s : State) (h : Nat) (f : Frozen) : State :=
  f.layers.foldl (fun s x =>
    if x.shows = 0 ∨ x.cfg.bindMode ≠ 0 then s.modLayer x.id (·.shownOn h x.serial) else s) s

/-- Blocks of a head's panel (R499). -/
def Head.wearFrame (d : Head) : Head :=
  let ks := (d.frameSig.map (·.1)).filter fun b => tfind d.prevSig b ≠ tfind d.frameSig b
  { d with meanLum := d.frameLum, prevSig := d.frameSig, dwell := ks.foldl (fun t b => tset t b 0) d.dwell }

/-- A stream that ends with its frame: a held binding, or a retraining that waits (R234, R238). -/
def State.endStreams (s : State) (h : Nat) : State :=
  let b := (s.head h).bind
  let wait := (s.link b.link).retrainAll
  let s := if b.held ∨ wait then s.modHead h fun d => { d with streaming := false } else s
  if wait then s.beginRetrain b.link else s

/-- The end of a frame: the comparison, then what the frame leaves, and a transition that waits for it. -/
def State.frameEnd (s : State) (h ha : Nat) (f : Frozen) : State :=
  let sent := (ha ≤ (s.head h).sentLines : Bool)
  let s := (s.modHead h fun d => { d with seq := (d.seq + 1) % 65536 }).echoFrame h f.seq sent
  let s := if f.armed then s.compare h f sent else (List.range 4).foldl (fun s k => s.tally h k false) s
  let s := ((s.postTiles h f.seq).postUnderrun h f.seq).showFrame h f
  let s := s.modHead h fun d => { d.wearFrame with inFrame := false, frozen := none }
  let s := s.endStreams h
  if s.pwr.target.any (·.quiet) then s.stopHead h else s

/-- END_OF_LAST_ACTIVE_LINE (R174, R199, R207). -/
def execEndOfLastActiveLine (h : Nat) (s : State) : Host.Outcome State Fault Refusal :=
  .next (settle (
    let d := s.head h
    match d.frozen, d.mode with
    | some f, some m =>
      if h < 128 ∧ s.headState h = 1 ∧ d.running ∧ d.inFrame ∧ d.line + 1 = m.ha then (s.emitLine h).frameEnd h m.ha f else s
    | _, _ => s))

/-! ## Gating (R27, R514) -/

/-- CLUSTER_WAKE: a head of the cluster has work (R27). -/
def execClusterWake (c : Nat) (s : State) : Host.Outcome State Fault Refusal :=
  .next (settle (if c < 32 ∧ s.clusterState c = 1 ∧ s.drives c then s.modCluster c fun r => { r with gated := false } else s))

/-- A pseudo-channel that has had no request for 50 µs. -/
def State.pcIdle (s : State) (p : Nat) : Bool :=
  let c := s.pc p
  c.issued.isEmpty && c.banks.all (·.2.queue.isEmpty) && (c.idleFrom + 50000 ≤ s.now : Bool)

/-- Whether a region has no work. -/
def State.regionIdle (s : State) (g : Nat) : Bool :=
  s.pwr.state = .active && s.regionState g = 1 && !(s.region g).gated && (s.region g).input.isEmpty &&
    (List.range 4).all (fun k => (s.cluster (4 * g + k)).gated) && !s.charges.any (·.region = g) &&
    (s.pcsOf g).all s.pcIdle

/-- REGION_POWER_GATE: the region's synthesizer is parked and its memory refreshes itself (R287, R335, R514). -/
def execRegionPowerGate (g : Nat) (s : State) : Host.Outcome State Fault Refusal :=
  .next (settle (
    if g < 8 ∧ s.regionIdle g then
      let s := (s.pcsOf g).foldl (fun s p => s.modPc p fun c => { c with selfRef := true }) s
      (s.modRegion g fun r => { r with gated := true }).modSynth (128 + g) fun y => { y with src := 3 }
    else s))

end Sys2Proof.Machine
end

