-- ==== Sys2Proof/Machine/MemSched.lean ====
section
/-! DEFINITION. Requests in a region controller: arrival, the command slots of its pseudo-channels, refresh, row
protection, and what a requester receives (R18, R95, R181, R182, R253, R274, R320-R328, R335, R336, R410, R411, R514). -/

namespace Sys2Proof.Machine

/-! ## Urgency (R323-R325) -/

/-- Urgency of a slack in ns (R324). -/
def slackUrg (s : Int) : Nat := if s ≤ 1000 then 3 else if s ≤ 2000 then 2 else if s ≤ 4000 then 1 else 0

/-- Requests that a pseudo-channel holds in its bank queues. -/
def Pc.queued (c : Pc) : List MemReq := c.banks.flatMap (·.2.queue)

/-- Requests waiting in a region. -/
def State.waiting (s : State) (g : Nat) : List MemReq :=
  (s.region g).input ++ (List.range 16).flatMap fun p => (s.pc (16 * g + p)).queued

/-- Bytes waiting in the write buffer of an input or audio port (R325). -/
def State.bufferFill (s : State) (master : Nat) : Nat :=
  ((List.range 8).flatMap fun g => (s.waiting g).filter fun m => m.cls = 2 && m.write && m.master = master).foldl (· + ·.len) 0

/-- Size of a write buffer (R325). -/
def bufferSize (master : Nat) : Nat := if master < 42 then 32768 else 1024

/-- Urgency of a request now: by its deadline, its write buffer, or its age (R323-R325). -/
def State.urgency (s : State) (m : MemReq) : Nat :=
  if m.cls ≤ 1 then (match m.deadline with
    | some d => max (if m.cls = 0 then m.urg else 0) (slackUrg ((d : Int) - s.now))
    | none => m.urg)
  else if m.cls = 2 then min 3 (4 * s.bufferFill m.master / bufferSize m.master)
  else if m.cls ≤ 6 then (if m.at_ + 10000 ≤ s.now then 1 else 0)
  else 0

/-- Urgency at which a waiting request stands: what its arrival, its last recomputation or its age timeout gave it, and
the fill of its write buffer for class 2 (R324, R325). -/
def State.standing (s : State) (m : MemReq) : Nat := if m.cls = 2 then s.urgency m else m.urg

/-- Set the urgency of the requests that wait in a region. -/
def State.setUrgency (s : State) (g : Nat) (f : MemReq → Nat) : State :=
  let up (l : List MemReq) : List MemReq := l.map fun m => { m with urg := f m }
  let s := s.modRegion g fun r => { r with input := up r.input }
  (List.range 16).foldl (fun s p => s.modPc (16 * g + p) fun c =>
    { c with banks := c.banks.map fun e => (e.1, { e.2 with queue := up e.2.queue }) }) s

/-! ## Arrival (R320, R335, R410, R514) -/

/-- Put a request into its bank's queue. -/
def State.toBank (s : State) (m : MemReq) : State :=
  s.modPc m.pc fun c => { c with banks := tmod {} c.banks m.bank fun b => { b with queue := b.queue ++ [m] } }

/-- Whether a request finds room: 8 in its bank and 128 in its pseudo-channel (R320). -/
def State.bankRoom (s : State) (m : MemReq) : Bool :=
  (tget {} (s.pc m.pc).banks m.bank).queue.length < 8 && (s.pc m.pc).queued.length < 128

/-- Move requests from a region's input queue into their banks, in arrival order; one that must wait holds back the
later ones of its bank (R320). -/
def State.drain (s : State) (g : Nat) : State :=
  let r := (s.region g).input.foldl (fun (a : State × List MemReq) m =>
    if a.1.bankRoom m ∧ !(a.2.any fun x => x.pc = m.pc && x.bank = m.bank) then (a.1.toBank m, a.2)
    else (a.1, a.2 ++ [m])) (s, [])
  r.1.modRegion g fun x => { x with input := r.2 }

/-- A request enters the scheduler of its region: it ends an idle self-refresh, wakes a gated region, and aborts an
entry for a rate change that has not been issued, twice at most (R335, R514). -/
def State.enterSched (s : State) (m : MemReq) : State :=
  let g := m.pc / 16
  let aborting := (s.memRate (g / 4)).target.isSome && (s.memRate (g / 4)).phase = 2
  let s := if (s.region g).gated then
      (List.range 16).foldl (fun s p => s.modPc (16 * g + p) fun c => { c with selfRef := false })
        (s.modRegion g fun r => { r with gated := false })
    else s
  let s := s.modPc m.pc fun c =>
    { c with selfRef := false, idleFrom := s.now, aborts := if aborting ∧ c.aborts < 2 then c.aborts + 1 else c.aborts }
  (s.modRegion g fun r => { r with input := r.input ++ [m] }).drain g

/-- Check a request of one block and queue it, or hold it while its die is in self-refresh for a rate change (R335,
R410). -/
def State.queueReq (s : State) (m : MemReq) : DmaResp × State :=
  let q : Req := ⟨m.cls, m.master, m.urg⟩
  match s.gate m.addr m.write q.checked with
  | .open g w =>
    let pl := s.place g (tget {} (s.windows g) w) (m.addr % regionSpan)
    let m := { m with id := s.mem.nextId, at_ := s.now, pc := 16 * g + pl.p, bank := pl.k, row := pl.row, col := pl.col }
    let s : State := { s with mem := { s.mem with nextId := s.mem.nextId + 1 } }
    let m := { m with urg := s.urgency m }
    let rate := s.memRate (g / 4)
    (.ok, if rate.target.isSome ∧ rate.phase = 1 then
        s.modMemRate (g / 4) fun r => { r with held := r.held ++ [m] }
      else s.enterSched m)
  | gt => s.stopped m.addr q gt

/-! ## Error responses (R95, R181, R182, R253, R274, R419) -/

/-- Offset of an address in a Mantel area, if it lies there. -/
def areaOffset (base a : Nat) : Option Nat := if base ≤ a ∧ a < base + (refPart + refBytes) then some (a - base) else none

/-- A Mantel block is unreadable in both copies, or late (R182). -/
def State.mantelLost (s : State) (h : Option Nat) : State :=
  match h with
  | some h => if h < 128 then (s.modHead h fun d => { d with contentFault := true }).contentLost h else s
  | none => s

/-- The frame that an input writes is discarded and counted (R253, R325, R419). -/
def State.dropFrame (s : State) (v : Nat) : State :=
  s.modInput v fun i => if i.writing then { i with writing := false, dropped := satInc 32 i.dropped } else i

/-- A ring write of an audio source is dropped and counted (R274). -/
def State.dropAudio (s : State) (k : Nat) : State :=
  let s := s.modAud k fun a => { a with denied := satInc 32 a.denied }
  if k < 4 then s.detect (dieRec (k / 2) 8) 3 (k % 2) else s

/-- What an error response does at an input or audio source that wrote. -/
def State.writeLost (s : State) (m : MemReq) : State :=
  if 26 ≤ m.master ∧ m.master ≤ 41 then
    let v := m.master - 26
    let a := s.aud (16 + v)
    if a.enabled ∧ a.base ≤ m.addr ∧ m.addr < a.base + a.size then s.dropAudio (16 + v) else s.dropFrame v
  else if 42 ≤ m.master ∧ m.master ≤ 45 then s.dropAudio (m.master - 42)
  else s

/-- The flip ID or capture word of the buffer a layer shows (R95). -/
def State.flipWord (s : State) (li : Nat) : Nat :=
  let l := s.layer li
  match l.current with
  | some f => if l.bindMode = 0 then f.id else stampWord f.capStamp
  | none => 0

/-- What an error response does at its requester, once copy B of a Mantel block has been asked for: the units whose
reads and writes carry their own response step are not named. -/
def State.errorAt (s : State) (m : MemReq) : State :=
  match m.cls with
  | 0 => (match areaOffset s.mantel.areaB m.addr with
      | some o => (s.copyFault 1 (o / 64 * 64) (s.blockSyn m.addr)).mantelLost m.head
      | none => s)
  | 1 => (match m.layer with
      | some li => s.postRewrite li (s.flipWord li) m.addr
      | none => s)
  | 2 => if m.write then s.writeLost m else s
  | _ => s

/-- The requester receives a response. A failed read of copy A is repeated on copy B at urgency 3 (R181). -/
def State.respond (s : State) (m : MemReq) (r : DmaResp) : State :=
  if r = .ok then s
  else if m.cls = 0 ∧ !m.write then
    match areaOffset s.mantel.areaA m.addr with
    | some o =>
      let s := (s.copyFault 0 (o / 64 * 64) (s.blockSyn m.addr)).detect (m.addr / regionSpan) 47 0
      let b := { m with addr := s.mantel.areaB + o, urg := 3 }
      let q := s.queueReq b
      if q.1 = .ok then q.2 else q.2.errorAt b
    | none => s.errorAt m
  else s.errorAt m

/-- MEMORY_REQUEST_ARRIVAL: each 64-byte block of a request is checked and queued by itself (R410). -/
def State.arriveReq (s : State) (r : MemReqIn) : State :=
  (blocksOf r.addr (if r.write then r.data.length else r.len)).foldl (fun s b =>
    let m : MemReq := { addr := b.1, len := b.2, write := r.write, data := (r.data.drop (b.1 - r.addr)).take b.2, cls := min 8 r.cls
                        master := r.master % 64, urg := min 3 r.urg, deadline := r.deadline, layer := r.layer, head := r.head }
    let q := s.queueReq m
    q.2.respond m q.1) s

/-- Every request of a region receives RETIRED: its windows are being re-homed (R343). -/
def State.flushRegion (s : State) (g : Nat) : State :=
  let ms := s.waiting g ++ (List.range 16).flatMap fun p => (s.pc (16 * g + p)).issued
  let s := (List.range 16).foldl (fun s p => s.modPc (16 * g + p) fun c =>
    { c with issued := [], banks := c.banks.map fun e => (e.1, { e.2 with queue := [], row := none }) })
    (s.modRegion g fun r => { r with input := [] })
  ms.foldl (fun s m =>
    let r := s.stopped m.addr ⟨m.cls, m.master, m.urg⟩ (.retired g)
    r.2.respond m r.1) s

/-! ## Refresh and row protection (R326-R328) -/

/-- Refresh a bank: its open row closes first. -/
def State.refreshBank (s : State) (p k : Nat) : State :=
  s.modPc p fun c => { c with refs := satInc 32 c.refs, banks := tmod {} c.banks k fun b => { b with row := none, debt := b.debt - 1 } }

/-- The bank of largest debt among those that satisfy a test, the lowest index on ties. -/
def Pc.mostDebt (c : Pc) (f : Bank → Bool) : Option Nat :=
  (c.banks.foldl (fun (a : Option (Nat × Nat)) e =>
    if !f e.2 ∨ e.2.debt = 0 then a
    else match a with
      | some x => if x.2 < e.2.debt then some (e.1, e.2.debt) else a
      | none => some (e.1, e.2.debt)) none).map (·.1)

/-- A reserved request of a region at urgency 2 or 3 defers refresh (R168, R326). -/
def State.refreshDeferred (s : State) (g : Nat) : Bool := (s.waiting g).any fun m => m.cls ≤ 2 && 2 ≤ s.standing m

/-- Issue a refresh into an idle bank, if one is owed and nothing defers it. -/
def State.idleRefresh (s : State) (p : Nat) : State :=
  if s.refreshDeferred (p / 16) then s
  else match (s.pc p).mostDebt fun b => b.queue.isEmpty && b.row.isNone with
    | some k => s.refreshBank p k
    | none => s

/-- Entry of lowest count in an activate table, the lower index on ties. -/
def lowestAct : List (Nat × Nat) → Nat × Nat
  | [] => (0, 0)
  | a :: t => t.foldl (fun m e => if e.2 < m.2 then e else m) a

/-- Count an activate of a row, and whether its neighbours must be refreshed (R327). -/
def countAct (acts : List (Nat × Nat)) (row threshold : Nat) : List (Nat × Nat) × Bool :=
  let acts := if acts.any (·.1 = row) then acts.map fun e => if e.1 = row then (row, e.2 + 1) else e
    else if acts.length < 16 then acts ++ [(row, 1)]
    else
      let m := lowestAct acts
      acts.map fun e => if e.1 = m.1 then (row, m.2 + 1) else e
  if acts.any fun e => e.1 = row && threshold ≤ e.2 then (acts.map fun e => if e.1 = row then (row, 0) else e, true)
  else (acts, false)

/-- Activate a row: another open row closes first, and the rotating pointer moves past the bank (R321, R327). -/
def State.activate (s : State) (p k row : Nat) : State :=
  let th := s.mem.rowprot
  s.modPc p fun c =>
    let r := countAct (tget {} c.banks k).acts row th
    { c with ptr := (k + 1) % 48, neighbour := if r.2 then satInc 32 c.neighbour else c.neighbour
             banks := tmod {} c.banks k fun b => { b with row := some row, idleFrom := s.now, acts := r.1 } }

/-- Tables of a bank at self-refresh entry: no row open, the activate table empty (R327, R335). -/
def Pc.enterSelfRef (c : Pc) : Pc :=
  { c with selfRef := true, banks := c.banks.map fun e => (e.1, { e.2 with row := none, acts := [] }) }

/-! ## The command slot (R321, R322) -/

/-- A command that a slot may choose: the request it serves, its effective urgency and rank, and whether its row is
open. -/
structure SlotCmd where
  req : MemReq
  urg : Nat
  rank : Nat
  column : Bool
  deriving DecidableEq, Repr

/-- The commands that a bank offers. A request waits behind an earlier one to its block, which takes its urgency and
rank (R320); `later` waits in the input queue, and a write waits for the reads in `out`, whose data are outstanding. -/
def State.bankCmds (s : State) (later out : List MemReq) (b : Bank) : List SlotCmd :=
  let q := b.queue
  (q.zip (List.range q.length)).filterMap fun e =>
    let same (m : MemReq) : Bool := m.addr / 64 = e.1.addr / 64
    if (q.take e.2).any same || (e.1.write && out.any same) then none
    else
      let l := (q ++ later).filter same
      some { req := e.1, urg := l.foldl (fun a m => max a (s.standing m)) 0, rank := l.foldl (fun a m => min a m.cls) e.1.cls
             column := b.row = some e.1.row }

/-- Whether a command goes before another under the keys of R321; `ptr` is the rotating pointer. -/
def SlotCmd.before (ptr : Nat) (a b : SlotCmd) : Bool :=
  if a.urg ≠ b.urg then b.urg < a.urg
  else if a.rank ≠ b.rank then a.rank < b.rank
  else if a.column ≠ b.column then a.column
  else if a.column then a.req.id < b.req.id
  else
    let d (c : SlotCmd) : Nat := (c.req.bank + 48 - ptr % 48) % 48
    if d a ≠ d b then d a < d b else a.req.id < b.req.id

/-- The command that a slot chooses. -/
def State.chosen (s : State) (p : Nat) : Option SlotCmd :=
  let c := s.pc p
  (c.banks.flatMap fun e => s.bankCmds (s.region (p / 16)).input c.issued e.2).foldl (fun a x => match a with
    | some y => if x.before c.ptr y then some x else a
    | none => some x) none

/-- A bank after a column access: the predictor counts a match of the row last accessed up and a miss down, and
decides whether the row stays open (R322). -/
def Bank.accessed (b : Bank) (row now : Nat) : Bank :=
  let pred := match b.lastRow with
    | some r => if r = row then min 3 (b.pred + 1) else b.pred - 1
    | none => b.pred
  { b with pred, lastRow := some row, idleFrom := now, row := if 2 ≤ pred then b.row else none }

/-- The column access of a request: a write stores its bytes, a read waits for its data (R314, R336). -/
def State.access (s : State) (m : MemReq) : State :=
  let s := s.modPc m.pc fun c => { c with banks := tmod {} c.banks m.bank fun b =>
    { (b.accessed m.row s.now) with queue := b.queue.filter (·.id ≠ m.id) } }
  let s :=
    if m.write then
      let r := s.storeBlock (m.pc / 16) m.addr m.data ⟨m.pc % 16, m.bank, m.row, m.col⟩ ⟨m.cls, m.master, s.standing m⟩
      r.2.respond m r.1
    else s.modPc m.pc fun c => { c with issued := c.issued ++ [m] }
  s.drain (m.pc / 16)

/-- A slot of a pseudo-channel: a bank at the postponement limit is refreshed ahead of every request; then the chosen
command; a slot with neither may refresh an idle bank (R321, R326). -/
def State.slotOf (s : State) (p : Nat) : State :=
  match (s.pc p).mostDebt fun b => 8 ≤ b.debt with
  | some k => s.refreshBank p k
  | none =>
    match s.chosen p with
    | some x => if x.column then s.access x.req else s.activate p x.req.bank x.req.row
    | none => s.idleRefresh p

/-! ## Retraining steps and entries into self-refresh (R331, R335) -/

/-- Start a retraining step that is due, when its conditions hold; the third consecutive skip waits for the other
steps of its region only (R331). -/
def State.tryStep (s : State) (p : Nat) : State :=
  let c := s.pc p
  let g := p / 16
  let other := (List.range 16).any fun i => (s.pc (16 * g + i)).stepping
  let urgent := c.queued.any fun m => 2 ≤ s.standing m
  if c.stepDue.isSome ∧ !other ∧ !c.selfRef ∧ !c.retired ∧ (!urgent ∨ 3 ≤ c.skips) then
    s.setPc p { c with stepping := true, stepEnd := s.now + 300, stepDue := none, skips := 0 }
  else s

/-- The self-refresh entry of a rate change, once no step is in progress and no pseudo-channel has an aborted attempt
to serve (R332, R333, R335). -/
def State.tryEntry (s : State) (d : Nat) : State :=
  let ps := (List.range 64).map (64 * d + ·)
  let rate := s.memRate d
  if rate.target.isSome ∧ rate.phase = 2 ∧ ps.all fun p =>
      let c := s.pc p
      c.retired || (!c.stepping && (c.queued.isEmpty || (2 ≤ c.aborts : Bool))) then
    (ps.foldl (fun s p => s.modPc p fun c => { c.enterSelfRef with aborts := 0 }) s).modMemRate d fun r => { r with phase := 1 }
  else s

/-- What a step of a region controller may let begin. -/
def State.memNext (s : State) (g : Nat) : State :=
  ((List.range 16).foldl (fun s p => s.tryStep (16 * g + p)) s).tryEntry (g / 4)

end Sys2Proof.Machine
end

