-- ==== Sys2Proof/Machine/MemEvents.lean ====
section
/-! DEFINITION. Steps of the region controllers and of the HBM interface (R322-R344, R410). -/

namespace Sys2Proof.Machine

/-- A pseudo-channel in service. -/
def State.pcOn (s : State) (p : Nat) : Bool := p < 128 && s.pcState p = 1

/-- A region in service. -/
def State.regionOn (s : State) (g : Nat) : Bool := g < 8 && s.regionState g = 1

/-- MEMORY_REQUEST_ARRIVAL (R410). -/
def execMemoryRequestArrival (r : MemReqIn) (s : State) : Host.Outcome State Fault Refusal := .next (settle (s.arriveReq r))

/-- COMMAND_SLOT: nothing is issued in self-refresh, during the pause of a retraining step, or while the windows of
the region are re-homed (R321, R331, R335, R343). -/
def execCommandSlot (pc : Nat) (s : State) : Host.Outcome State Fault Refusal :=
  .next (settle (
    let c := s.pc pc
    if !s.pcOn pc ∨ c.selfRef ∨ (c.stepping ∧ s.now < c.stepEnd) then s
    else if (s.region (pc / 16)).rehoming then s.flushRegion (pc / 16)
    else (s.slotOf pc).memNext (pc / 16)))

/-! ## Reads return (R336) -/

/-- A Mantel fetch that arrives after its deadline is handled as an unreadable block (R182). -/
def State.lateFetch (s : State) (m : MemReq) : State :=
  if m.cls = 0 ∧ m.deadline.any (· < s.now) then s.mantelLost m.head else s

/-- The data of a read return, with the bit errors that its cells have taken. -/
def State.readDone (s : State) (m : MemReq) (flips : List (Nat × BitVec 72)) : State :=
  let g := m.pc / 16
  let s := s.modPc m.pc fun c => { c with issued := c.issued.filter (·.id ≠ m.id) }
  let q : Req := ⟨m.cls, m.master, s.standing m⟩
  if (s.region g).rehoming then
    let r := s.stopped m.addr q (.retired g)
    r.2.respond m r.1
  else
    let r := (s.upset m.addr flips).judgeBlock g m.addr m.len ⟨m.pc % 16, m.bank, m.row, m.col⟩ q
    ((r.2.modRegion g fun x => { x with bytes := x.bytes + m.len }).respond m r.1).lateFetch m

/-- The read in progress of an identity. -/
def State.issuedRead (s : State) (id : Nat) : Option MemReq := s.mem.pcs.findSome? fun e => e.2.issued.find? (·.id = id)

/-- MEMORY_READ_COMPLETE (R313, R336). -/
def execMemoryReadComplete (id : Nat) (flips : List (Nat × BitVec 72)) (s : State) : Host.Outcome State Fault Refusal :=
  .next (settle (match s.issuedRead id with
    | some m => (s.readDone m flips).memNext (m.pc / 16)
    | none => s))

/-! ## Command and address parity (R337) -/

/-- Log a parity error of a request. -/
def State.logParity (s : State) (m : MemReq) (action : Nat) : State :=
  let g := m.pc / 16
  s.modRegion g (·.logAdd fun n =>
    logWords (m.addr % regionSpan) (some ⟨m.pc % 16, m.bank, m.row, m.col⟩) 0 (m.addr / 8 % 8) 3 m.cls m.master (s.standing m) 0 s.us n action)

/-- The repeat failed: every request involved receives an error response, and the third failure within 1 s retires the
pseudo-channel. -/
def State.parityFailed (s : State) (p : Nat) : State :=
  let g := p / 16
  let ms := (s.pc p).issued
  let seq := (s.region g).logSeq
  let s := ms.foldl (fun s m => s.logParity m 1) s
  let recent := ((s.pc p).parity.filter (s.now < · + 1000000000)) ++ [s.now]
  let s := (s.modPc p fun c => { c with issued := [], parity := recent }).detect g 37 (p % 16 + if ms.isEmpty then 0 else 256 * seq)
  let s := ms.foldl (fun s m => s.respond m .parity) s
  if 3 ≤ recent.length then s.retirePc p else s

/-- CA_PARITY_ERROR: the affected commands are repeated once (R337). -/
def execCaParityError (pc : Nat) (repeatOk : Bool) (s : State) : Host.Outcome State Fault Refusal :=
  .next (settle (
    if !s.pcOn pc then s
    else if repeatOk then (s.pc pc).issued.foldl (fun s m => s.logParity m 3) s
    else s.parityFailed pc))

/-! ## Retirement ends (R343, R344) -/

/-- Whether the bandwidth checks of a region hold. -/
def State.regionPasses (s : State) (g : Nat) : Bool :=
  s.quantities.all fun q => !((q.check = 5 || q.check = 6) && q.unit = noSlot (s.scopeOf 2 g) && q.over)

/-- Re-homing ends: what arrived meanwhile has received RETIRED, admission is judged again, and MEM.RETIRED tells what
each window lost. -/
def State.rehomed (s : State) (g : Nat) : State :=
  let s := (s.flushRegion g).refsLost g
  let s := s.modRegion g fun r => { r with rehoming := false }
  let ok := s.regionPasses g
  let r := s.region g
  let s := s.postU 0x0483 (s.scopeOf 2 g)
    ([r.retiredPc, (s.pcsOf g).length, b2n ok] ++ r.lostRanges.flatMap fun e => words64 e.1 ++ words64 e.2)
  if ok then s else s.detect g 40 (r.retiredPc % 16)

/-- RE_HOMING_COMPLETE (R344). -/
def execReHomingComplete (g : Nat) (s : State) : Host.Outcome State Fault Refusal :=
  .next (settle (if s.regionOn g ∧ (s.region g).rehoming then s.rehomed g else s))

/-! ## Refresh, rows and urgency (R322, R324-R328) -/

/-- REFRESH_INTERVAL: the debt of a bank rises, its open row closes, and an idle bank may be refreshed; in self-refresh
the stack refreshes itself (R322, R326). -/
def execRefreshInterval (pc bank : Nat) (s : State) : Host.Outcome State Fault Refusal :=
  .next (settle (
    if !s.pcOn pc ∨ 48 ≤ bank ∨ (s.pc pc).selfRef then s
    else
      let s := s.modPc pc fun c => { c with banks := tmod {} c.banks bank fun b => { b with debt := min 8 (b.debt + 1), row := none } }
      let s := if (tget {} (s.pc pc).banks bank).debt = 8 then s.detect (pc / 16) 34 (pc % 16) else s
      s.idleRefresh pc))

/-- REFRESH_WINDOW_END: the activate tables clear, and a new threshold applies (R327, R328). -/
def execRefreshWindowEnd (g : Nat) (s : State) : Host.Outcome State Fault Refusal :=
  .next (settle (
    if !s.regionOn g then s
    else
      let s := (List.range 16).foldl (fun s p => s.modPc (16 * g + p) fun c =>
        { c with banks := c.banks.map fun e => (e.1, { e.2 with acts := [] }) }) s
      { s with mem := { s.mem with rowprot := s.mem.rowprotNext } }))

/-- ROW_IDLE_TIMEOUT: an open row has been idle for 1 µs (R322). -/
def execRowIdleTimeout (pc bank : Nat) (s : State) : Host.Outcome State Fault Refusal :=
  .next (settle (
    if !s.pcOn pc ∨ 48 ≤ bank ∨ (tget {} (s.pc pc).banks bank).row.isNone then s
    else (advanceTo ((tget {} (s.pc pc).banks bank).idleFrom + 1000) s).modPc pc fun c =>
      { c with banks := tmod {} c.banks bank fun b => { b with row := none } }))

/-- URGENCY_RECOMPUTE: every 64 ns, from the slack of each deadline (R324). -/
def execUrgencyRecompute (g : Nat) (s : State) : Host.Outcome State Fault Refusal :=
  .next (settle (if s.regionOn g then s.setUrgency g s.urgency else s))

/-- UNRESERVED_AGE_TIMEOUT: the oldest unreserved request below urgency 1 has waited for 10 µs (R325). -/
def execUnreservedAgeTimeout (g : Nat) (s : State) : Host.Outcome State Fault Refusal :=
  .next (settle (
    if !s.regionOn g then s
    else match ((s.waiting g).filter fun m => 3 ≤ m.cls && m.cls ≤ 6 && m.urg = 0).foldl (fun a m => match a with
        | some t => some (min t m.at_)
        | none => some m.at_) none with
      | none => s
      | some t =>
        let s := advanceTo (t + 10000) s
        s.setUrgency g fun m => if 3 ≤ m.cls ∧ m.cls ≤ 6 then max m.urg (s.urgency m) else m.urg))

/-- WRITE_BUFFER_OVERFLOW of an audio port (keys 0-3) or a video input (keys 16-31): the frame in progress is
discarded and counted, and the region it is written to records the loss (R253, R325). -/
def execWriteBufferOverflow (src : Nat) (s : State) : Host.Outcome State Fault Refusal :=
  .next (settle (
    if 16 ≤ src ∧ src < 32 ∧ s.inputState (src - 16) = 1 then
      let i := s.input (src - 16)
      (s.dropFrame (src - 16)).detect (((i.bufs.getD i.writeBuf []).headD 0) / regionSpan) 43 0
    else if src < 4 ∧ s.audState src = 1 then (s.dropAudio src).detect ((s.aud src).base / regionSpan) 43 0
    else s))

/-! ## Retraining and self-refresh (R331, R335) -/

/-- RETRAIN_STEP_DUE (R331). -/
def execRetrainStepDue (pc : Nat) (s : State) : Host.Outcome State Fault Refusal :=
  .next (settle (
    if !s.pcOn pc ∨ (s.pc pc).stepDue.isSome ∨ (s.pc pc).stepping then s
    else (s.modPc pc fun c => { c with stepDue := some s.now }).memNext (pc / 16)))

/-- RETRAIN_STEP_SKIP: a step has not started within 20 µs; it is counted, and the third in a row stays due until no
other step of the region is in progress (R331). -/
def execRetrainStepSkip (pc : Nat) (s : State) : Host.Outcome State Fault Refusal :=
  .next (settle (
    match (s.pc pc).stepDue with
    | some t =>
      if !s.pcOn pc ∨ 3 ≤ (s.pc pc).skips then s
      else
        let s := advanceTo (t + 20000) s
        (s.modPc pc fun c =>
          { c with skips := c.skips + 1, skipTotal := satInc 32 c.skipTotal, stepDue := if c.skips = 2 then c.stepDue else none }).memNext (pc / 16)
    | none => s))

/-- RETRAIN_STEP_COMPLETE: a step that finds no passing setting retires its pseudo-channel (R331, R342). -/
def execRetrainStepComplete (pc : Nat) (pass : Bool) (s : State) : Host.Outcome State Fault Refusal :=
  .next (settle (
    if !s.pcOn pc ∨ !(s.pc pc).stepping then s
    else
      let s := s.modPc pc fun c => { c with stepping := false }
      (if pass then s else s.retirePc pc).memNext (pc / 16)))

/-- SELF_REFRESH_IDLE_ENTRY: no request for 50 µs and no refresh debt (R335). -/
def execSelfRefreshIdleEntry (pc : Nat) (s : State) : Host.Outcome State Fault Refusal :=
  .next (settle (
    let c := s.pc pc
    if !s.pcOn pc ∨ c.selfRef ∨ c.stepping ∨ !c.issued.isEmpty ∨ !c.queued.isEmpty ∨ c.banks.any (0 < ·.2.debt) ∨
      (s.waiting (pc / 16)).any (·.pc = pc) then s
    else (advanceTo (c.idleFrom + 50000) s).modPc pc (·.enterSelfRef)))

/-! ## Training cache and rate changes (R330, R332-R334) -/

/-- TRAINING_CACHE_WRITE: the results of a band are written, at most once every 10 minutes; what they are is not
modelled, and their CRC is a free value (R330; assumption 7). -/
def execTrainingCacheWrite (band : Nat) (s : State) : Host.Outcome State Fault Refusal :=
  .next (settle (
    let due := match tfind s.mem.cache band with
      | some e => e.1 + 600000000000 ≤ s.now
      | none => true
    if 10 < band ∨ !due then s
    else { s with
      freeCtr := s.freeCtr + 1
      mem := { s.mem with band, cachePtr := band, cache := tset s.mem.cache band (s.now, (Config.freeWord s.freeCtr).toNat) } }))

/-- MEMORY_CORE_LOCKED: the idle core has locked at the new rate, and the step waits for its entry (R296, R332). -/
def execMemoryCoreLocked (die : Nat) (s : State) : Host.Outcome State Fault Refusal :=
  .next (settle (
    let r := s.memRate die
    if s.dieState die = 1 ∧ r.target.isSome ∧ r.phase = 0 then
      let s := (List.range 64).foldl (fun s p => s.modPc (64 * die + p) fun c => { c with aborts := 0 })
        (s.modMemRate die fun r => { r with phase := 2 })
      s.tryEntry die
    else s))

/-- The step of a die ends: its pseudo-channels leave self-refresh, and held requests enter the scheduler in arrival
order with their current urgency (R333, R334). -/
def State.endRate (s : State) (d : Nat) : State :=
  let held := (s.memRate d).held
  let s := s.modMemRate d fun r => { r with target := none, phase := 0, issuer := none, held := [] }
  let s := (List.range 64).foldl (fun s p =>
    s.modPc (64 * d + p) fun c => { c with selfRef := (s.region (4 * d + p / 16)).gated, idleFrom := s.now }) s
  held.foldl (fun s m => s.enterSched { m with urg := s.urgency m }) s

/-- The reply of the MEM.RATE that began the step (R376, R385). -/
def State.endRateCmd (s : State) (d mbit : Nat) (ok : Bool) : State :=
  match (s.memRate d).issuer with
  | none => s
  | some (port, tag) => match s.runningCmd port tag with
    | none => s
    | some c => s.finish port c (if ok then [replyWord stOk (c.p 0 != mbit) 0, mbit] else [replyWord stFaulted false 0])

/-- The new rate is in force: the interface stays on the core that was idle (R296). -/
def State.rateChanged (s : State) (d mbit : Nat) : State :=
  let a := memorySet mbit
  let s := s.endRateCmd d mbit true
  let s := s.modMemRate d fun r => { r with mbit, core := 1 - r.core }
  let s := s.modSynth (136 + d) fun y => { y with target := mbit * 500000000, n := a.n, frac := a.f, p := a.p }
  (s.endRate d).postU 0x0480 (s.scopeOf 1 d) [d, mbit]

/-- Verification failed on a pseudo-channel: the die returns to its rate, and the command replies FAULTED (R334;
DESIGN CHOICE, assumption 30). -/
def State.rateFailed (s : State) (d p : Nat) : State :=
  (((s.endRateCmd d 0 false).endRate d).postU 0x0481 (s.scopeOf 1 d) [d, p]).detect (dieRec d 4) 0 (p % 64)

/-- RATE_CHANGE_VERIFIED (R333, R334). -/
def execRateChangeVerified (die : Nat) (failed : Option Nat) (s : State) : Host.Outcome State Fault Refusal :=
  .next (settle (
    match (s.memRate die).target with
    | some mbit =>
      if s.dieState die ≠ 1 ∨ (s.memRate die).phase ≠ 1 then s
      else match failed with
        | some p => s.rateFailed die p
        | none => s.rateChanged die mbit
    | none => s))

end Sys2Proof.Machine
end

