-- ==== Sys2Proof/Machine/LinkEvents.lean ====
section
/-! DEFINITION. Steps of the output links: hot plug, discovery, training and recovery (R222-R228, R230-R239, R242-R245,
R404). -/

namespace Sys2Proof.Machine

/-- A link in service, in a power state that samples its hot-plug input. -/
def State.linkOn (s : State) (l : Nat) : Bool :=
  l < 96 && s.linkState l = 1 && !(s.pwr.state = .off || s.pwr.state = .standby || s.pwr.state = .retain)

/-- Set a bit of a die's output-link record for a link (R472). -/
def State.linkBit (s : State) (l b : Nat) : State := s.detect (dieRec (l / 48) 6) b (l % 48)

/-- Post LINK.HOTPLUG: 0 plug, 1 unplug, 2 IRQ_HPD (R222, R223; DESIGN CHOICE on the codes, assumption 31). -/
def State.postHotplug (s : State) (l kind : Nat) : State := (s.postU 0x0980 s.scopePkg [l, kind]).linkBit l 3

/-! ## Failure (R223, R226, R233) -/

/-- Enter FAILED and post LINK.TRAINFAIL: cause 0 AUX, 1 TRAINING, with the last candidate and the phase. -/
def State.linkFailed (s : State) (l cause : Nat) (k : Cand) (phase : Nat) : State :=
  let s := (s.dropLink l 6).modLink l fun x => { x with failedIn := if cause = 0 then 2 else 3 }
  (s.postU 0x0983 s.scopePkg [l, cause, k.rate, k.lanes, phase]).linkBit l cause

/-- Begin a training with a list of candidates; the link holds its place. -/
def State.train (s : State) (l : Nat) (ks : List Cand) : State :=
  if ks.isEmpty then s.linkFailed l 1 {} 0
  else s.modLink l fun x => { x with state := 3, cands := ks, auxTries := 0, auxDefers := 0, restarted := false, restartDue := false }

/-! ## Hot plug (R222-R224) -/

/-- LINK_PLUG: HPD has been high for 2 ms. A DISABLED link ignores its HPD. -/
def execLinkPlug (l : Nat) (s : State) : Host.Outcome State Fault Refusal :=
  .next (settle (
    let x := s.link l
    if !s.linkOn l ∨ !x.enabled ∨ x.hpd then s
    else
      let s := (s.modLink l fun x => { x with hpd := true, restarted := false, restartDue := false }).postHotplug l 0
      if x.state = 1 then s.enterWork l 2 else s))

/-- LINK_UNPLUG: HPD has been low for 2 ms; the work in progress is aborted, and an AUX transaction has no answer. -/
def execLinkUnplug (l : Nat) (s : State) : Host.Outcome State Fault Refusal :=
  .next (settle (
    let x := s.link l
    if !s.linkOn l ∨ !x.enabled ∨ !x.hpd then s
    else (((s.modLink l fun x => { x with hpd := false }).postHotplug l 1).dropLink l 1).endAux l 3 []))

/-- HPD_GLITCH (R222). -/
def execHpdGlitch (l : Nat) (s : State) : Host.Outcome State Fault Refusal :=
  .next (settle (if s.linkOn l ∧ (s.link l).enabled then s.modLink l fun x => { x with glitches := satInc 32 x.glitches } else s))

/-! ## MST bindings (R237-R239) -/

/-- Post LINK.BINDHELD: cause 0 NO_MST_CAP, 1 NO_PATH (R238). -/
def State.postHeld (s : State) (l h : Nat) (d : SinkDesc) : State :=
  s.postU 0x0986 s.scopePkg [l, h, if d.mstCap then 1 else 0]

/-- Judge a head's MST binding to a link against what its sink offers: a binding that it does not offer is held and
reported, one that it offers again waits for the head's next vertical blanking (R238). -/
def State.judgeBind (s : State) (l : Nat) (d : SinkDesc) (h : Nat) : State :=
  let b := (s.head h).bind
  let s :=
    if b.link ≠ l ∨ !b.mst then s
    else if !SinkOffers d b.path then (s.modHead h fun x => { x with bind := { b with held := true } }).postHeld l h d
    else if b.held ∧ !(s.head h).running then s.putBind h { b with held := false }
    else s
  match (s.head h).pendingBind with
  | some b =>
    if b.link ≠ l ∨ !b.mst then s
    else
      let s' := s.modHead h fun x => { x with pendingBind := some { b with held := !SinkOffers d b.path } }
      if SinkOffers d b.path then s' else s'.postHeld l h d
  | none => s

/-- Judge every MST binding of a link. -/
def State.judgeBinds (s : State) (l : Nat) : State :=
  match (s.link l).sink with
  | none => s
  | some d =>
    let s := (s.boundTo l).foldl (fun s h => s.judgeBind l d h) s
    s.modLink l fun x => { x with mst := d.mstCap && (s.heads.any fun e => e.2.bind.link = l && e.2.bind.mst && !e.2.bind.held) }

/-! ## Recovery (R235) -/

/-- Candidates of a recovery: the trained configuration, then those of the list that lie below it. -/
def State.recoverCands (s : State) (l : Nat) : List Cand :=
  match (s.link l).trained with
  | none => s.candidates l
  | some t => t :: (s.candidates l).filter fun k => k.rate < t.rate || (k.rate = t.rate && k.lanes < t.lanes)

/-- A link has lost lock: LINK.LOST, its streams stop, and it retrains (R235, R236). -/
def State.lockLoss (s : State) (l : Nat) : State :=
  if (s.link l).state ≠ 4 then s
  else
    let ks := s.recoverCands l
    let s := s.modLink l fun x => { x with cands := ks, trained := none, retrainAll := false, irqLate := false, retrains := satInc 32 x.retrains }
    (((s.stopStreams l).enterWork l 5).postU 0x0984 s.scopePkg [l]).linkBit l 2

/-- LINK_LOCK_LOSS. -/
def execLinkLockLoss (l : Nat) (s : State) : Host.Outcome State Fault Refusal :=
  .next (settle (if s.linkOn l then s.lockLoss l else s))

/-- A change of topology that a branch reports (R239). -/
def State.retopo (s : State) (l : Nat) (topo : Option (List Nat)) : State :=
  match topo with
  | none => s
  | some ps => (s.modLink l fun x => { x with sink := x.sink.map fun d => { d with paths := ps } }).judgeBinds l

/-- IRQ_HPD: the service vector and lane status are read; during an attempt the lane status is read when it ends
(R223, R235, R239). -/
def execIrqHpd (l : Nat) (lanesLocked : Bool) (topo : Option (List Nat)) (s : State) : Host.Outcome State Fault Refusal :=
  .next (settle (
    if !s.linkOn l ∨ !(s.link l).enabled ∨ !(s.link l).hpd then s
    else
      let s := s.postHotplug l 2
      match (s.link l).state with
      | 4 => let s := s.retopo l topo
             if lanesLocked then s else s.lockLoss l
      | 3 => (s.modLink l fun x => { x with irqLate := x.irqLate || !lanesLocked }).retopo l topo
      | 5 => (s.modLink l fun x => { x with irqLate := x.irqLate || !lanesLocked }).retopo l topo
      | _ => s))

/-! ## Places (R224) -/

/-- LINK_TRAINING_SLOT_FREE: a free place goes to a waiting link whose head is armed, else to any; the lower index
first. -/
def execLinkTrainingSlotFree (die : Nat) (s : State) : Host.Outcome State Fault Refusal :=
  .next (settle (
    let w := (List.range 48).map (48 * die + ·) |>.filter fun l => (s.link l).waiting
    let armed := w.filter fun l => (s.boundTo l).any fun h => (s.head h).armed
    match (armed ++ w).head? with
    | some l => if die < 2 ∧ s.placesUsed die < 16 then s.modLink l fun x => { x with waiting := false } else s
    | none => s))

/-! ## AUX and discovery (R225-R227, R245) -/

/-- A transaction has failed for good: discovery restarts once after 100 ms, and then fails; a LINK.AUX ends with
TIMEOUT, or DEFER (R226, R245). -/
def State.auxFailed (s : State) (l code : Nat) : State :=
  let x := s.link l
  if x.state = 2 then
    if x.restarted then s.linkFailed l 0 {} 0
    else s.modLink l fun x => { x with restartDue := true, auxTries := 0, auxDefers := 0 }
  else s.endAux l code []

/-- A link with an AUX transaction of discovery or of LINK.AUX. -/
def State.auxBusy (s : State) (l : Nat) : Bool :=
  let x := s.link l
  s.linkOn l && (if x.state = 2 then !x.waiting && !x.restartDue else x.state ≠ 3 && x.state ≠ 5 && x.auxWait.isSome)

/-- A transaction without a reply in time: up to 3 retries. -/
def State.auxTimeout (s : State) (l : Nat) : State :=
  if 3 ≤ (s.link l).auxTries then s.auxFailed l 3 else s.modLink l fun x => { x with auxTries := x.auxTries + 1 }

/-- AUX_REPLY_TIMEOUT: 400 µs without a reply (R226). -/
def execAuxReplyTimeout (l : Nat) (s : State) : Host.Outcome State Fault Refusal :=
  .next (settle (if s.auxBusy l then s.auxTimeout l else s))

/-- AUX_TRANSACTION_REPLY (R226, R245). -/
def execAuxTransactionReply (l : Nat) (code : AuxCode) (data : List Byte) (s : State) : Host.Outcome State Fault Refusal :=
  .next (settle (
    if !s.auxBusy l then s
    else
      let next (k : Nat) : State := if (s.link l).state = 2 then s.modLink l fun x => { x with auxTries := 0, auxDefers := 0 }
        else s.endAux l k data
      match code with
      | .ack => next 0
      | .nack => next 1
      | .defer => if 7 ≤ (s.link l).auxDefers then s.auxFailed l 2 else s.modLink l fun x => { x with auxDefers := x.auxDefers + 1 }
      | .timeout => s.auxTimeout l))

/-- DISCOVERY_RESTART_TIMER: 100 ms after a failed transaction (R226). -/
def execDiscoveryRestartTimer (l : Nat) (s : State) : Host.Outcome State Fault Refusal :=
  .next (settle (
    let x := s.link l
    if s.linkOn l ∧ x.state = 2 ∧ x.restartDue then
      s.setLink l { x with restartDue := false, restarted := true, auxTries := 0, auxDefers := 0 }
    else s))

/-- DISCOVERY_COMPLETE: the sink is known, its MST bindings are judged, and training begins (R225, R232, R238). -/
def execDiscoveryComplete (l : Nat) (sink : SinkDesc) (s : State) : Host.Outcome State Fault Refusal :=
  .next (settle (
    let x := s.link l
    if s.linkOn l ∧ x.state = 2 ∧ !x.waiting ∧ !x.restartDue then
      let s := (s.setLink l { x with sink := some sink }).judgeBinds l
      s.train l (s.candidates l)
    else s))

/-! ## Training (R232-R235, R242, R244) -/

/-- Apply the stored mode rule of a head whose stored binding is to a link that has trained (R244). -/
def State.autoMode (s : State) (l h : Nat) : State :=
  let d := s.head h
  if !d.autoEn ∨ d.autoBind.link ≠ l ∨ d.bindP.link ≠ l ∨ d.modeP.isSome then s
  else
    let m := if d.autoRule = 1 then some d.autoMode else ((s.link l).sink.bind fun k => k.modes.head?).map sinkMode
    match m with
    | some m => if m.legal then (s.setModes m [h]).getD s else s
    | none => s

/-- The audio hold reason and the depth that LINK.TRAINED reports: those of the first head bound to the link. -/
def State.trainedWords (s : State) (l : Nat) : List Nat :=
  match (s.boundTo l).head? with
  | some h => [(s.head h).pendingDepth.getD (s.head h).depth, s.audioHold h]
  | none => [0, 1]

/-- A head of a link whose mode the new configuration does not carry (R235). -/
def State.uncarried (s : State) (l : Nat) : Bool :=
  (s.boundTo l).any fun h => (s.head h).modeP.isSome && !s.carried h (s.head h).rateP.1 (s.head h).rateP.2

/-- A candidate has trained (R233). -/
def State.trainingDone (s : State) (l : Nat) (k : Cand) : State :=
  let x := s.link l
  let first : Option Cand := match s.commandOn 0x0902 l with
    | some (_, c) => (if c.p 1 = 0 then s.candidates l else fromCand (c.p 1) (c.p 2) (s.candidates l)).head?
    | none => none
  let s := s.setLink l { x with
    state := 4, trained := some k, stored := some k, cands := [], retrainCmd := false, irqLate := false, restarted := false }
  let s := (s.boundTo l).foldl (fun s h => (s.autoMode l h).setDepth h) s
  let s := s.postU 0x0982 s.scopePkg ([l, k.rate, k.lanes, k.coding] ++ s.trainedWords l)
  let s := s.buildModes l (x.state = 3 || s.uncarried l)
  let s := (s.endTrainCmd l first).nextAux l
  if x.irqLate then s.lockLoss l else s

/-- The candidate in progress has failed: the next is tried, or the link fails (R233). -/
def State.attemptFailed (s : State) (l phase : Nat) : State :=
  let x := s.link l
  let s := s.setLink l { x with attempts := satInc 32 x.attempts, cands := x.cands.drop 1, irqLate := false }
  if (x.cands.drop 1).isEmpty then s.linkFailed l 1 (x.cands.headD {}) phase else s

/-- A link in TRAIN or RECOVER that holds its place. -/
def State.trainingOn (s : State) (l : Nat) : Bool :=
  s.linkOn l && ((s.link l).state = 3 || (s.link l).state = 5) && !(s.link l).waiting && !(s.link l).cands.isEmpty

/-- TRAINING_ATTEMPT_END (R233). -/
def execTrainingAttemptEnd (l : Nat) (ok : Bool) (phase : Nat) (s : State) : Host.Outcome State Fault Refusal :=
  .next (settle (
    if !s.trainingOn l then s
    else if ok then s.trainingDone l ((s.link l).cands.headD {}) else s.attemptFailed l phase))

/-- TRAINING_ATTEMPT_TIMEOUT (R233). -/
def execTrainingAttemptTimeout (l phase : Nat) (s : State) : Host.Outcome State Fault Refusal :=
  .next (settle (if s.trainingOn l then s.attemptFailed l phase else s))

/-- LINK_FAILED_RETRY: 1 s after a failure, discovery or the training list starts again (R223, R233). -/
def execLinkFailedRetry (l : Nat) (s : State) : Host.Outcome State Fault Refusal :=
  .next (settle (
    let x := s.link l
    if !s.linkOn l ∨ x.state ≠ 6 then s
    else if x.failedIn = 2 then s.enterWork l 2
    else
      let ks := s.candidates l
      if ks.isEmpty then s.linkFailed l 1 {} 0 else (s.modLink l fun x => { x with cands := ks }).enterWork l 3))

end Sys2Proof.Machine
end

