-- ==== Sys2Proof/Machine/InputEvents.lean ====
section
/-! DEFINITION. Steps of the video inputs: training, lines and frames of the stream, capture and its ring, the
no-signal timeout (R246-R267). -/

namespace Sys2Proof.Machine

/-- An input in service and enabled. -/
def State.inputOn (s : State) (v : Nat) : Bool := v < 16 && s.inputState v = 1 && (s.input v).enabled

/-- An input that receives a stream. -/
def State.streamOn (s : State) (v : Nat) : Bool := s.inputOn v && (s.input v).trained.isSome

/-! ## Training and loss (R246-R248, R257) -/

/-- Post an input condition, which INPUT.STATUS then reports (R257). -/
def State.inputCond (s : State) (v st : Nat) : State := (s.modInput v fun i => { i with state := st }).postInput v st

/-- INPUT_SOURCE_TRAINING: a source trains the input's link; one that attempts an unsupported rate fails clock
recovery (R246). -/
def execInputSourceTraining (v rate lanes : Nat) (s : State) : Host.Outcome State Fault Refusal :=
  .next (settle (
    if !s.inputOn v ∨ !(s.input v).hpd then s
    else
      let s := if (s.input v).trained.isSome then s.inputLost v else s
      if [8100, 10000, 13500].contains rate ∧ [1, 2, 4].contains lanes then
        s.modInput v fun i => { i with trained := some { rate, lanes }, good := 0 }
      else (s.modInput v fun i => { i with trained := none }).inputCond v 7))

/-- INPUT_SYMBOL_LOCK_LOSS: the source is asked to retrain by an IRQ_HPD pulse (R248, R257). -/
def execInputSymbolLockLoss (v : Nat) (s : State) : Host.Outcome State Fault Refusal :=
  .next (settle (
    if s.streamOn v then
      (s.inputLost v).modInput v fun i => { i with trained := none, irqPulses := satInc 32 i.irqPulses }
    else s))

/-- INPUT_LINE_TIMEOUT: no line starts within 4 established line periods (R257). -/
def execInputLineTimeout (v : Nat) (s : State) : Host.Outcome State Fault Refusal :=
  .next (settle (if s.streamOn v then s.inputLost v else s))

/-- INPUT_EDID_HPD_TIMER: HPD has been low for 100 ms after INPUT.EDID (R247). -/
def execInputEdidHpdTimer (v : Nat) (s : State) : Host.Outcome State Fault Refusal :=
  .next (settle (if s.inputOn v then s.modInput v fun i => { i with hpd := true } else s))

/-- INPUT_NOSIGNAL_TIMEOUT (R259). -/
def execInputNosignalTimeout (v : Nat) (s : State) : Host.Outcome State Fault Refusal :=
  .next (settle (
    match (s.input v).lostAt with
    | some t => if s.inputOn v then (advanceTo (t + (s.input v).timeout * 1000000) s).noSignal v else s
    | none => s))

/-- INPUT_AUDIO_STOP: the stream has carried no audio SDP for 4 sample periods (R267). -/
def execInputAudioStop (v : Nat) (s : State) : Host.Outcome State Fault Refusal :=
  .next (settle (if s.inputOn v then s.audioStop (16 + v) 2 else s))

/-! ## Writing a captured line (R252, R253) -/

/-- A component of stream depth `d` at the format's depth `n` (R252). -/
def captureComp (rgb : Bool) (d n c : Nat) : Nat :=
  if n < d then min (2 ^ n - 1) ((c + 2 ^ (d - n - 1)) / 2 ^ (d - n))
  else if rgb then widen d (c % 2 ^ d) / 2 ^ (16 - n)
  else c * 2 ^ (n - d)

/-- Depth of a capture format (R89). -/
def captureDepth (f : Nat) : Nat := if f = 0 ∨ f = 5 then 8 else 10

/-- The elements of a line in a plane of a capture format (R89, R252). -/
def captureLine (f pl d : Nat) (px : List Pix) : List Nat :=
  let n := captureDepth f
  let q (c : Nat) : Nat := captureComp (f ≤ 3) d n c
  let at' (i : Nat) : Pix := px.getD i ⟨0, 0, 0⟩
  match f with
  | 0 => px.map fun p => q p.c2 + 2 ^ 8 * q p.c1 + 2 ^ 16 * q p.c0 + 2 ^ 24 * 255
  | 3 => px.map fun p => q p.c2 + 2 ^ 10 * q p.c1 + 2 ^ 20 * q p.c0 + 2 ^ 30 * 3
  | 5 => if pl = 0 then px.map fun p => q p.c0
         else (List.range (px.length / 2)).map fun i => q (at' (2 * i)).c1 + 2 ^ 8 * q (at' (2 * i)).c2
  | 6 => if pl = 0 then px.map fun p => 64 * q p.c0
         else (List.range (px.length / 2)).map fun i => 64 * q (at' (2 * i)).c1 + 2 ^ 22 * q (at' (2 * i)).c2
  | 7 => (List.range (px.length / 2)).map fun i =>
      64 * q (at' (2 * i)).c0 + 2 ^ 22 * q (at' (2 * i)).c1 + 2 ^ 38 * q (at' (2 * i + 1)).c0 + 2 ^ 54 * q (at' (2 * i)).c2
  | _ => px.map fun p => q p.c1 + 2 ^ 10 * q p.c0 + 2 ^ 20 * q p.c2 + 2 ^ 30 * 3

/-- Write elements of one line of a plane, as many as lie together at a time; tells whether every write was
answered OK. -/
def State.writeElems (s : State) (v pl y : Nat) (es : List Nat) : State × Bool :=
  let i := s.input v
  let src := i.ringSource
  let base := (i.bufs.getD i.writeBuf []).getD pl 0
  let n := elemBytes src.format pl
  let run := if src.tiled then 4 else max 1 (64 / n)
  (List.range (ceilDiv es.length run)).foldl (fun (a : State × Bool) k =>
    let r := a.1.write (base + elemOffset src pl (run * k) y) (((es.drop (run * k)).take run).flatMap (leBytes n)) (ioReq (16 + v))
    (r.2, a.2 && r.1 = .ok)) (s, true)

/-- Write a line of the frame in progress into its buffer; a write that errs discards the frame (R253, R419). -/
def State.captureRow (s : State) (v y : Nat) (px : List Pix) : State :=
  let i := s.input v
  if !i.writing ∨ i.capH ≤ y then s
  else
    let f := i.capFormat
    let a := s.writeElems v 0 y (captureLine f 0 i.depth px)
    let b := if fmt420 f ∧ y % 2 = 0 then a.1.writeElems v 1 (y / 2) (captureLine f 1 i.depth px) else (a.1, true)
    if a.2 ∧ b.2 then b.1 else b.1.dropFrame v

/-! ## Starting a captured frame (R251, R253, R255) -/

/-- The buffer that the next frame is written to: for a bound ring the next one, in ring order, that is neither in use
nor the newest; else strictly the next (R255). -/
def State.nextBuffer (s : State) (v : Nat) : Option Nat :=
  let i := s.input v
  let n := max 1 i.bufs.length
  if (s.boundLayers v).isEmpty then some i.writeBuf
  else ((List.range n).map fun k => (i.writeBuf + k) % n).find? fun b => !(i.inUse.any (·.1 = b)) && i.newest ≠ some b

/-- The first line of a frame: whether it is captured, and into which buffer (R251, R253, R255). -/
def State.startCapture (s : State) (v : Nat) : State :=
  let s := s.dropFrame v
  let s := s.modInput v fun i => { i with directLine := [], frameStart := s.now }
  let i := s.input v
  if !i.capOn ∨ !i.delivers ∨ i.bufs.isEmpty then s
  else
    let early := match i.sinceStart with
      | some t => (t * 1000 * i.fmax < 995 * 10 ^ 12 : Bool)
      | none => false
    match if early then none else s.nextBuffer v with
    | some b => s.setInput v { i with writing := true, writeBuf := b, sinceStart := some 0 }
    | none => s.setInput v { i with dropped := satInc 32 i.dropped }

/-! ## INPUT_LINE_END (R253, R257, R258) -/

/-- A line of the established stream glitches: the frame is discarded, and the event is posted at most once per
second. -/
def State.glitch (s : State) (v : Nat) : State :=
  let s := (s.dropFrame v).modInput v fun i => { i with glitches := satInc 32 i.glitches }
  match (s.input v).glitchAt with
  | some t => if s.now < t + 1000000000 then s else (s.modInput v fun i => { i with glitchAt := some s.now }).inputCond v 6
  | none => (s.modInput v fun i => { i with glitchAt := some s.now }).inputCond v 6

/-- The intermediate components of a received line (R249). -/
def Input.lineComps (i : Input) (px : List Pix) : List Nat :=
  px.flatMap fun p => [p.c0, p.c1, p.c2].map fun c => (streamComp (i.encoding = 0) i.depth c).toNat

/-- A line of the stream; excess pixels are discarded. -/
def State.lineEnd (s : State) (v y period : Nat) (px : List Pix) : State :=
  let s := if y = 0 then s.startCapture v else s
  let i := s.input v
  if !i.acquired then s
  else
    let off := if i.linePs ≤ period then period - i.linePs else i.linePs - period
    let s := if i.linePs < 100 * off ∨ px.length ≠ i.msa.wa then s.glitch v else s
    let px := px.take i.msa.wa
    let s := s.captureRow v y px
    s.modInput v fun i => { i with directLine := tset i.directLine y (i.lineComps px) }

/-- INPUT_LINE_END: an active line of the stream has ended. -/
def execInputLineEnd (v line periodPs : Nat) (pixels : List Pix) (s : State) : Host.Outcome State Fault Refusal :=
  .next (settle (if s.streamOn v then s.lineEnd v line periodPs pixels else s))

/-! ## INPUT_FRAME_END (R248, R251, R256-R259) -/

/-- The timing of a received frame; its syncs are not measured. -/
def inFrameMode (f : InFrame) : Mode := { rate := f.rate, wa := f.wa, htot := f.htot, ha := f.ha, vtot := f.vtot }

/-- A good frame (R256). -/
def inFrameGood (f : InFrame) : Bool := f.linesOk && f.steady

/-- What a format change is judged by (R257). -/
def Input.sameFormat (i : Input) (f : InFrame) : Bool :=
  i.msa.wa = f.wa && i.msa.htot = f.htot && i.msa.ha = f.ha && i.msa.vtot = f.vtot && i.encoding = f.encoding && i.depth = f.depth

/-- An input takes the timing, encoding, depth and colorimetry of a frame. -/
def Input.takeFormat (i : Input) (f : InFrame) : Input :=
  { i with msa := inFrameMode f, encoding := f.encoding, depth := f.depth, colorimetry := f.colorimetry }

/-- Capture formats that an encoding allows (R251). -/
def captureAllows (encoding format : Nat) : Bool :=
  match encoding with
  | 0 => format = 0 || format = 3
  | 1 => format = 8
  | 2 => format = 7
  | _ => format = 5 || format = 6

/-- Why a stream is held: 0 not, 1 FORMAT, 2 OVERSIZE, 3 SIZE (R246, R248, R251). -/
def Input.holdReason (i : Input) (f : InFrame) : Nat :=
  if f.interlaced then 1
  else if f.wa < 64 ∨ 8192 < f.wa ∨ f.ha < 64 ∨ 8192 < f.ha ∨ 1500000000 < f.rate then 2
  else if i.capOn ∧ (i.capW ≠ f.wa ∨ i.capH ≠ f.ha) then 3
  else if i.capOn ∧ !captureAllows f.encoding i.capFormat then 1
  else 0

/-- Δ of the direct layers of an input (R262). -/
def State.inputDeltas (s : State) (v : Nat) : State :=
  (s.boundLayers v).foldl (fun s l => if (s.layer l).bindMode = 2 then s.setDelta l else s) s

/-- Note why an acquired stream is held. A new reason is posted and starts the no-signal timeout; the end of one is
posted too (R248, R251, R259). -/
def State.hold (s : State) (v r : Nat) : State :=
  let i := s.input v
  if i.reason = r then s
  else
    let s := (s.dropFrame v).modInput v fun i => { i with reason := r, lostAt := if r = 0 then none else i.lostAt }
    let s := s.inputCond v 1
    if r ≠ 0 ∧ (i.reason = 0 ∧ i.lostAt.isNone) then s.startNoSignal v else s

/-- The second good frame: the stream is acquired (R256). -/
def State.acquire (s : State) (v : Nat) (f : InFrame) : State :=
  let i := s.input v
  let r := i.holdReason f
  let s := s.setInput v { i.takeFormat f with
    acquired := true, good := 2, rateCnt := 0, linePs := (i.sumLine + f.linePs) / 2, framePs := (i.sumFrame + f.framePs) / 2
    reason := r, lostAt := if r = 0 then none else i.lostAt }
  let s := ((s.inputCond v 1).inputDeltas v).leaderBack .input v
  if r ≠ 0 ∧ (s.input v).lostAt.isNone then s.startNoSignal v else s

/-- A frame of a stream that is not acquired. -/
def State.seekFrame (s : State) (v : Nat) (f : InFrame) : State :=
  let i := s.input v
  if !inFrameGood f then s.setInput v { i with good := 0 }
  else if 1 ≤ i.good ∧ i.sameFormat f then s.acquire v f
  else s.setInput v { i.takeFormat f with good := 1, sumLine := f.linePs, sumFrame := f.framePs }

/-- The format of an acquired stream has changed: it is acquired again, and its followers coast (R257, R258). -/
def State.formatChange (s : State) (v : Nat) (f : InFrame) : State :=
  let s := (s.dropFrame v).modInput v fun i => { i.takeFormat f with acquired := false, good := 0, rateCnt := 0, reason := 1 }
  let s := (((s.inputCond v 4).leaderLost .input v 0).startNoSignal v)
  (s.modInput v fun i => { i with reason := if i.state = 5 then 0 else i.reason }).seekFrame v f

/-- The frame period of an acquired stream: the fourth frame in a row off by more than 0.5 % sets a new one (R257). -/
def State.rateCheck (s : State) (v : Nat) (f : InFrame) : State :=
  let i := s.input v
  let off := if i.framePs ≤ f.framePs then f.framePs - i.framePs else i.framePs - f.framePs
  if 200 * off ≤ i.framePs then s.setInput v { i with rateCnt := 0 }
  else if i.rateCnt < 3 then s.setInput v { i with rateCnt := i.rateCnt + 1 }
  else
    let s := s.setInput v { i with rateCnt := 0, framePs := f.framePs, linePs := f.linePs, msa := { i.msa with rate := f.rate } }
    (s.inputCond v 3).inputDeltas v

/-- INPUT_FRAME_END: a frame of the stream has been measured. -/
def execInputFrameEnd (v : Nat) (f : InFrame) (s : State) : Host.Outcome State Fault Refusal :=
  .next (settle (
    if !s.streamOn v then s
    else
      let s := s.modInput v fun i => { i with sinceStart := i.sinceStart.map (· + f.framePs) }
      let i := s.input v
      if !i.acquired then s.seekFrame v f
      else if !i.sameFormat f then s.formatChange v f
      else (s.rateCheck v f).hold v (i.holdReason f)))

/-! ## CAPTURE_FRAME_COMPLETE (R253-R255, R259) -/

/-- A captured frame is complete: it is counted and stamped, the token fires, the ring moves on, and layers bound to
the ring may show it. -/
def State.captured (s : State) (v : Nat) : State :=
  let i := s.input v
  let n := (i.capCount + 1) % 2 ^ 32
  let s := s.setInput v { i with
    capCount := n, stamps := tset i.stamps i.writeBuf (n, i.frameStart), newest := some i.writeBuf, writing := false
    writeBuf := (i.writeBuf + 1) % max 1 i.bufs.length }
  let s := match i.capToken with
    | some k => s.fireToken k 1
    | none => s
  (s.boundLayers v).foldl (fun s l =>
    let s := if (s.layer l).bindMode = 1 then s.modLayer l fun x => { x with nosignal := false } else s
    if (s.leadHead l).isNone then s.selectRing l none else s) s

/-- CAPTURE_FRAME_COMPLETE: the write of the last pixel of the frame in progress has completed. -/
def execCaptureFrameComplete (v : Nat) (s : State) : Host.Outcome State Fault Refusal :=
  .next (settle (if s.inputOn v ∧ (s.input v).writing then s.captured v else s))

end Sys2Proof.Machine
end

