-- ==== Sys2Proof/Machine/AudioEvents.lean ====
section
/-! DEFINITION. Steps of the audio ports and of the audio of inputs: WS periods, measurement windows, clock stops, the
partial-block timer and the timeout of a waiting change (R266-R278). -/

namespace Sys2Proof.Machine

/-- An audio source in service and enabled; that of an input has its stream (R266, R268). -/
def State.audioOn (s : State) (k : Nat) : Bool :=
  (s.aud k).enabled && if k < 4 then s.audState k = 1 else 16 ≤ k && s.streamOn (k - 16)

/-! ## AUDIO_WS_PERIOD (R269-R273) -/

/-- The bits of a slot of a port, of the BCLK edges from the one after a WS change to the one after the next: I2S starts
one edge later than LEFT_JUSTIFIED (R269). An input's sample has no slot (R266). -/
def Audio.slotBits (a : Audio) (k : Nat) (bs : List Bool) : List Bool :=
  if 4 ≤ k then bs else if a.leftJust then bs.dropLast else bs.drop 1

/-- The sample of a slot: its first bits up to the sample width, MSB first; missing low bits are 0 (R269, R270). -/
def Audio.sampleOf (a : Audio) (bs : List Bool) : Int :=
  toS a.width ((List.range a.width).foldl (fun n i => 2 * n + (bs.getD i false).toNat) 0)

/-- Slot errors of a half-period (R270). -/
def Audio.slotErr (a : Audio) (k : Nat) (bs : List Bool) : Nat := if k < 4 ∧ bs.length ≠ a.slot + 1 then 1 else 0

/-- A WS period that differs from the reference period by more than 12.5 % (R272). -/
def Audio.isGlitch (a : Audio) (ticks : Nat) : Bool :=
  let p := ticks * a.refEdges
  a.refTicks < 8 * (if p ≤ a.refTicks then a.refTicks - p else p - a.refTicks)

/-- A frame of an acquired source: a glitch repeats the previous samples; the frame is written and reaches the
routed heads. -/
def State.wsPeriod (s : State) (k ticks : Nat) (b1 b2 : List Bool) : State :=
  let a := s.aud k
  let x := a.sampleOf (a.slotBits k b1)
  let y := a.sampleOf (a.slotBits k b2)
  let g := a.isGlitch ticks
  let x := if g then a.prev.getD 0 0 else x
  let y := if g then a.prev.getD 1 0 else y
  let s := s.setAud k { a with prev := [x, y], glitches := if g then satInc 32 a.glitches else a.glitches }
  (s.audioFrame k x y).audioToHeads k x y

/-- AUDIO_WS_PERIOD: a WS period of `ticks` of the reference has ended. -/
def execAudioWsPeriod (src ticks : Nat) (ch1 ch2 : List Bool) (s : State) : Host.Outcome State Fault Refusal :=
  .next (settle (
    if !s.audioOn src then s
    else
      let s := s.modAud src fun a => { a with slotErrs := min 0xFFFFFFFF (a.slotErrs + a.slotErr src ch1 + a.slotErr src ch2) }
      if (s.aud src).acquired then s.wsPeriod src ticks ch1 ch2 else s))

/-! ## AUDIO_WINDOW_END (R271, R272) -/

/-- The standard sample rates in Hz (R271). -/
def standardRates : List Nat := [32000, 44100, 48000, 88200, 96000, 176400, 192000]

/-- Distance of two numbers. -/
def rateDist (a b : Nat) : Nat := if a ≤ b then b - a else a - b

/-- The nearest standard rate of a rate in mHz, in Hz (R271). -/
def nearestRate (r : Nat) : Nat :=
  standardRates.foldl (fun best x => if rateDist (1000 * x) r < rateDist (1000 * best) r then x else best) 32000

/-- A source reports a measured rate (R271). -/
def Audio.report (a : Audio) (r : Nat) : Audio :=
  let n := nearestRate r
  { a with rate := r, nearest := n, offStd := 1000 * n < 100 * rateDist (1000 * n) r }

/-- A window's mean rate lies between 8 and 200 kHz (R271). -/
def windowInRange (edges ticks : Nat) : Bool :=
  2 ≤ edges && 0 < ticks && 8000 * ticks ≤ (edges - 1) * 25000000 && (edges - 1) * 25000000 ≤ 200000 * ticks

/-- Every WS period of a window lies within 12.5 % of its mean (R271). -/
def windowSteady (edges ticks lo hi : Nat) : Bool :=
  7 * ticks ≤ 8 * (lo * (edges - 1)) && 8 * (hi * (edges - 1)) ≤ 9 * ticks

/-- A RATE condition: the event is posted and the source's rate-change interrupt source raised (R272). -/
def State.audioRate (s : State) (k r : Nat) : State :=
  let old := (s.aud k).rate
  let s := s.modAud k fun a => a.report r
  let s := s.postU 0x0B81 s.scopePkg [k, old, r, (s.aud k).nearest]
  if k < 4 then s.detect (dieRec (k / 2) 8) 2 (k % 2) else s.raise (inputSource (k - 16))

/-- A measurement window ends, with its measured rate in mHz. -/
def State.audioWindow (s : State) (k edges ticks lo hi r : Nat) : State :=
  let a := s.aud k
  if a.acquired then
    if !windowInRange edges ticks then s.audioStop k 3
    else
      let s := s.setAud k { a with refEdges := edges - 1, refTicks := ticks }
      if a.rate < 200 * rateDist r a.rate then s.audioRate k r else s
  else if windowInRange edges ticks ∧ windowSteady edges ticks lo hi then
    let s := s.setAud k { a.report r with acquired := true, state := 1, refEdges := edges - 1, refTicks := ticks }
    (s.postU 0x0B80 s.scopePkg [k, 0, r]).audioResume k
  else s

/-- AUDIO_WINDOW_END: a window of 10 ms has ended. The rule does not say how the rate in mHz is rounded: a free value
(assumption 17). -/
def execAudioWindowEnd (src edges ticks minTicks maxTicks : Nat) (s : State) : Host.Outcome State Fault Refusal :=
  .next (settle (
    if !s.audioOn src then s
    else
      let num := (edges - 1) * 25000000000
      let up := if num % max 1 ticks = 0 then 0 else (Config.freeBool s.freeCtr).toNat
      let s : State := { s with freeCtr := s.freeCtr + 1 }
      s.audioWindow src edges ticks minTicks maxTicks (num / max 1 ticks + up)))

/-! ## Clock stops and timers (R272, R274, R276) -/

/-- AUDIO_WS_TIMEOUT: no WS edge has arrived for 4 reference periods. -/
def execAudioWsTimeout (src : Nat) (s : State) : Host.Outcome State Fault Refusal :=
  .next (settle (if s.audioOn src then s.audioStop src 2 else s))

/-- AUDIO_PARTIAL_BLOCK_TIMER: a partial block is written 1 ms after its first byte arrived. -/
def execAudioPartialBlockTimer (src : Nat) (s : State) : Host.Outcome State Fault Refusal :=
  .next (settle (
    match (s.aud src).blockAt with
    | some t => if s.audioOn src then (advanceTo (t + 1000000) s).audioPartial src else s
    | none => s))

/-- AUDIO_CHANGE_TIMEOUT: a waiting change reaches its timeout; it takes effect at the first sample after it, or at
once where no source gives samples (R276, R278). -/
def execAudioChangeTimeout (h ch : Nat) (s : State) : Host.Outcome State Fault Refusal :=
  .next (settle (
    match (s.head h).audioWait.getD ch none with
    | some (k, t) =>
      let s := advanceTo t s
      let src := (s.head h).audioCh.getD ch 255
      if src = 255 ∨ !(s.aud src).acquired then s.audioEffect h ch k 1 else s
    | none => s))

end Sys2Proof.Machine
end

