-- ==== Sys2Proof/Machine/DmaEvents.lean ====
section
/-! DEFINITION. Steps of the Retriever channels: descriptors, requests, retries, ends of chains and drains
(R445-R455, R459). -/

namespace Sys2Proof.Machine

/-- A channel that may act on its own: it runs, and is neither being stopped nor waiting to reissue; while the HBM
trains, package requests are held (R446, R452, R509). -/
def State.chanGoes (s : State) (ch : Nat) (host : Bool) : Bool :=
  let c := s.chan ch
  ch < 32 && s.chanState ch = 1 && !c.stopping && !c.retryWait && (host || !s.hbmStep)

/-- The answered bytes of a host read. -/
def hostBytes (b : List Byte) (n : Nat) : List Byte := (List.range n).map fun i => b.getD i 0

/-! ## DMA_DESCRIPTOR_FETCHED (R445, R446, R448) -/

/-- A channel's descriptor has been read, from host memory as given, or from the package. -/
def State.fetched (s : State) (ch : Nat) (host : List Byte) : State :=
  let c := s.chan ch
  if c.curHost then
    if s.hostOk ch then s.startDesc ch (descOf (hostBytes host 32)) else s.chanHalt ch 6 1
  else
    let r := s.read c.cur 32 c.req
    if r.1 = .ok then r.2.2.startDesc ch (descOf r.2.1) else r.2.2.chanError ch r.1

/-- DMA_DESCRIPTOR_FETCHED. A pause takes effect before the next descriptor is read (R453). -/
def execDmaDescriptorFetched (ch : Nat) (host : List Byte) (s : State) : Host.Outcome State Fault Refusal :=
  .next (settle (
    let c := s.chan ch
    if s.chanGoes ch c.curHost ∧ c.state = 1 ∧ c.fetching then s.fetched ch host else s))

/-! ## DMA_REQUEST_RESPONSE (R449, R452) -/

/-- The store of a CHECK's result is still to be made (R459). -/
def Chan.storeDue (c : Chan) (d : Desc) : Bool := d.op = 3 && d.flag 12 && c.remain = 0 && 0 < d.len && c.dst = d.dst

/-- The bytes of the next request: it stays within a 64-byte block of the address it is issued by (R447). -/
def Chan.reqBytes (c : Chan) (d : Desc) : Nat :=
  let a := if d.op = 1 then c.dst else c.src
  min c.remain (64 - a % 64)

/-- Read `n` bytes for a channel: from the host as given, or from the package. -/
def State.dmaRead (s : State) (ch : Nat) (host : Bool) (a n : Nat) (given : List Byte) : DmaResp × List Byte × State :=
  if host then (.ok, hostBytes given n, s) else s.read a n (s.chan ch).req

/-- Write bytes for a channel. -/
def State.dmaWrite (s : State) (ch : Nat) (host : Bool) (a : Nat) (d : List Byte) : DmaResp × State :=
  if host then (.ok, s.writeHost a d) else s.write a d (s.chan ch).req

/-- Bytes transferred: the registers name the first byte not yet transferred (R452). -/
def Chan.moved (c : Chan) (d : Desc) (n : Nat) : Chan :=
  { c with src := if d.op = 1 then c.src else c.src + n, dst := if d.op = 3 then c.dst else c.dst + n
           remain := c.remain - n }

/-- Compare two byte strings at an offset of the descriptor (R449). -/
def Chan.compare (c : Chan) (d : Desc) (x y : List Byte) : Chan :=
  (List.range x.length).foldl (fun c i =>
    if x.getD i 0 = y.getD i 0 then c
    else { c with cmpOff := if c.cmpCnt = 0 then (d.len - c.remain + i) % 2 ^ 32 else c.cmpOff, cmpCnt := satInc 32 c.cmpCnt }) c

/-- The data that a COPY or a FILL writes; a COPY between overlapping ranges leaves its destination undefined: free
bytes (R449, assumption 7). -/
def Chan.dataFor (c : Chan) (d : Desc) (x : List Byte) (n ctr : Nat) : List Byte :=
  if d.op = 1 then (List.range n).map fun i => BitVec.ofNat 8 (d.src / 256 ^ ((d.len - c.remain + i) % 8))
  else if c.overlap then (List.range n).map fun i => Config.freeByte ctr (c.dst + i)
  else x

/-- A request whose reads have succeeded moves its bytes: COPY and FILL write, COMPARE compares, CHECK feeds its
unit (R449). -/
def State.dmaMove (s : State) (ch : Nat) (d : Desc) (n : Nat) (x y : List Byte) : State :=
  let c := s.chan ch
  match d.op with
  | 2 => s.setChan ch ((c.compare d x y).moved d n)
  | 3 => (s.modCv (s.unitOf ch) fun u => u.feed x).setChan ch (c.moved d n)
  | _ =>
    let r := s.dmaWrite ch (d.flag 8) c.dst (c.dataFor d x n s.freeCtr)
    let s : State := { r.2 with freeCtr := r.2.freeCtr + 1 }
    if r.1 = .ok then s.setChan ch (c.moved d n) else s.chanError ch r.1

/-- One request of a running descriptor is answered (R449, R452, R459). -/
def State.dmaRequest (s : State) (ch : Nat) (d : Desc) (resp : DmaResp) (sh dh : List Byte) : State :=
  let c := s.chan ch
  if d.bad then s.chanHalt ch 5 2
  else if (d.srcHost ∨ d.dstHost) ∧ !s.hostOk ch then s.chanHalt ch 6 1
  else if c.storeDue d then
    let r := s.dmaWrite ch (d.flag 8) c.dst (leBytes 4 (s.cv (s.unitOf ch)).result)
    let e := if r.1 = .ok then resp else r.1
    if e = .ok then r.2.setChan ch { c with dst := c.dst + 4 } else r.2.chanError ch e
  else if c.remain = 0 then s
  else
    let n := c.reqBytes d
    let r := if d.op = 1 then (.ok, [], s) else s.dmaRead ch (d.flag 7) c.src n sh
    let q := if d.op = 2 then r.2.2.dmaRead ch (d.flag 8) c.dst n dh else (.ok, [], r.2.2)
    let e := if r.1 ≠ .ok then r.1 else if q.1 ≠ .ok then q.1 else resp
    if e = .ok then q.2.2.dmaMove ch d n r.2.1 q.2.1 else q.2.2.chanError ch e

/-- DMA_REQUEST_RESPONSE: a request is answered; the package's own answer comes before the one given. An error while a
descriptor or a link word is being read is that read's. -/
def execDmaRequestResponse (ch : Nat) (resp : DmaResp) (srcHost dstHost : List Byte) (s : State) :
    Host.Outcome State Fault Refusal :=
  .next (settle (
    let c := s.chan ch
    if !s.chanGoes ch true then s
    else if c.fetching ∨ c.reread then
      if resp ≠ .ok ∧ (c.state = 1 ∨ (c.state = 4 ∧ c.reread)) then s.chanError ch resp else s
    else match c.desc with
      | some d =>
        let host := (d.op = 1 || d.flag 7) && (d.flag 8 || (d.op = 3 && !d.flag 12))
        if (c.state = 1 ∨ c.state = 2) ∧ s.chanGoes ch host then s.dmaRequest ch d resp srcHost dstHost else s
      | none => s))

/-- DMA_RETRY_TIMER: 1 µs after an error, the request is issued again (R452). -/
def execDmaRetryTimer (ch : Nat) (s : State) : Host.Outcome State Fault Refusal :=
  .next (settle (if ch < 32 then s.modChan ch fun c => { c with retryWait := false } else s))

/-! ## The end of a descriptor and of a chain (R451, R454) -/

/-- DMA_DESCRIPTOR_COMPLETE: the last byte has been moved. -/
def execDmaDescriptorComplete (ch : Nat) (s : State) : Host.Outcome State Fault Refusal :=
  .next (settle (
    let c := s.chan ch
    match c.desc with
    | some d =>
      if s.chanGoes ch true ∧ (c.state = 1 ∨ c.state = 2) ∧ !c.fetching ∧ c.remain = 0 ∧ !c.storeDue d then
        if d.bad then s.chanHalt ch 5 2 else s.chanComplete ch d
      else s
    | none => s))

/-- A link word has been read again (R454). -/
def State.linkWord (s : State) (ch link : Nat) : State :=
  let c := s.chan ch
  if link ≠ 0 then s.setChan ch (c.fetch (link / 32 * 32) (bit link 0) 1)
  else if c.append then s.setChan ch { c with append := false }
  else s.setChan ch { c with state := 4, reread := false }

/-- DMA_LINK_REREAD_RESULT: the last link word of the chain has been read again, from host memory as given, or from
the package. -/
def execDmaLinkRereadResult (ch : Nat) (hostLink : DWord) (s : State) : Host.Outcome State Fault Refusal :=
  .next (settle (
    let c := s.chan ch
    if !(s.chanGoes ch c.curHost && c.reread && (c.state = 1 || c.state = 4)) then s
    else if c.curHost then
      if s.hostOk ch then s.linkWord ch hostLink.toNat else s.chanHalt ch 6 1
    else
      let r := s.read (c.cur + 24) 8 c.req
      if r.1 = .ok then r.2.2.linkWord ch (ofLe r.2.1) else r.2.2.chanError ch r.1))

/-! ## Drains and stops (R446, R453) -/

/-- DMA_DRAIN_COMPLETE: the writes of a pausing channel are done. -/
def execDmaDrainComplete (ch : Nat) (s : State) : Host.Outcome State Fault Refusal :=
  .next (settle (
    let c := s.chan ch
    if ch < 32 ∧ c.state = 2 ∧ !c.stopping then s.setChan ch { c with state := if c.pause then 3 else 1 } else s))

/-- DMA_OWNER_STOP_COMPLETE. -/
def execDmaOwnerStopComplete (ch : Nat) (s : State) : Host.Outcome State Fault Refusal :=
  .next (settle (if ch < 32 ∧ (s.chan ch).stopping then s.ownerStopped ch else s))

end Sys2Proof.Machine
end

