-- ==== Sys2Proof/Machine/Cascade.lean ====
section
/-! DEFINITION. What the steps of the cascade share: partner events, identities, links that go down and the routes that
replace them, timing, mirror writes, line streams, and what arrives from followers (R367, R523-R548). -/

namespace Sys2Proof.Machine

/-! ## Events (R404, R461, R472) -/

/-- Post CASC.PARTNER, with its change in the order of R404: 0 JOINED, 1 LEFT, 2 RETURNED, 3 MASTER_CONFLICT,
4 NO_MASTER, 5 MASTER_LOST, 6 DEPUTY_ACTIVE; the first three and MASTER_LOST raise source 14. -/
def State.postPartner (s : State) (b pkg change : Nat) : State :=
  let s := s.postU 0x1580 s.scopePkg [b, pkg, change]
  if change ≤ 2 then s.detect (dieRec (b / 4) 5) 9 0
  else if change = 5 then s.detect (dieRec (b / 4) 5) 8 0 else s

/-! ## Identity frames (R529)

The words: package ID [2:0], CASC_MASTER [3], role [6:4], hops [9:7] and master ID or 8 [13:10]; part [31:0] and
generation [63:32]; serial; then the states of dies and Birton links, and of heads (DESIGN CHOICE, assumption 23). -/

/-- The first three words of an identity. -/
def identHead (i : Ident) (hops : Nat) : List Nat :=
  [i.pkg % 8 + 8 * b2n i.strapMaster + 16 * (i.role % 8) + 128 * (hops % 8) + 1024 * (i.master % 16),
   i.part % 2 ^ 32 + 2 ^ 32 * (i.gen % 2 ^ 32), i.serial.toNat]

/-- The identity of this package. -/
def State.ident (s : State) : Ident :=
  { pkg := s.cfg.pkgId, strapMaster := s.cfg.cascMaster, part := s.part, serial := s.cfg.serial, role := s.role
    hops := s.masterHops, master := if s.masterId = 255 then 8 else s.masterId, gen := s.casc.gen }

/-- Send the identity frame of this package on a link. -/
def State.sendIdent (s : State) (b : Nat) : State :=
  let st (n : Nat) (f : Nat → Nat) : Nat := pack2 ((List.range n).map f)
  let heads := st 128 s.headState
  s.frameOut b 6 0 true 0 (identHead s.ident s.masterHops ++ [st 2 s.dieState + 16 * st 8 s.birtonState] ++
    (List.range 4).map fun i => heads / 2 ^ (64 * i) % 2 ^ 64)

/-- Send the identity on every link in a state. -/
def State.sendIdents (s : State) (st : Nat) : State :=
  (List.range 8).foldl (fun s b => if s.birtonState b = 1 ∧ (s.birton b).state = st then s.sendIdent b else s) s

/-- The master that a partner offers, and its hops to it: itself, or the one it knows; a package that waits forwards
nothing (R529, R548). -/
def offer (i : Ident) : Option (Nat × Nat) :=
  if i.role = 1 ∨ i.role = 3 then some (i.pkg, 0)
  else if i.role ≠ 4 ∧ i.hops < 7 ∧ i.master < 8 then some (i.master, i.hops) else none

/-- A follower tells the master of a link to a partner, or that it has gone: the partner's identity, and a word with this
package in [2:0] and the end in [3] (R529, R532; DESIGN CHOICE, assumption 88). -/
def State.announce (s : State) (i : Ident) (gone : Bool) : State :=
  match s.casc.upstream, s.casc.master with
  | some u, some m =>
    if s.role = 2 ∧ s.birtonUp u ∧ i.pkg ≠ m then
      s.frameFrom u 6 i.pkg m false 0 (identHead i (s.casc.hops + 1) ++ [s.cfg.pkgId % 8 + 8 * b2n gone]) false
    else s
  | _, _ => s

/-- A follower tells the master of every partner that has the same master. -/
def State.announceAll (s : State) : State :=
  (List.range 8).foldl (fun s b =>
    match (s.birton b).partner with
    | some i => if s.birtonUp b ∧ s.casc.upstream ≠ some b ∧ (offer i).map (·.1) = s.casc.master then s.announce i false else s
    | none => s) s

/-! ## Links that come up and go down (R525, R527, R531, R532) -/

/-- A link enters UP. -/
def State.upLink (s : State) (b : Nat) : State :=
  (s.modBirton b fun l => { l with state := 3, downAt := none }).unlive (dieRec (b / 4) 5) (4 + b % 4)

/-- A link that goes DOWN. -/
def BLink.stop (l : BLink) (now : Nat) : BLink :=
  { l with state := 0, lanes := 0, rate := 0, cand := 0, rxCmd := [], rxFails := 0, nakFrom := none, fails := 0
           downAt := some now }

/-- Send the unacknowledged frames of link `b` on link `n`, in order; what waits for their acknowledgement waits for
that of the new frames (R354, R531). -/
def State.takeOver (s : State) (b n : Nat) : State :=
  let r := (s.birton b).unacked.foldl (fun (a : State × List (Nat × Nat)) e =>
    let h := (e.2.headD 0).toNat
    let pay := ((e.2.drop 1).take (h / 16 % 64)).map (·.toNat)
    (a.1.frameFrom n (h % 16) (h / 2 ^ 32 % 8) (h / 2 ^ 35 % 8) (bit h 38) (h / 2 ^ 39) pay false,
     a.2 ++ [(e.1, (a.1.birton n).txSeq)])) (s, [])
  let s := r.1.modBirton b fun l => { l with unacked := [] }
  if s.casc.upstream = some b then
    let s := s.modPort 18 fun q => { q with out := q.out.map fun o => { o with seq := o.seq.map fun f => (r.2.lookup f).getD f } }
    { s with casc := { s.casc with upstream := some n } }
  else s

/-- Members reached over one link are reached over another. -/
def State.moveMembers (s : State) (b n : Nat) : State :=
  { s with casc := { s.casc with members := s.casc.members.map fun m => (m.1, if m.2.1 = b then n else m.2.1, m.2.2) } }

/-- The standby link that takes over for a link: the lowest with the same partner (R531). -/
def State.standbyOf (s : State) (b : Nat) : Option Nat :=
  (List.range 8).find? fun n => n ≠ b && s.birtonState n = 1 && (s.birton n).state = 4 &&
    (s.birton n).partner.map (·.pkg) = (s.birton b).partner.map (·.pkg)

/-- The best route of a follower towards its master: the link, and the hops. A partner with more hops than this package
may lie behind it, and is no route (R532). -/
def State.bestRoute (s : State) : Option (Nat × Nat) :=
  (List.range 8).foldl (fun best b =>
    match (s.birton b).partner.bind fun i => (offer i).map (·, i.pkg) with
    | some ((m, h), p) =>
      if s.birtonUp b ∧ s.casc.master = some m ∧ h + 1 ≤ 3 ∧ h ≤ s.casc.hops ∧ best.all fun x => 8 * h + p < 8 * (x.2 - 1) +
          (((s.birton x.1).partner.map (·.pkg)).getD 8) then some (b, h + 1) else best
    | none => best) none

/-- The members take the routes that the master now has; one without a route keeps its last (R532). -/
def State.rerouteMembers (s : State) : State :=
  { s with casc := { s.casc with members := s.casc.members.map fun m => (s.routes.find? (·.1 = m.1)).getD m } }

/-- Frames in flight on a link that has gone are sent again on the new route of the package that they are for (R532). -/
def State.resendFrames (s : State) (b : Nat) : State :=
  (s.birton b).unacked.foldl (fun s e =>
    let h := (e.2.headD 0).toNat
    let pay := ((e.2.drop 1).take (h / 16 % 64)).map (·.toNat)
    match s.linkTo (h / 2 ^ 35 % 8) with
    | some n =>
      if n = b ∨ !s.birtonUp n ∨ bit h 38 then s
      else (s.frameFrom n (h % 16) (h / 2 ^ 32 % 8) (h / 2 ^ 35 % 8) false (h / 2 ^ 39) pay false).modBirton b fun l =>
        { l with unacked := l.unacked.filter (·.1 ≠ e.1) }
    | none => s) s

/-- A carrying link has gone: a follower's traffic moves to another route, and the master learns of the links that are
left; a master's moves to the routes that are left (R532). -/
def State.reroute (s : State) (b : Nat) (was : Option Ident) : State :=
  if s.isMaster then s.rerouteMembers.resendFrames b
  else
    let s : State := { s with casc := { s.casc with members := s.casc.members.filter (·.2.1 ≠ b) } }
    let s := if s.casc.upstream = some b then
        match s.bestRoute with
        | some (n, h) => let s := s.takeOver b n
                         (({ s with casc := { s.casc with hops := h } } : State).sendIdents 3).announceAll
        | none => s
      else s
    match was with
    | some i => s.announce i true
    | none => s

/-- A link goes DOWN: a standby link or another route carries its traffic on (R525, R527, R531, R532). -/
def State.linkStops (s : State) (b : Nat) : State :=
  let l := s.birton b
  if l.state = 0 then s
  else
    let n := s.standbyOf b
    let s := (s.setBirton b (l.stop s.now)).detect (dieRec (b / 4) 5) (4 + b % 4) (b % 4) true
    if l.state ≠ 3 then s
    else match n with
      | some n => ((s.upLink n).takeOver b n).moveMembers b n
      | none => s.reroute b l.partner

/-! ## Timing frames (R302, R305, R537, R538) -/

/-- Group timebases of a package whose timing class has been lost: they coast (R538). -/
def State.groupsCoast (s : State) : State :=
  s.clk.heels.foldl (fun s e =>
    if 256 ≤ e.1 ∧ e.2.leader ≠ .none ∧ e.2.state ≠ 0 ∧ e.2.state ≠ 4 ∧ e.2.leader ≠ .master then s.coast e.1 0 else s) s

/-- They acquire again when timing frames return (R306, R538). -/
def State.groupsBack (s : State) : State :=
  s.clk.heels.foldl (fun s e =>
    if 256 ≤ e.1 ∧ e.2.leader ≠ .none ∧ e.2.leader ≠ .master ∧ e.2.state = 4 ∧ e.2.cause = 0 then
      s.setHeel e.1 { e.2 with state := 1, periods := [], lastEvent := none, okCount := 0, cycle := 0 }
    else s) s

/-- Pass a timing frame on, with its residence time, a free value of at most 60 ns, and the delay of the link it came
over (R526, R537; assumption 7). -/
def State.relayTiming (s : State) (b group count time : Nat) : State :=
  let t := time + (Config.freeWord s.freeCtr).toNat % 121
  let s : State := { s with freeCtr := s.freeCtr + 1 }
  if s.role = 4 then s
  else (List.range 8).foldl (fun s n => if n ≠ b ∧ s.birtonUp n then s.frameOut n 0 0 true group [count, t] else s) s

/-- A timing frame arrives on a link (R537): a group, 32 for the system timebase. A follower takes those of its upstream
link. -/
def State.timingIn (s : State) (b group count halfNs : Nat) : State :=
  if !s.birtonUp b ∨ s.isMaster ∨ (s.role = 2 ∧ s.casc.upstream ≠ some b) then s
  else
    let t := halfNs + (s.birton b).delay
    let back := s.casc.timingLost ∨ s.casc.lastTiming = 0
    let s : State := { s with casc := { s.casc with lastTiming := max 1 s.now, timingLost := false } }
    let s := if back then (s.leaderBack .master 0).groupsBack else s
    let s := if group < 32 then s.modGrp group fun g => { g with event := count }
      else if group = 32 then
        { s with casc := { s.casc with sysEvent := count, sysPhase := (t : Int) - (2 * s.refNs : Nat) } }
      else s
    s.relayTiming b group count t

/-! ## Mirror writes (R408, R410, R534, R535) -/

/-- A mirror write arrives: it is performed as the master of the receiving link, and acknowledged when it has completed
or has been denied. -/
def State.mirrorIn (s : State) (b addr : Nat) (d : List Byte) : State :=
  let r := s.write addr d ⟨3, 46 + b, 0⟩
  r.2.birtonSend b 5 (s.casc.master.getD 0) false 0 [b2n (r.1 ≠ .ok)]

/-! ## Line streams (R541, R542) -/

/-- Words of a composite line arrive at its owner, in order; `first` is the place of the first in the line. -/
def State.lineIn (s : State) (h line first : Nat) (words : List Nat) : State :=
  let d := s.head h
  let l := tget [] d.composite line
  if d.deep.isSome ∧ d.deepOwner ∧ l.length = first then s.setHead h { d with composite := tset d.composite line (l ++ words) }
  else s

/-! ## Replies and events of followers (R349, R358, R367) -/

/-- Events that complete a command's later work, which are never discarded (R358, R404). -/
def completionEvent (op : Nat) : Bool := [0x0780, 0x0781, 0x0782, 0x0881, 0x0B82].contains op

/-- Commands that move the heads of a package, so that layers may gain or lose head parts there: CANVAS.WINDOW, and
HEAD.PLACE, HEAD.TIMING and HEAD.PAIR (R66, R68). -/
def headOp (op : Nat) : Bool := [0x0601, 0x0801, 0x0802, 0x0805].contains op

/-- A follower's reply goes to the origin of its command, with the origin's tag; the answer to a flip that the master
forwarded for itself says that the holder has received it (R67). -/
def State.replyIn (s : State) (pkg ctag : Nat) (words : List Nat) : State :=
  match s.casc.forwards.find? fun f => f.pkg = pkg && f.ctag = ctag with
  | none => s
  | some f =>
    let s : State := { s with casc := { s.casc with
      forwards := dropFirst (fun g : Forward => g.pkg = pkg && g.ctag = ctag) s.casc.forwards } }
    let st := words.headD 0 % 256
    let s := if st = stOk ∧ headOp f.op then { s.unjudge with freeCtr := s.freeCtr + 1 } else s
    if f.port = ownPort then (if f.op = 0x0704 then s.receipt pkg f.tag else s)
    else
    let s := match opOf f.op with
      | some sp => s.genStep sp { op := f.op, tag := f.tag, cls := f.cls, scope := f.scope, params := f.params, master := 0 } (st = stOk && !f.all)
      | none => s
    if f.all then
      match s.casc.gather.find? fun g => g.port = f.port && g.tag = f.tag with
      | some g => s.gatherReply g st pkg
      | none => s
    else s.putReply f.port f.op f.tag f.cls f.scope words

/-- A packet of a follower arrives at its master: a reply, or an event for the master's subscribers. Completions of flips
that the master forwarded for itself end here (DESIGN CHOICE, assumption 83). -/
def State.fromFollower (s : State) (pkg : Nat) (b : List Byte) : State :=
  if !framedOk 18 b ∨ !trailerOk b then s
  else
    let op := headerWord b 0 % 65536
    let words := (List.range (headerLength b)).map fun i => headerWord b (4 + i)
    if bit (headerWord b 0) 30 then s.replyIn pkg (headerWord b 1 % 4096) words
    else if (op = 0x0780 ∨ op = 0x0781) ∧ (s.layer (words.headD 0)).holders.contains pkg then s
    else (List.range 18).foldl (fun s p =>
      if (s.subs p).testBit (op / 256) then
        s.send p { kind := if completionEvent op then 1 else 2, opcode := op, scope := headerWord b 2, params := words }
      else s) s

end Sys2Proof.Machine
end

