-- ==== Sys2Proof/Machine/Ports.lean ====
section
/-! DEFINITION. Transactions of the S-port and of the test access port, packets that arrive as bytes, and the
end of admission (R160, R345, R363-R366, R377, R508, R563). -/

namespace Sys2Proof.Machine

/-! ## Packets as bytes (R351, R353, R363) -/

/-- Bytes of a packet arrive at a port: they are checked and run, or wait in the receive buffer. -/
def State.arrive (s : State) (port link claimed : Nat) (b : List Byte) : State :=
  if !s.accepts port link then s
  else if (s.port port).room ∧ (s.port port).rx.isEmpty then s.runBytes port link claimed b
  else s.buffer port (rxEntry port link claimed b)

/-- The S-port's pins work: not in OFF, and not while power-on reset is asserted (R508, R556). -/
def State.sOn (s : State) : Bool := !s.pwr.por && s.pwr.state ≠ .off

/-- Rosua sleeps (R508). -/
def State.asleep (s : State) : Bool := s.pwr.state = .standby || s.pwr.state = .retain

/-- S_CS_N falls: in sleep it is a wake source, and nothing but STATUS has another effect (R508, R512). -/
def State.select (s : State) (k : State → State) : State :=
  if !s.sOn then s else if s.asleep then s.wake 1 else k s

/-- A packet is sent on the S-port. -/
def State.sendS (s : State) (b : List Byte) : State := s.select fun s => s.arrive 16 0 0 b

/-- SEND (R363). -/
def execSend (bytes : List Byte) (s : State) : Host.Outcome State Fault Refusal := .next (settle (s.sendS bytes))

/-- SEND_QUAD (R363). -/
def execSendQuad (bytes : List Byte) (s : State) : Host.Outcome State Fault Refusal := .next (settle (s.sendS bytes))

/-! ## The outgoing side of the S-port and the M-port (R354, R365, R366) -/

/-- The first `n` bytes of a register or a stream that is followed by 0xFF. -/
def padFF (b : List Byte) (n : Nat) : List Byte := (b ++ List.replicate (n - b.length) 0xFF).take n

/-- The next packet of a port as bytes; none where nothing is queued. -/
def State.nextBytes (s : State) (port : Nat) : Option (List Byte) :=
  ((s.port port).next s.cfg.pkgId).map fun o => o.bytes (s.port port).txSeq

/-- Shift the next packet of a port out: it is delivered when its last byte has been clocked. -/
def State.shiftOut (s : State) (port n : Nat) (idle : List Byte) : State :=
  match s.nextBytes port with
  | none => { s with shifted := padFF idle n }
  | some b =>
    let s := { s with shifted := padFF b n }
    if b.length ≤ n then s.modPort port fun q => q.number.delivered else s

/-- RECEIVE and RECEIVE_QUAD, with `clocked` bytes taken: 16 zero bytes where nothing is queued. -/
def State.receiveS (s : State) (clocked : Nat) : State :=
  s.select fun s =>
    if s.bureauUp ∧ !s.cfg.testMode then s.shiftOut 16 clocked (List.replicate 16 0) else { s with shifted := [] }

/-- RECEIVE (R365). -/
def execReceive (clocked : Nat) (s : State) : Host.Outcome State Fault Refusal := .next (settle (s.receiveS clocked))

/-- RECEIVE_QUAD (R365). -/
def execReceiveQuad (clocked : Nat) (s : State) : Host.Outcome State Fault Refusal := .next (settle (s.receiveS clocked))

/-- STATUS: the word is shifted out and its two flags clear; in sleep the transaction wakes the device (R364,
R508). -/
def State.statusS (s : State) : State :=
  if !s.sOn then s
  else
    let s := ({ s with shifted := leBytes 4 s.statusWord }).modPort 16 fun q => { q with overflow := false, framed := false }
    if s.asleep then s.wake 1 else s

/-- STATUS (R364). -/
def execStatus (s : State) : Host.Outcome State Fault Refusal := .next (settle s.statusS)

/-- The instruction bytes of the S-port. -/
def sCodes : List Nat := [0x02, 0x32, 0x0B, 0x6B, 0x05]

/-- S_PORT_INVALID_INSTRUCTION: any other instruction byte counts a framing error (R363). -/
def execSPortInvalidInstruction (code : Byte) (s : State) : Host.Outcome State Fault Refusal :=
  .next (settle (s.select fun s =>
    if sCodes.contains code.toNat ∨ !s.bureauUp then s else s.framingError 16))

/-! ## The test access port (R366, R563) -/

/-- Bits as bytes, the first bit lowest. -/
def packBits (b : List Bool) : List Byte :=
  (List.range (ceilDiv b.length 8)).map fun i =>
    BitVec.ofNat 8 (maskOf ((List.range 8).filter fun k => b.getD (8 * i + k) false))

/-- The one-bit bypass register: it captures 0 and delays what is shifted in by one bit (PRESUMED, IEEE 1149.1;
assumption 50). -/
def State.bypass (s : State) (b : List Bool) : State :=
  { s with shifted := packBits (false :: b.dropLast), pwr := { s.pwr with boundary := [] } }

/-- BYPASS (R563). -/
def execBypass (bits : List Bool) (s : State) : Host.Outcome State Fault Refusal :=
  .next (settle (if s.pwr.aoIoGood then s.bypass bits else s))

/-- The IDCODE register (R563). -/
def State.idcode (s : State) : Nat := s.cfg.step0 % 16 * 2 ^ 28 + s.part % 65536 * 2 ^ 12 + 0x2B5 * 2 + 1

/-- IDCODE (R563). -/
def execIdcode (s : State) : Host.Outcome State Fault Refusal :=
  .next (settle (if s.pwr.aoIoGood then
    { s with shifted := leBytes 4 s.idcode, pwr := { s.pwr with boundary := [] } } else s))

/-- The bits of bytes, lowest first. -/
def unpackBits (b : List Byte) : List Bool := b.flatMap fun x => (List.range 8).map fun i => x.getLsbD i

/-- SVC_PACKET: in SERVICE the register returns the oldest packet of the M-port, then the bytes shifted in are
submitted; in any other state it acts as BYPASS (R366, R563). -/
def execSvcPacket (bytes : List Byte) (s : State) : Host.Outcome State Fault Refusal :=
  .next (settle (
    if !s.pwr.aoIoGood then s
    else if s.pwr.state = .service then
      let s := (s.shiftOut 17 (min 1028 bytes.length) [])
      ({ s with pwr := { s.pwr with boundary := [] } }).arrive 17 0 0 (bytes.take 1028)
    else s.bypass (unpackBits bytes)))

/-- EXTEST: in SERVICE the pins are driven, and the bits captured from them are free values; in any other state
it acts as BYPASS (R563; assumption 7). -/
def execExtest (drive : List Bool) (s : State) : Host.Outcome State Fault Refusal :=
  .next (settle (
    if !s.pwr.aoIoGood then s
    else if s.pwr.state = .service then
      { s with shifted := (List.range (ceilDiv drive.length 8)).map fun i => Config.freeByte (2 * s.freeCtr) i
               freeCtr := s.freeCtr + 1
               pwr := { s.pwr with boundary := drive } }
    else s.bypass drive))

/-! ## Packets without a row (R351, R377) -/

/-- UNKNOWN_OPCODE: a packet whose opcode no row has, or whose header does not arrive in full; on the C-port it
comes from the link towards the master (R377). -/
def execUnknownOpcode (port : Nat) (bytes : List Byte) (s : State) : Host.Outcome State Fault Refusal :=
  .next (settle (
    if port = 16 then s.sendS bytes else s.arrive port (s.casc.upstream.getD 0) clsH bytes))

/-! ## Admission ends (R160-R162, R375, R376) -/

/-- The refusal of a quantity (R375). -/
def Quantity.words (q : Quantity) : List Nat := [replyWord stNotAdmitted false 0, q.check, q.unit, q.need, q.avail]

/-- Conclude a change that waited: it is applied when it raises no quantity above its limit, and its command
is answered unless it waits for more. -/
def State.conclude (s : State) (port : Nat) (c : Cmd) (r : Res) : State :=
  match r with
  | .ok cl w t =>
    match admissionFails s t with
    | some q => s.finish port c q.words
    | none => t.replan.finish port c (replyWord stOk cl 0 :: w)
  | .wait t =>
    match admissionFails s t with
    | some q => s.finish port c q.words
    | none => t.replan
  | .admission => s
  | r =>
    let w := r.words s c.master
    w.2.finish port c (w.1.getD [])

/-- Whether admission accepts an answer. -/
def Res.passes (r : Res) (s : State) : Bool :=
  match r with
  | .ok _ _ t => (admissionFails s t).isNone
  | .wait t => (admissionFails s t).isNone
  | _ => false

/-- ADMISSION_COMPLETE: the change that has waited longest is judged. -/
def execAdmissionComplete (s : State) : Host.Outcome State Fault Refusal :=
  .next (settle (match s.admQ with
    | [] => s
    | j :: t =>
      match opOf j.cmd.op with
      | some sp =>
        let u : State := { s with admQ := t }
        let r := sp.judge j.port j.cmd u
        (u.conclude j.port j.cmd r).genStep sp j.cmd (r.passes u)
      | none => { s with admQ := t }))

end Sys2Proof.Machine
end

