-- ==== Sys2Proof/Machine/BirtonEvents.lean ====
section
/-! DEFINITION. Steps of the Birton links: training, identity, frames and their replay, loss of lock (R522-R533). -/

namespace Sys2Proof.Machine

/-! ## Training (R527, R528) -/

/-- The links are powered: the package is in READY, ACTIVE or SERVICE, and the link is present. -/
def State.linkLive (s : State) (b : Nat) : Bool := b < 8 && s.birtonState b = 1 && s.bureauUp && !s.asleep

/-- The candidate of an index: rates highest first, and within a rate lanes, most first (R528). -/
def birtonCandidate (i : Nat) : Nat × Nat := ([32, 16, 8].getD (i / 4) 8, [8, 4, 2, 1].getD (i % 4) 1)

/-- BIRTON_PARTNER_PATTERNS: a DOWN link starts its training. -/
def execBirtonPartnerPatterns (b : Nat) (s : State) : Host.Outcome State Fault Refusal :=
  .next (settle (
    if 8 ≤ b then s
    else
      let s := s.modBirton b fun l => { l with signal := true }
      if s.linkLive b ∧ (s.birton b).state = 0 then s.modBirton b fun l => { l with state := 1, cand := 0 } else s))

/-- A candidate trains: the link is in IDENT. Where it retrains within 10 ms its frame numbers carry on and kept frames
are sent again; else both ends start anew (R369; DESIGN CHOICE, assumption 32). -/
def State.birtonTrained (s : State) (b : Nat) : State :=
  let c := birtonCandidate (s.birton b).cand
  let s := s.modBirton b fun l =>
    let l := { l with state := 2, rate := c.1, lanes := c.2, rxFails := 0, nakFrom := none, fails := 0 }
    if l.downAt.any fun t => s.now ≤ t + 10000000 then { l with out := l.out ++ l.unacked.map (·.2) }
    else { l with txSeq := 0, rxSeq := 0, unacked := [], rxCmd := [] }
  s.sendIdent b

/-- BIRTON_CANDIDATE_END: a candidate trains, or the next is tried after 2 ms; the last leaves the link DOWN. -/
def execBirtonCandidateEnd (b : Nat) (ok : Bool) (s : State) : Host.Outcome State Fault Refusal :=
  .next (settle (
    if !s.linkLive b ∨ (s.birton b).state ≠ 1 then s
    else if ok then s.birtonTrained b
    else s.modBirton b fun l => if l.cand < 11 then { l with cand := l.cand + 1 } else { l with state := 0, cand := 0 }))

/-- BIRTON_LOCK_LOSS (R527, R531, R532). -/
def execBirtonLockLoss (b : Nat) (s : State) : Host.Outcome State Fault Refusal :=
  .next (settle (
    if s.linkLive b then (s.linkStops b).modBirton b fun l => { l with signal := false } else s))

/-- BIRTON_DOWN_RETRY: every second while the partner signal is present. -/
def execBirtonDownRetry (b : Nat) (s : State) : Host.Outcome State Fault Refusal :=
  .next (settle (
    if s.linkLive b ∧ (s.birton b).state = 0 ∧ (s.birton b).signal then s.modBirton b fun l => { l with state := 1, cand := 0 }
    else s))

/-- BIRTON_CONFLICT_TIMEOUT: after 10 s a CONFLICT or REFUSED link goes DOWN. -/
def execBirtonConflictTimeout (b : Nat) (s : State) : Host.Outcome State Fault Refusal :=
  .next (settle (
    if s.linkLive b ∧ ((s.birton b).state = 5 ∨ (s.birton b).state = 6) then s.linkStops b else s))

/-- CABLE_DELAY_ECHO: the measured one-way delay (R528). -/
def execCableDelayEcho (b halfNs : Nat) (s : State) : Host.Outcome State Fault Refusal :=
  .next (settle (
    if s.linkLive b ∧ ((s.birton b).state = 3 ∨ (s.birton b).state = 4) then s.modBirton b fun l => { l with delay := halfNs }
    else s))

/-! ## BIRTON_IDENT_FRAME (R40, R369, R527-R532, R545-R548) -/

/-- Refuse a partner: CONFLICT (5) or REFUSED (6), with the event of a package that reports it. -/
def State.refuse (s : State) (b pkg st : Nat) : State :=
  let s := s.modBirton b fun l => { l with state := st }
  if st = 5 then s.postPartner b pkg 3 else if s.isMaster then s else s.postPartner b pkg 4

/-- A package becomes a member, over a link and at a number of hops: new, or returned. Where its generation is not the
master's it is sent the system-wide configuration, and what it holds of each layer is decided again (R529, R545). -/
def State.joinMember (s : State) (pkg b hops gen : Nat) : State :=
  let was := s.casc.members.any (·.1 = pkg)
  let on := s.isMember pkg
  let r := (s.routes.find? (·.1 = pkg)).getD (pkg, b, hops)
  let c := s.casc
  let s : State := { s with casc := { c with
    members := c.members.filter (·.1 ≠ pkg) ++ [r], left := c.left.filter (· ≠ pkg)
    fwdSeq := if on then c.fwdSeq else tdel c.fwdSeq pkg } }
  if on then s
  else
    let s := (s.postPartner b pkg (if was then 2 else 0)).unjudge
    if gen = s.casc.gen then s else s.resend pkg

/-- A parallel link to the same partner: the lowest-indexed one carries the traffic, the others stand by (R531). -/
def State.parallel (s : State) (b n : Nat) : State :=
  if b < n then
    (((s.modBirton n fun l => { l with state := 4 }).upLink b).takeOver n b).moveMembers n b
  else s.modBirton b fun l => { l with state := 4, downAt := none }

/-- A follower accepts a master over a link: a C-port session begins, and its other partners and the master learn of it
(R369, R529, R547). -/
def State.follow (s : State) (b m hops : Nat) : State :=
  let s := ((s.closePort 18).upLink b).endMirrors (some m)
  (({ s with casc := { s.casc with
      role := some 2, master := some m, hops, upstream := some b, members := [], edges := [], lostMaster := none
      oldMaster := none, lastTiming := 0, timingLost := false } } : State).sendIdents 2).sendIdents 3

/-- The deputy becomes a follower of the strapped master again. -/
def State.stepDown (s : State) : State :=
  match (List.range 8).find? fun b => s.birtonUp b && (s.birton b).partner.any fun i => i.strapMaster with
  | some b =>
    let m := ((s.birton b).partner.map (·.pkg)).getD 0
    ({ s with casc := { s.casc with handback := false } } : State).follow b m 1
  | none => s

/-- A master, or an acting one, meets a partner (R529-R531, R545, R547, R548). -/
def State.masterMeets (s : State) (b : Nat) (i : Ident) : State :=
  let foreign := (offer i).any fun o => o.1 ≠ s.cfg.pkgId
  if s.role = 1 ∧ foreign then
    (({ s with casc := { s.casc with
        role := some 4, master := (offer i).map (·.1), hops := ((offer i).map (·.2 + 1)).getD 7, edges := []
        left := s.casc.members.map (·.1), fwdSeq := [] } } : State).endMirrors none).upLink b
  else if s.role = 3 ∧ i.role = 1 ∧ i.strapMaster ∧ s.casc.handback then s.stepDown
  else if s.role = 3 ∧ (i.role = 1 ∨ i.role = 4) ∧ i.strapMaster then (s.upLink b).postPartner b i.pkg 2
  else if foreign then s.refuse b i.pkg 5
  else if s.role = 3 ∧ i.master ≠ s.cfg.pkgId then s.upLink b
  else (s.upLink b).joinMember i.pkg b 1 i.gen


/-- Whether a package without a master takes the one that a partner offers: a strapped master always, a deputy where
the own S-port has named it, and, over a follower, the master it had or the first it meets (R529, R547). -/
def State.takesMaster (s : State) (i : Ident) (m : Nat) : Bool :=
  i.role = 1 || s.casc.deputy = m ||
    (i.role ≠ 3 && (s.casc.oldMaster = some m || (s.casc.oldMaster.isNone && s.casc.role.isNone)))

/-- A route to the present master over a link: it is taken where it is better, and else the master learns of the link
(R532). -/
def State.sameMaster (s : State) (b h : Nat) (i : Ident) : State :=
  if s.casc.upstream = some b then
    if s.casc.hops = h + 1 then s else ({ s with casc := { s.casc with hops := h + 1 } } : State).sendIdents 3
  else if h + 1 < s.casc.hops ∨ (h ≤ s.casc.hops ∧ !s.birtonUp (s.casc.upstream.getD 8)) then
    let s := s.takeOver (s.casc.upstream.getD b) b
    (({ s with casc := { s.casc with hops := h + 1, upstream := some b } } : State).sendIdents 3).announceAll
  else s.announce i false

/-- A package that is not a master meets a partner (R529, R530, R546-R548). -/
def State.otherMeets (s : State) (b : Nat) (i : Ident) : State :=
  match offer i with
  | some (m, h) =>
    if s.role = 4 then s.upLink b
    else if s.casc.master = some m then (s.upLink b).sameMaster b h i
    else if s.casc.master.isSome then
      if s.casc.upstream = some b ∧ h + 1 ≤ 3 ∧ (s.takesMaster i m ∨ s.casc.master = some s.casc.deputy) then s.follow b m (h + 1)
      else s.upLink b
    else if 3 < h + 1 then s.refuse b i.pkg 6
    else if s.takesMaster i m then s.follow b m (h + 1)
    else s.upLink b
  | none =>
    if s.casc.master.isSome ∧ s.role = 2 then
      if i.role ≠ 4 ∧ (3 ≤ s.casc.hops ∨ s.casc.master = some i.pkg) then s.refuse b i.pkg 6 else s.upLink b
    else if s.role = 4 then s.upLink b
    else s.postPartner b i.pkg 4

/-- An identity arrives (R40, R529-R531). -/
def State.identIn (s : State) (b : Nat) (i : Ident) : State :=
  let s := s.modBirton b fun l => { l with partner := some i, rxSeq := (l.rxSeq + 1) % 65536 }
  if s.cfg.cascMaster ∧ i.strapMaster then s.refuse b i.pkg 5
  else if i.pkg = s.cfg.pkgId then s.refuse b i.pkg 6
  else
    match (List.range 8).find? fun n => n ≠ b && s.birtonUp n && (s.birton n).partner.map (·.pkg) = some i.pkg with
    | some n =>
      if (s.birton n).partner.map (·.serial) = some i.serial then s.parallel b n else s.refuse b i.pkg 6
    | none => if s.isMaster then s.masterMeets b i else s.otherMeets b i

/-- BIRTON_IDENT_FRAME: the identity exchange, in IDENT or again on a link that is up. -/
def execBirtonIdentFrame (b : Nat) (id : Ident) (s : State) : Host.Outcome State Fault Refusal :=
  .next (settle (
    if s.linkLive b ∧ ((s.birton b).state = 2 ∨ (s.birton b).state = 3) then s.identIn b id else s))

/-! ## Acknowledgement and replay (R525) -/

/-- Whether a frame number lies at or after another, modulo 65,536. -/
def seqFrom (k a : Nat) : Bool := (k + 65536 - a) % 65536 < 32768

/-- Frames before a number have been acknowledged. -/
def State.acked (s : State) (b a : Nat) : State :=
  (s.modBirton b fun l =>
    let u := l.unacked.filter fun e => seqFrom e.1 a
    { l with unacked := u, nakFrom := if u.length = l.unacked.length then l.nakFrom else none
             fails := if u.length = l.unacked.length then l.fails else 0 }).cAcked b

/-- A frame has failed for the third time: the link goes DOWN (R525, R472). -/
def State.linkFails (s : State) (b : Nat) : State :=
  let s := s.detect (dieRec (b / 4) 5) (b % 4) (b % 4)
  s.linkStops b

/-- A NAK: send again from the frame named; the third in a row for one frame takes the link down. -/
def State.nakIn (s : State) (b seq : Nat) : State :=
  let s := s.acked b seq
  let l := s.birton b
  let n := if l.nakFrom = some seq then l.fails + 1 else 1
  if 3 ≤ n then s.linkFails b
  else s.setBirton b { l with fails := n, nakFrom := some seq, out := l.out ++ l.unacked.map (·.2) }

/-- BIRTON_NAK_RECEIVED. -/
def execBirtonNakReceived (b seq : Nat) (s : State) : Host.Outcome State Fault Refusal :=
  .next (settle (if s.linkLive b ∧ 2 ≤ (s.birton b).state ∧ (s.birton b).state ≤ 4 then s.nakIn b (seq % 65536) else s))

/-! ## BIRTON_FRAME_RECEIVED (R523-R525, R533) -/

/-- A protected word after correction; none where it is uncorrectable (R313, R523). -/
def protectedWord (w : BitVec 72) : Option Nat :=
  let d := w.toNat % 2 ^ 64
  let j := eccJudge (BitVec.ofNat 72 ((w.toNat / 2 ^ 64 ^^^ checkByte d) * 2 ^ 64))
  if j.kind = 0 then some d
  else if j.kind = 1 then some (if j.bit < 64 then d ^^^ 2 ^ j.bit else d)
  else none

/-- The words of a frame, where each can be read and their number is what the header says (R523). -/
def frameWords (ws : List (BitVec 72)) : Option (List Nat) :=
  (ws.mapM protectedWord).filter fun l => l.length = l.headD 0 / 16 % 64 + 2 && l.headD 0 / 16 % 64 ≤ 32

/-- Whether the CRC of a frame's words fits (R524). -/
def frameCrcOk (l : List Nat) : Bool :=
  let n := l.length - 1
  l.getD n 0 % 2 ^ 32 = frameCrc (l.headD 0 / 2 ^ 16 % 65536) (l.take n)

/-- Ask for a replay (R524). -/
def State.sendNak (s : State) (b : Nat) : State := s.frameOut b 6 0 false 0 [] true

/-- A frame fails: a timing frame of the expected number is dropped; else a NAK is sent, and the third failure in a row
takes the link down (R525). -/
def State.badFrame (s : State) (b : Nat) (head : Option Nat) : State :=
  let l := s.birton b
  if head.any fun h => h % 16 = 0 && h / 2 ^ 16 % 65536 = l.rxSeq then
    s.setBirton b { l with rxSeq := (l.rxSeq + 1) % 65536 }
  else if 2 ≤ l.rxFails then s.linkFails b
  else (s.setBirton b { l with rxFails := l.rxFails + 1 }).sendNak b

/-- Gather the words of a packet; the packet's claimed class and bytes once it is whole (R533). -/
def State.gatherWords (s : State) (b key : Nat) (pay : List Nat) : State × Option (Nat × List Byte) :=
  let l := tget [] (s.birton b).rxCmd key ++ pay.map (BitVec.ofNat 64)
  let env := (l.headD 0).toNat
  let n := env / 2 ^ 32 % 65536
  if ceilDiv n 8 + 1 ≤ l.length then
    (s.modBirton b fun x => { x with rxCmd := tdel x.rxCmd key },
     some (env % 16, ((l.drop 1).flatMap fun w => leBytes 8 w.toNat).take n))
  else (s.modBirton b fun x => { x with rxCmd := tset x.rxCmd key l }, none)

/-- A frame for another package goes on towards it (R526). -/
def State.relay (s : State) (cls src dst field : Nat) (pay : List Nat) : State :=
  if s.role = 4 then s
  else match s.linkTo dst with
    | some n => if s.birtonUp n then s.frameFrom n cls src dst false field pay false else s
    | none => s

/-- A follower has told the master of a link that it has, or has lost, to another package (R529, R532). -/
def State.edgeIn (s : State) (src b : Nat) (pay : List Nat) : State :=
  let e := (pay.getD 3 0 % 8, src)
  let rest := s.casc.edges.filter fun x => x ≠ e && x ≠ (e.2, e.1)
  if bit (pay.getD 3 0) 3 then ({ s with casc := { s.casc with edges := rest } } : State).rerouteMembers
  else
    let s := ({ s with casc := { s.casc with edges := rest ++ [e] } } : State).rerouteMembers
    if s.routes.any (·.1 = src) then s.joinMember src b (pay.headD 0 / 128 % 8) (pay.getD 1 0 / 2 ^ 32) else s

/-- A follower that passes an identity on learns the way back to that package (R532). -/
def State.learn (s : State) (b cls src : Nat) (pay : List Nat) : State :=
  if cls = 6 ∧ pay.length = 4 ∧ s.role = 2 ∧ !bit (pay.getD 3 0) 3 ∧ s.casc.upstream ≠ some b then
    { s with casc := { s.casc with members := s.casc.members.filter (·.1 ≠ src) ++ [(src, b, 2)] } }
  else s

/-- A frame for this package takes effect by its class. -/
def State.frameIn (s : State) (b cls src field : Nat) (pay : List Nat) : State :=
  match cls with
  | 0 => s.timingIn b (field % 64) (pay.getD 0 0) (pay.getD 1 0)
  | 1 =>
    let h := field % 128
    let y := field / 128
    s.lineIn h y (tget [] (s.head h).composite y).length pay
  | 2 =>
    let r := s.gatherWords b (16 + src) pay
    (match r.2 with
     | some p => r.1.arrive 18 b p.1 p.2
     | none => r.1)
  | 3 =>
    let r := s.gatherWords b (24 + src) pay
    (match r.2 with
     | some p => if r.1.isMaster then r.1.fromFollower src p.2 else r.1
     | none => r.1)
  | 4 => s.mirrorIn b (pay.headD 0 % 2 ^ 37) (((pay.drop 1).flatMap (leBytes 8)).take (pay.headD 0 / 2 ^ 40 % 512))
  | 5 => (match s.casc.mirrorPend.find? fun e => e.1 = src with
    | some e => s.mirrorAck src e.2 (pay.headD 0 % 2 = 1)
    | none => s)
  | 6 => if pay.length = 4 ∧ s.isMaster then s.edgeIn src b pay else s
  | _ => s

/-- A follower whose upstream link has gone takes the link over which the master's frames now come: it is the first link
of the route that the master has computed (R532). -/
def State.newRoute (s : State) (b cls src : Nat) : State :=
  match s.casc.upstream with
  | some u =>
    if s.role = 2 ∧ s.casc.master = some src ∧ (cls = 2 ∨ cls = 4) ∧ u ≠ b ∧ !s.birtonUp u then (s.takeOver u b).announceAll else s
  | none => s

/-- A frame of the expected number with a good CRC. -/
def State.goodFrame (s : State) (b : Nat) (l : List Nat) : State :=
  let h := l.headD 0
  let t := l.getLastD 0
  let s := s.modBirton b fun x => { x with rxSeq := (x.rxSeq + 1) % 65536, rxFails := 0 }
  let a := (t / 2 ^ 32 + 1) % 65536
  let s := if bit t 49 then s.nakIn b a else if bit t 48 then s.acked b a else s
  let pay := (l.drop 1).dropLast
  if bit h 38 ∨ h / 2 ^ 35 % 8 = s.cfg.pkgId then
    (s.newRoute b (h % 16) (h / 2 ^ 32 % 8)).frameIn b (h % 16) (h / 2 ^ 32 % 8) (h / 2 ^ 39) pay
  else (s.learn b (h % 16) (h / 2 ^ 32 % 8) pay).relay (h % 16) (h / 2 ^ 32 % 8) (h / 2 ^ 35 % 8) (h / 2 ^ 39) pay

/-- BIRTON_FRAME_RECEIVED. -/
def execBirtonFrameReceived (b : Nat) (words : List (BitVec 72)) (s : State) : Host.Outcome State Fault Refusal :=
  .next (settle (
    if !s.linkLive b ∨ (s.birton b).state < 2 ∨ 4 < (s.birton b).state then s
    else match frameWords words with
      | none => s.badFrame b (words.head?.bind protectedWord)
      | some l =>
        if !frameCrcOk l then s.badFrame b (l.head?)
        else if l.headD 0 / 2 ^ 16 % 65536 ≠ (s.birton b).rxSeq then s.sendNak b
        else s.goodFrame b l))

end Sys2Proof.Machine
end

