-- ==== Sys2Proof/Machine/CascEvents.lean ====
section
/-! DEFINITION. Steps of the system of packages: timing frames, followers that leave, loss of the master, the deputy,
mirror writes and line streams (R534-R548). -/

namespace Sys2Proof.Machine

/-! ## Timing (R536-R538) -/

/-- A master sends a timing frame: at an event of a timebase, which is counted, or as the keepalive of the system
timebase (R537). -/
def State.sendTiming (s : State) (group : Nat) : State :=
  let s := if group < 32 then s.modGrp group fun g => { g with event := (g.event + 1) % 2 ^ 64 }
    else if group = 32 then { s with casc := { s.casc with sysEvent := (s.casc.sysEvent + 1) % 2 ^ 64 } } else s
  let n := if group < 32 then (s.grp group).event else s.casc.sysEvent
  (List.range 8).foldl (fun s b =>
    if s.birtonUp b then s.frameOut b 0 0 true (min group 32) [n, 2 * s.refNs % 2 ^ 64] else s) s

/-- TIMING_FRAME_SEND. -/
def execTimingFrameSend (group : Nat) (s : State) : Host.Outcome State Fault Refusal :=
  .next (settle (if s.isMaster then s.sendTiming group else s))

/-- TIMING_FRAME_RECEIVED. -/
def execTimingFrameReceived (b group count halfNs : Nat) (s : State) : Host.Outcome State Fault Refusal :=
  .next (settle (if s.linkLive b then s.timingIn b group count halfNs else s))

/-- TIMING_CLASS_LOST: no timing frame for 1 ms (R538). -/
def execTimingClassLost (s : State) : Host.Outcome State Fault Refusal :=
  .next (settle (
    if s.isMaster ∨ s.role = 0 ∨ s.casc.timingLost ∨ s.casc.lastTiming = 0 then s
    else
      let s := advanceTo (s.casc.lastTiming + 1000000) s
      let s : State := { s with casc := { s.casc with timingLost := true } }
      (s.leaderLost .master 0 0).groupsCoast))

/-! ## FOLLOWER_LEFT (R369, R544) -/

/-- A route to a package exists (R532). -/
def State.routeUp (s : State) (pkg : Nat) : Bool := s.routes.any (·.1 = pkg)

/-- Every command forwarded to a package and not yet answered gets NO_REPLY. -/
def State.noReply (s : State) (pkg : Nat) : State :=
  let fs := s.casc.forwards.filter (·.pkg = pkg)
  let s : State := { s with casc := { s.casc with forwards := s.casc.forwards.filter (·.pkg ≠ pkg) } }
  fs.foldl (fun s f =>
    if f.port = ownPort then s
    else if f.all then
      match s.casc.gather.find? fun g => g.port = f.port && g.tag = f.tag with
      | some g => s.gatherReply g stNoReply pkg
      | none => s
    else s.putReply f.port f.op f.tag f.cls f.scope [replyWord stNoReply false 0]) s

/-- A follower has left: its session ends, and nothing waits for its mirror writes. -/
def State.leave (s : State) (pkg : Nat) : State :=
  let b := (s.linkTo pkg).getD 0
  let c := s.casc
  let s := ({ s with casc := { c with left := c.left ++ [pkg], fwdSeq := tdel c.fwdSeq pkg } } : State).dropHolder pkg
  let s := s.modBirton b fun l => if l.state = 3 then l else { l with unacked := [], out := [] }
  (s.postPartner b pkg 1).noReply pkg

/-- FOLLOWER_LEFT: no route to a follower has existed for 10 ms. -/
def execFollowerLeft (pkg : Nat) (s : State) : Host.Outcome State Fault Refusal :=
  .next (settle (if s.isMaster ∧ s.isMember pkg ∧ !s.routeUp pkg then s.leave pkg else s))

/-! ## MASTER_LOST, DEPUTY_TAKEOVER, MASTERSHIP_HANDBACK (R546-R548) -/

/-- A follower has lost its master: the C-port session ends. -/
def State.loseMaster (s : State) (m : Nat) : State :=
  let u := s.casc.upstream.getD 0
  let s := s.closePort 18
  let s := s.modBirton u fun l => if l.state = 3 then l else { l with unacked := [], out := [] }
  ({ s with casc := { s.casc with
      role := some 2, master := none, oldMaster := some m, upstream := none, hops := 7, lostMaster := some s.now } } : State).postPartner
    u m 5

/-- MASTER_LOST: no route to the master for 10 ms. Where the upstream link is up, the route can have gone only where the
timing frames have stopped (DEDUCED, assumption 88). -/
def execMasterLost (s : State) : Host.Outcome State Fault Refusal :=
  .next (settle (
    match s.casc.master, s.casc.upstream with
    | some m, some u =>
      if s.role ≠ 2 ∨ (s.birtonUp u ∧ !s.casc.timingLost) then s
      else if s.birtonUp u then (advanceTo (s.casc.lastTiming + 10000000) s).loseMaster m
      else (match (s.birton u).downAt with
        | some t => advanceTo (t + 10000000) s
        | none => s).loseMaster m
    | some m, none => if s.role = 2 then s.loseMaster m else s
    | none, _ => s))

/-- DEPUTY_TAKEOVER: 100 ms after its own MASTER_LOST, a package whose S-port has named it acts as master. -/
def execDeputyTakeover (s : State) : Host.Outcome State Fault Refusal :=
  .next (settle (
    match s.casc.lostMaster with
    | some t =>
      if s.role = 2 ∧ s.casc.master.isNone ∧ s.casc.deputy = s.cfg.pkgId then
        let s := advanceTo (t + 100000000) s
        let s : State := { s with casc := { s.casc with
          role := some 3, master := some s.cfg.pkgId, hops := 0, upstream := none, lostMaster := none, members := [], edges := []
          left := [], fwdSeq := [], handback := false } }
        (s.postPartner 0 s.cfg.pkgId 6).sendIdents 3
      else s
    | none => s))

/-- The strapped master takes its place again, with its partners as members. -/
def State.stepUp (s : State) : State :=
  let s : State := { s with casc := { s.casc with
    role := some 1, master := none, hops := 0, upstream := none, edges := [], left := s.casc.members.map (·.1), fwdSeq := [] } }
  let s := s.endMirrors none
  ((List.range 8).foldl (fun s b => match (s.birton b).partner with
    | some i => if s.birtonUp b then s.joinMember i.pkg b 1 i.gen else s
    | none => s) s).sendIdents 3

/-- MASTERSHIP_HANDBACK: at the first system frame marker after the returned master's timebases are LOCKED. -/
def execMastershipHandback (s : State) : Host.Outcome State Fault Refusal :=
  .next (settle (
    if s.role = 4 then s.stepUp else if s.role = 3 ∧ s.casc.handback then s.stepDown else s))

/-! ## Mirror writes and line streams (R534, R535, R541, R543) -/

/-- MIRROR_WRITE_RECEIVED. -/
def execMirrorWriteReceived (b addr : Nat) (data : List Byte) (s : State) : Host.Outcome State Fault Refusal :=
  .next (settle (if s.linkLive b ∧ s.birtonUp b ∧ !s.hbmStep then s.mirrorIn b addr data else s))

/-- MIRROR_ACK_RECEIVED: a write that its holder denied defers the flips that wait for it in every holder (R67, R419). -/
def execMirrorAckReceived (pkg layer : Nat) (denied : Bool) (s : State) : Host.Outcome State Fault Refusal :=
  .next (settle (s.mirrorAck pkg layer denied))

/-- LINE_STREAM_FRAME. -/
def execLineStreamFrame (h line first : Nat) (words : List DWord) (s : State) : Host.Outcome State Fault Refusal :=
  .next (settle (if h < 128 then s.lineIn h line first (words.map (·.toNat)) else s))

/-- COMPOSITE_LINE_MISSING: what has come of a line is dropped, and the background takes its place (R543). -/
def execCompositeLineMissing (h line : Nat) (s : State) : Host.Outcome State Fault Refusal :=
  .next (settle (
    if h < 128 then s.modHead h fun d => { d with composite := tdel d.composite line } else s))

end Sys2Proof.Machine
end

