-- ==== Sys2Proof/Machine/PacketRows.lean ====
section
/-! DEFINITION. The meaning of every command packet: its checks, its effect and its reply (R345-R403). -/

namespace Sys2Proof.Machine

/-- DEV_IDENTIFY (R379). -/
def execDevIdentify (p : Pkt) (s : State) : Host.Outcome State Fault Refusal := packet opDevIdentify p s

/-- DEV_CAPS (R380). -/
def execDevCaps (p : Pkt) (s : State) : Host.Outcome State Fault Refusal := packet opDevCaps p s

/-- DEV_EVENTS (R378). -/
def execDevEvents (p : Pkt) (s : State) : Host.Outcome State Fault Refusal := packet opDevEvents p s

/-- DEV_TIME (R378). -/
def execDevTime (p : Pkt) (s : State) : Host.Outcome State Fault Refusal := packet opDevTime p s

/-- DEV_NOP (R378). -/
def execDevNop (p : Pkt) (s : State) : Host.Outcome State Fault Refusal := packet opDevNop p s

/-- DEV_REGREAD (R381). -/
def execDevRegread (p : Pkt) (s : State) : Host.Outcome State Fault Refusal := packet opDevRegread p s

/-- DEV_REGWRITE (R381). -/
def execDevRegwrite (p : Pkt) (s : State) : Host.Outcome State Fault Refusal := packet opDevRegwrite p s

/-- PWR_SET (R510). -/
def execPwrSet (p : Pkt) (s : State) : Host.Outcome State Fault Refusal := packet opPwrSet p s

/-- PWR_WAKE (R382). -/
def execPwrWake (p : Pkt) (s : State) : Host.Outcome State Fault Refusal := packet opPwrWake p s

/-- PWR_READ (R382). -/
def execPwrRead (p : Pkt) (s : State) : Host.Outcome State Fault Refusal := packet opPwrRead p s

/-- CLK_SEED (R285). -/
def execClkSeed (p : Pkt) (s : State) : Host.Outcome State Fault Refusal := packet opClkSeed p s

/-- CLK_REGION (R294). -/
def execClkRegion (p : Pkt) (s : State) : Host.Outcome State Fault Refusal := packet opClkRegion p s

/-- CLK_HEEL (R299). -/
def execClkHeel (p : Pkt) (s : State) : Host.Outcome State Fault Refusal := packet opClkHeel p s

/-- CLK_GENLOCK (R304). -/
def execClkGenlock (p : Pkt) (s : State) : Host.Outcome State Fault Refusal := packet opClkGenlock p s

/-- CLK_REFLOST (R462). -/
def execClkReflost (p : Pkt) (s : State) : Host.Outcome State Fault Refusal := packet opClkReflost p s

/-- CLK_READ (R384). -/
def execClkRead (p : Pkt) (s : State) : Host.Outcome State Fault Refusal := packet opClkRead p s

/-- MEM_RATE (R332). -/
def execMemRate (p : Pkt) (s : State) : Host.Outcome State Fault Refusal := packet opMemRate p s

/-- MEM_ROWPROT (R328). -/
def execMemRowprot (p : Pkt) (s : State) : Host.Outcome State Fault Refusal := packet opMemRowprot p s

/-- MEM_ERRLOG (R338). -/
def execMemErrlog (p : Pkt) (s : State) : Host.Outcome State Fault Refusal := packet opMemErrlog p s

/-- MEM_READ (R385). -/
def execMemRead (p : Pkt) (s : State) : Host.Outcome State Fault Refusal := packet opMemRead p s

/-- ACC_WINDOW (R316). -/
def execAccWindow (p : Pkt) (s : State) : Host.Outcome State Fault Refusal := packet opAccWindow p s

/-- ACC_TABLE (R413). -/
def execAccTable (p : Pkt) (s : State) : Host.Outcome State Fault Refusal := packet opAccTable p s

/-- ACC_READ (R386). -/
def execAccRead (p : Pkt) (s : State) : Host.Outcome State Fault Refusal := packet opAccRead p s

/-- CANVAS_WINDOW (R46). -/
def execCanvasWindow (p : Pkt) (s : State) : Host.Outcome State Fault Refusal := packet opCanvasWindow p s

/-- CANVAS_READ (R387). -/
def execCanvasRead (p : Pkt) (s : State) : Host.Outcome State Fault Refusal := packet opCanvasRead p s

/-- LAYER_PLACE (R56). -/
def execLayerPlace (p : Pkt) (s : State) : Host.Outcome State Fault Refusal := packet opLayerPlace p s

/-- LAYER_REMOVE (R153). -/
def execLayerRemove (p : Pkt) (s : State) : Host.Outcome State Fault Refusal := packet opLayerRemove p s

/-- LAYER_SOURCE (R85). -/
def execLayerSource (p : Pkt) (s : State) : Host.Outcome State Fault Refusal := packet opLayerSource p s

/-- LAYER_FLIP (R148). -/
def execLayerFlip (p : Pkt) (s : State) : Host.Outcome State Fault Refusal := packet opLayerFlip p s

/-- LAYER_SCALE (R98). -/
def execLayerScale (p : Pkt) (s : State) : Host.Outcome State Fault Refusal := packet opLayerScale p s

/-- LAYER_COLOUR (R114). -/
def execLayerColour (p : Pkt) (s : State) : Host.Outcome State Fault Refusal := packet opLayerColour p s

/-- LAYER_FILL (R133). -/
def execLayerFill (p : Pkt) (s : State) : Host.Outcome State Fault Refusal := packet opLayerFill p s

/-- LAYER_POLICY (R152). -/
def execLayerPolicy (p : Pkt) (s : State) : Host.Outcome State Fault Refusal := packet opLayerPolicy p s

/-- LAYER_PALETTE (R91). -/
def execLayerPalette (p : Pkt) (s : State) : Host.Outcome State Fault Refusal := packet opLayerPalette p s

/-- LAYER_COEFSET (R99). -/
def execLayerCoefset (p : Pkt) (s : State) : Host.Outcome State Fault Refusal := packet opLayerCoefset p s

/-- LAYER_EOTFTABLE (R123). -/
def execLayerEotftable (p : Pkt) (s : State) : Host.Outcome State Fault Refusal := packet opLayerEotftable p s

/-- LAYER_TONETABLE (R127). -/
def execLayerTonetable (p : Pkt) (s : State) : Host.Outcome State Fault Refusal := packet opLayerTonetable p s

/-- LAYER_READ (R388). -/
def execLayerRead (p : Pkt) (s : State) : Host.Outcome State Fault Refusal := packet opLayerRead p s

/-- HEAD_PLACE (R49). -/
def execHeadPlace (p : Pkt) (s : State) : Host.Outcome State Fault Refusal := packet opHeadPlace p s

/-- HEAD_TIMING (R391). -/
def execHeadTiming (p : Pkt) (s : State) : Host.Outcome State Fault Refusal := packet opHeadTiming p s

/-- HEAD_BIND (R237). -/
def execHeadBind (p : Pkt) (s : State) : Host.Outcome State Fault Refusal := packet opHeadBind p s

/-- HEAD_GROUP (R75). -/
def execHeadGroup (p : Pkt) (s : State) : Host.Outcome State Fault Refusal := packet opHeadGroup p s

/-- HEAD_PAIR (R78). -/
def execHeadPair (p : Pkt) (s : State) : Host.Outcome State Fault Refusal := packet opHeadPair p s

/-- HEAD_COLOUR (R115). -/
def execHeadColour (p : Pkt) (s : State) : Host.Outcome State Fault Refusal := packet opHeadColour p s

/-- HEAD_COMMIT (R144). -/
def execHeadCommit (p : Pkt) (s : State) : Host.Outcome State Fault Refusal := packet opHeadCommit p s

/-- HEAD_POLICY (R172). -/
def execHeadPolicy (p : Pkt) (s : State) : Host.Outcome State Fault Refusal := packet opHeadPolicy p s

/-- HEAD_READ (R390). -/
def execHeadRead (p : Pkt) (s : State) : Host.Outcome State Fault Refusal := packet opHeadRead p s

/-- LINK_CONFIG (R220). -/
def execLinkConfig (p : Pkt) (s : State) : Host.Outcome State Fault Refusal := packet opLinkConfig p s

/-- LINK_TRAIN (R234). -/
def execLinkTrain (p : Pkt) (s : State) : Host.Outcome State Fault Refusal := packet opLinkTrain p s

/-- LINK_AUX (R245). -/
def execLinkAux (p : Pkt) (s : State) : Host.Outcome State Fault Refusal := packet opLinkAux p s

/-- LINK_AUTOSTART (R244). -/
def execLinkAutostart (p : Pkt) (s : State) : Host.Outcome State Fault Refusal := packet opLinkAutostart p s

/-- LINK_READ (R392). -/
def execLinkRead (p : Pkt) (s : State) : Host.Outcome State Fault Refusal := packet opLinkRead p s

/-- INPUT_CONFIG (R248). -/
def execInputConfig (p : Pkt) (s : State) : Host.Outcome State Fault Refusal := packet opInputConfig p s

/-- INPUT_EDID (R247). -/
def execInputEdid (p : Pkt) (s : State) : Host.Outcome State Fault Refusal := packet opInputEdid p s

/-- INPUT_CAPTURE (R250). -/
def execInputCapture (p : Pkt) (s : State) : Host.Outcome State Fault Refusal := packet opInputCapture p s

/-- INPUT_BIND (R254). -/
def execInputBind (p : Pkt) (s : State) : Host.Outcome State Fault Refusal := packet opInputBind p s

/-- INPUT_AUDIO (R266). -/
def execInputAudio (p : Pkt) (s : State) : Host.Outcome State Fault Refusal := packet opInputAudio p s

/-- INPUT_STATUS (R393). -/
def execInputStatus (p : Pkt) (s : State) : Host.Outcome State Fault Refusal := packet opInputStatus p s

/-- AUDIO_CONFIG (R268). -/
def execAudioConfig (p : Pkt) (s : State) : Host.Outcome State Fault Refusal := packet opAudioConfig p s

/-- AUDIO_ROUTE (R275). -/
def execAudioRoute (p : Pkt) (s : State) : Host.Outcome State Fault Refusal := packet opAudioRoute p s

/-- AUDIO_MUTE (R276). -/
def execAudioMute (p : Pkt) (s : State) : Host.Outcome State Fault Refusal := packet opAudioMute p s

/-- AUDIO_STATUS (R394). -/
def execAudioStatus (p : Pkt) (s : State) : Host.Outcome State Fault Refusal := packet opAudioStatus p s

/-- MANTEL_AREA (R179). -/
def execMantelArea (p : Pkt) (s : State) : Host.Outcome State Fault Refusal := packet opMantelArea p s

/-- MANTEL_ATLAS (R185). -/
def execMantelAtlas (p : Pkt) (s : State) : Host.Outcome State Fault Refusal := packet opMantelAtlas p s

/-- MANTEL_PALETTE (R187). -/
def execMantelPalette (p : Pkt) (s : State) : Host.Outcome State Fault Refusal := packet opMantelPalette p s

/-- MANTEL_BACKDROP (R187). -/
def execMantelBackdrop (p : Pkt) (s : State) : Host.Outcome State Fault Refusal := packet opMantelBackdrop p s

/-- MANTEL_SPRITES (R189). -/
def execMantelSprites (p : Pkt) (s : State) : Host.Outcome State Fault Refusal := packet opMantelSprites p s

/-- MANTEL_COMMIT (R195). -/
def execMantelCommit (p : Pkt) (s : State) : Host.Outcome State Fault Refusal := packet opMantelCommit p s

/-- MANTEL_ARM (R197). -/
def execMantelArm (p : Pkt) (s : State) : Host.Outcome State Fault Refusal := packet opMantelArm p s

/-- MANTEL_STORE (R216). -/
def execMantelStore (p : Pkt) (s : State) : Host.Outcome State Fault Refusal := packet opMantelStore p s

/-- MANTEL_READ (R395). -/
def execMantelRead (p : Pkt) (s : State) : Host.Outcome State Fault Refusal := packet opMantelRead p s

/-- CTM_WRITE (R194). -/
def execCtmWrite (p : Pkt) (s : State) : Host.Outcome State Fault Refusal := packet opCtmWrite p s

/-- CTM_FILL (R194). -/
def execCtmFill (p : Pkt) (s : State) : Host.Outcome State Fault Refusal := packet opCtmFill p s

/-- CTM_READ (R194). -/
def execCtmRead (p : Pkt) (s : State) : Host.Outcome State Fault Refusal := packet opCtmRead p s

/-- VERIFY_EXPECT (R206). -/
def execVerifyExpect (p : Pkt) (s : State) : Host.Outcome State Fault Refusal := packet opVerifyExpect p s

/-- VERIFY_REACT (R210). -/
def execVerifyReact (p : Pkt) (s : State) : Host.Outcome State Fault Refusal := packet opVerifyReact p s

/-- VERIFY_RELEASE (R213). -/
def execVerifyRelease (p : Pkt) (s : State) : Host.Outcome State Fault Refusal := packet opVerifyRelease p s

/-- VERIFY_TILES (R204). -/
def execVerifyTiles (p : Pkt) (s : State) : Host.Outcome State Fault Refusal := packet opVerifyTiles p s

/-- VERIFY_ECHO (R214). -/
def execVerifyEcho (p : Pkt) (s : State) : Host.Outcome State Fault Refusal := packet opVerifyEcho p s

/-- VERIFY_SAFEFILL (R212). -/
def execVerifySafefill (p : Pkt) (s : State) : Host.Outcome State Fault Refusal := packet opVerifySafefill p s

/-- VERIFY_READ (R397). -/
def execVerifyRead (p : Pkt) (s : State) : Host.Outcome State Fault Refusal := packet opVerifyRead p s

/-- FAULT_READ (R398). -/
def execFaultRead (p : Pkt) (s : State) : Host.Outcome State Fault Refusal := packet opFaultRead p s

/-- FAULT_CLEAR (R398). -/
def execFaultClear (p : Pkt) (s : State) : Host.Outcome State Fault Refusal := packet opFaultClear p s

/-- FAULT_REACT (R398). -/
def execFaultReact (p : Pkt) (s : State) : Host.Outcome State Fault Refusal := packet opFaultReact p s

/-- FAULT_BARK (R398). -/
def execFaultBark (p : Pkt) (s : State) : Host.Outcome State Fault Refusal := packet opFaultBark p s

/-- FAULT_INJECT (R476). -/
def execFaultInject (p : Pkt) (s : State) : Host.Outcome State Fault Refusal := packet opFaultInject p s

/-- IRQ_ROUTE (R467). -/
def execIrqRoute (p : Pkt) (s : State) : Host.Outcome State Fault Refusal := packet opIrqRoute p s

/-- IRQ_MASK (R399). -/
def execIrqMask (p : Pkt) (s : State) : Host.Outcome State Fault Refusal := packet opIrqMask p s

/-- IRQ_HOLDOFF (R468). -/
def execIrqHoldoff (p : Pkt) (s : State) : Host.Outcome State Fault Refusal := packet opIrqHoldoff p s

/-- IRQ_READ (R398). -/
def execIrqRead (p : Pkt) (s : State) : Host.Outcome State Fault Refusal := packet opIrqRead p s

/-- DMA_OWN (R444). -/
def execDmaOwn (p : Pkt) (s : State) : Host.Outcome State Fault Refusal := packet opDmaOwn p s

/-- DMA_SETUP (R400). -/
def execDmaSetup (p : Pkt) (s : State) : Host.Outcome State Fault Refusal := packet opDmaSetup p s

/-- DMA_TOKEN (R156). -/
def execDmaToken (p : Pkt) (s : State) : Host.Outcome State Fault Refusal := packet opDmaToken p s

/-- DMA_PAUSE (R453). -/
def execDmaPause (p : Pkt) (s : State) : Host.Outcome State Fault Refusal := packet opDmaPause p s

/-- DMA_READ (R400). -/
def execDmaRead (p : Pkt) (s : State) : Host.Outcome State Fault Refusal := packet opDmaRead p s

/-- TELEM_READ (R502). -/
def execTelemRead (p : Pkt) (s : State) : Host.Outcome State Fault Refusal := packet opTelemRead p s

/-- TELEM_PUSH (R503). -/
def execTelemPush (p : Pkt) (s : State) : Host.Outcome State Fault Refusal := packet opTelemPush p s

/-- TELEM_LIMIT (R401). -/
def execTelemLimit (p : Pkt) (s : State) : Host.Outcome State Fault Refusal := packet opTelemLimit p s

/-- WEAR_ORBIT (R501). -/
def execWearOrbit (p : Pkt) (s : State) : Host.Outcome State Fault Refusal := packet opWearOrbit p s

/-- WEAR_CAP (R500). -/
def execWearCap (p : Pkt) (s : State) : Host.Outcome State Fault Refusal := packet opWearCap p s

/-- WEAR_READ (R499). -/
def execWearRead (p : Pkt) (s : State) : Host.Outcome State Fault Refusal := packet opWearRead p s

/-- REPAIR_LEDGER (R482). -/
def execRepairLedger (p : Pkt) (s : State) : Host.Outcome State Fault Refusal := packet opRepairLedger p s

/-- REPAIR_RETIRE (R402). -/
def execRepairRetire (p : Pkt) (s : State) : Host.Outcome State Fault Refusal := packet opRepairRetire p s

/-- REPAIR_CLEAR (R402). -/
def execRepairClear (p : Pkt) (s : State) : Host.Outcome State Fault Refusal := packet opRepairClear p s

/-- CASC_CEILING (R368). -/
def execCascCeiling (p : Pkt) (s : State) : Host.Outcome State Fault Refusal := packet opCascCeiling p s

/-- CASC_DEPUTY (R547). -/
def execCascDeputy (p : Pkt) (s : State) : Host.Outcome State Fault Refusal := packet opCascDeputy p s

/-- CASC_READ (R549). -/
def execCascRead (p : Pkt) (s : State) : Host.Outcome State Fault Refusal := packet opCascRead p s

/-- SVC_EXIT (R510). -/
def execSvcExit (p : Pkt) (s : State) : Host.Outcome State Fault Refusal := packet opSvcExit p s

/-- SVC_BIST (R402). -/
def execSvcBist (p : Pkt) (s : State) : Host.Outcome State Fault Refusal := packet opSvcBist p s

/-- SVC_CLKOBS (R402). -/
def execSvcClkobs (p : Pkt) (s : State) : Host.Outcome State Fault Refusal := packet opSvcClkobs p s

/-- SVC_MEMREAD (R402). -/
def execSvcMemread (p : Pkt) (s : State) : Host.Outcome State Fault Refusal := packet opSvcMemread p s

end Sys2Proof.Machine
end

