-- ==== Sys2Proof/Machine/RegRows.lean ====
section
/-! DEFINITION. The commands of the PCIe link and of the registers: doorbells, sessions, BAR2, register reads
and writes, complement pairs, channels and check-value units (R8, R345, R360-R362, R420-R443, R450, R451,
R457, R458, R466). -/

namespace Sys2Proof.Machine

/-- Offset of a register of a function's doorbell block on D0 (R425). -/
def doorOff (fn off : Nat) : Nat := 0x100000 + 0x10000 * fn + off

/-- A full-word write of a register by a path, whose effect past the access check is `k` (R413, R419). -/
def State.gatedWrite (s : State) (path die off val : Nat) (k : State → State) : State :=
  let s := s.expirePairs
  match s.regTarget die off with
  | none => s
  | some r =>
    let w : RegWr := { master := path, at_ := r, val, be := 15 }
    if !s.pathLive path ∨ !pathReach path r then s
    else if s.mayWrite r.table.1 r.table.2 path then k (s.disturbPair w)
    else (s.wrErr w 6).denyReg path r.die r.block r.at'

/-! ## Doorbells and sessions (R345, R360-R362, R426, R428) -/

/-- SQ_TAIL: the doorbell of a submission ring, with what the ring in host memory holds from SQ_HEAD on (R360). -/
def execSqTail (fn unit : Nat) (hostRing : List Byte) (s : State) : Host.Outcome State Fault Refusal :=
  .next (settle (if 16 ≤ fn then s
    else s.gatedWrite fn 0 (doorOff fn 0x0C) unit fun s => s.sqTail fn unit hostRing))

/-- CQ_HEAD (R361). -/
def execCqHead (fn unit : Nat) (s : State) : Host.Outcome State Fault Refusal :=
  .next (settle (if 16 ≤ fn then s else s.gatedWrite fn 0 (doorOff fn 0x20) unit fun s => s.cqHead fn unit))

/-- RING_CTRL_WRITE (R426). -/
def execRingCtrlWrite (path fn : Nat) (val : Word) (s : State) : Host.Outcome State Fault Refusal :=
  .next (settle (if 16 ≤ fn then s else s.regWrite path 0 (doorOff fn 0x2C) val.toNat 15))

/-- IRQ_ACK (R428). -/
def execIrqAck (fn vec : Nat) (s : State) : Host.Outcome State Fault Refusal :=
  .next (settle (if 16 ≤ fn then s else s.gatedWrite fn 0 (doorOff fn 0x50) vec fun s => s.irqAck fn vec))

/-- FUNCTION_LEVEL_RESET ends the function's session (R362). -/
def execFunctionLevelReset (fn : Nat) (s : State) : Host.Outcome State Fault Refusal :=
  .next (settle (if fn < 16 ∧ s.portLive fn then s.endSession fn else s))

/-- VF_DISABLE: PF0 clears VF Enable or lowers NumVFs (R362). -/
def execVfDisable (keep : Nat) (s : State) : Host.Outcome State Fault Refusal := .next (settle (s.keepVfs keep))

/-- PCIE_LINK_DOWN ends every session (R362, R472). -/
def execPcieLinkDown (s : State) : Host.Outcome State Fault Refusal :=
  .next (settle (if s.regs.pcieUp then s.linkDown else s))

/-- Set or clear a function's Bus Master Enable. -/
def State.setBme (s : State) (fn : Nat) (on : Bool) : State :=
  if fn < 16 ∧ s.portLive fn then s.modDoor fn fun d => { d with bme := on } else s

/-- BUS_MASTER_ENABLE_CLEAR holds the function's rings; it ends no session (R362). -/
def execBusMasterEnableClear (fn : Nat) (s : State) : Host.Outcome State Fault Refusal := .next (settle (s.setBme fn false))

/-- BUS_MASTER_ENABLE_SET resumes the function's rings (R362). -/
def execBusMasterEnableSet (fn : Nat) (s : State) : Host.Outcome State Fault Refusal := .next (settle (s.setBme fn true))

/-- PCIE_LINK_UP: the functions take commands again, once the Bureau runs (R345). -/
def execPcieLinkUp (s : State) : Host.Outcome State Fault Refusal :=
  .next (settle (if s.bureauUp then { s with regs := { s.regs with pcieUp := true } } else s))

/-- VF_ENABLE: PF0 sets NumVFs with VF Enable; a lower number ends the sessions of the others (R345, R362). -/
def execVfEnable (n : Nat) (s : State) : Host.Outcome State Fault Refusal :=
  .next (settle (
    if !s.regs.pcieUp then s
    else
      let s := s.keepVfs n
      { s with regs := { s.regs with numVfs := min 15 n } }))

/-- MSI_X_TARGET_WAKE: a function leaves D3hot, or the host unmasks one of its vectors (R466). -/
def execMsiXTargetWake (fn : Nat) (vec : Option Nat) (s : State) : Host.Outcome State Fault Refusal :=
  .next (settle (if 16 ≤ fn then s else s.modDoor fn fun d =>
    match vec with
    | none => { d with d3hot := false }
    | some v => { d with vecMask := d.vecMask &&& ~~~((1 : BitVec 128) <<< (v % 128)) }))

/-! ## BAR2 (R315, R420, R427, R573) -/

/-- BAR2_READ: all-ones while HBM content is being initialised. -/
def execBar2Read (fn off len : Nat) (s : State) : Host.Outcome State Fault Refusal :=
  .next (settle (
    if 16 ≤ fn ∨ !s.portLive fn then s
    else if s.hbmStep then { s with lastRead := tset s.lastRead (bar2Path fn) (2 ^ (8 * len) - 1) }
    else s.bar2Read fn off len))

/-- BAR2_WRITE: dropped while HBM content is being initialised. -/
def execBar2Write (fn off : Nat) (data : List Byte) (s : State) : Host.Outcome State Fault Refusal :=
  .next (settle (if 16 ≤ fn ∨ !s.portLive fn ∨ s.hbmStep then s else s.bar2Write fn off data))

/-! ## Registers (R8, R420-R443) -/

/-- REGISTER_WRITE: a write of one or both words of an access through a function's BAR0 (R8, R442). -/
def execRegisterWrite (fn off be : Nat) (val : DWord) (s : State) : Host.Outcome State Fault Refusal :=
  .next (settle (if 16 ≤ fn then s else s.barWrite fn off be val))

/-- CFG_LOCK_LOCK (R436). -/
def execCfgLockLock (path die : Nat) (val : Word) (s : State) : Host.Outcome State Fault Refusal :=
  .next (settle (s.regWrite path die 0x10010 val.toNat 15))

/-- IA_ADDR_WRITE (R438). -/
def execIaAddrWrite (path die : Nat) (val : Word) (s : State) : Host.Outcome State Fault Refusal :=
  .next (settle (s.regWrite path die 0x10000 val.toNat 15))

/-- IA_DATA_READ (R438). -/
def execIaDataRead (path die : Nat) (s : State) : Host.Outcome State Fault Refusal :=
  .next (settle (s.regRead path die 0x10004))

/-- IA_DATA_WRITE (R438). -/
def execIaDataWrite (path die : Nat) (val : Word) (s : State) : Host.Outcome State Fault Refusal :=
  .next (settle (s.regWrite path die 0x10004 val.toNat 15))

/-- A read of IA_DATA that the indirect space does not answer in time. -/
def State.iaReadLate (s : State) (path die : Nat) : State :=
  match s.regTarget die 0x10004 with
  | none => { s with lastRead := tset s.lastRead path 0 }
  | some r =>
    if !s.pathLive path ∨ !pathReach path r then s
    else if s.mayRead r.table.1 r.table.2 path then
      let v := s.iaTimeout die path
      { v.2 with lastRead := tset v.2.lastRead path v.1 }
    else
      let s := s.denyReg path r.die r.block r.at'
      { s with lastRead := tset s.lastRead path 0 }

/-- INDIRECT_READ_TIMEOUT (R438). -/
def execIndirectReadTimeout (path die : Nat) (s : State) : Host.Outcome State Fault Refusal :=
  .next (settle (s.iaReadLate path die))

/-- INDIRECT_WRITE_COMPLETE (R438). -/
def execIndirectWriteComplete (die : Nat) (s : State) : Host.Outcome State Fault Refusal :=
  .next (settle (s.iaSettle die))

/-- COMPLEMENT_PAIR_OPEN: a write to the first address of a complement-pair register (R434). -/
def execComplementPairOpen (path die off : Nat) (val : Word) (s : State) : Host.Outcome State Fault Refusal :=
  .next (settle (s.regWrite path die (off / 8 * 8) val.toNat 15))

/-- COMPLEMENT_PAIR_TIMEOUT: 64 µs pass without the complement (R434). -/
def execComplementPairTimeout (master die : Nat) (s : State) : Host.Outcome State Fault Refusal :=
  .next (settle (match s.openPair master die with
    | some p => (advanceTo (p.at_ + 64000) s).dropPair master die 2
    | none => s))

/-- Both writes of a complement pair. -/
def State.writePair (s : State) (path die off : Nat) (val comp : Word) : State :=
  (s.regWrite path die off val.toNat 15).regWrite path die (off + 4) comp.toNat 15

/-- FAULT_REACT_PAIR (R432). -/
def execFaultReactPair (path die i : Nat) (val comp : Word) (s : State) : Host.Outcome State Fault Refusal :=
  .next (settle (s.writePair path die (0x20000 + 8 * (i % 256)) val comp))

/-- BARK_WIDTH_PAIR (R432). -/
def execBarkWidthPair (path die : Nat) (val comp : Word) (s : State) : Host.Outcome State Fault Refusal :=
  .next (settle (s.writePair path die 0x20800 val comp))

/-- ERR_REL (R433). -/
def execErrRel (path : Nat) (val comp : Word) (s : State) : Host.Outcome State Fault Refusal :=
  .next (settle (s.writePair path 0 0x20810 val comp))

/-- IRQ_TARGET_WRITE (R430). -/
def execIrqTargetWrite (path die i : Nat) (val : Word) (s : State) : Host.Outcome State Fault Refusal :=
  .next (settle (s.regWrite path die (0x40800 + 8 * (i % 256)) val.toNat 15))

/-- IRQ_MASK_REGISTER_WRITE (R430). -/
def execIrqMaskRegisterWrite (path die n : Nat) (val : Word) (s : State) : Host.Outcome State Fault Refusal :=
  .next (settle (s.regWrite path die (0x40020 + 4 * (n % 8)) val.toNat 15))

/-- Die and offset of a register of a fault record (R421, R431). -/
def recReg (rec off : Nat) : Nat × Nat :=
  if rec < 8 then (rec / 4, 0x10000 * (8 + rec % 4) + off)
  else ((rec - 8) / 16, 0xC0000 + 64 * ((rec - 8) % 16) + off)

/-- FC_STICKY_CLEAR (R431). -/
def execFcStickyClear (path rec : Nat) (hi : Bool) (val : Word) (s : State) : Host.Outcome State Fault Refusal :=
  .next (settle (s.regWrite path (recReg rec 0).1 (recReg rec (if hi then 4 else 0)).2 val.toNat 15))

/-- ACC_ERR_READ: a full read clears the count (R423). -/
def execAccErrRead (path die : Nat) (s : State) : Host.Outcome State Fault Refusal := .next (settle (s.regRead path die 0x10))

/-- FN_STAT_READ: a full read clears both counts (R425). -/
def execFnStatRead (path fn : Nat) (s : State) : Host.Outcome State Fault Refusal :=
  .next (settle (if 16 ≤ fn then s else s.regRead path 0 (doorOff fn 0x30)))

/-- DEV_TIME_LO_READ latches the high half (R443). -/
def execDevTimeLoRead (path die : Nat) (s : State) : Host.Outcome State Fault Refusal := .next (settle (s.regRead path die 0x08))

/-- FC_FIRST_TIME_LO_READ latches the high half (R443). -/
def execFcFirstTimeLoRead (path rec : Nat) (s : State) : Host.Outcome State Fault Refusal :=
  .next (settle (s.regRead path (recReg rec 0).1 (recReg rec 0x1C).2))

/-- LATCHED_HIGH_READ returns the half latched by the path's last low read, else the live one (R443). -/
def execLatchedHighRead (path : Nat) (src : LatchSrc) (s : State) : Host.Outcome State Fault Refusal :=
  .next (settle (match src with
    | .devTime => s.regRead path 0 0x0C
    | .fcFirst rec => s.regRead path (recReg rec 0).1 (recReg rec 0x20).2))

/-! ## Channels and check-value units (R440, R441, R450, R451, R457, R458) -/

/-- A full-word write of a channel's register. -/
def State.chanReg (s : State) (path ch off val : Nat) : State :=
  if 32 ≤ ch then s else s.regWrite path (ch / 16) (0x10000 * (32 + ch % 16) + off) val 15

/-- DMA_DOORBELL (R450). -/
def execDmaDoorbell (path ch : Nat) (val : Word) (s : State) : Host.Outcome State Fault Refusal :=
  .next (settle (s.chanReg path ch 0x08 val.toNat))

/-- DMA_CHAIN_WRITE (R440). -/
def execDmaChainWrite (path ch : Nat) (hi : Bool) (val : Word) (s : State) : Host.Outcome State Fault Refusal :=
  .next (settle (s.chanReg path ch (if hi then 4 else 0) val.toNat))

/-- DMA_CTRL_PAUSE (R450). -/
def execDmaCtrlPause (path ch : Nat) (s : State) : Host.Outcome State Fault Refusal := .next (settle (s.chanReg path ch 0x0C 1))

/-- DMA_CTRL_RESUME (R450). -/
def execDmaCtrlResume (path ch : Nat) (s : State) : Host.Outcome State Fault Refusal := .next (settle (s.chanReg path ch 0x0C 0))

/-- DMA_IRQ_CLEAR (R451). -/
def execDmaIrqClear (path ch : Nat) (val : Word) (s : State) : Host.Outcome State Fault Refusal :=
  .next (settle (s.chanReg path ch 0x38 val.toNat))

/-- Die and offset of a register of a check-value unit (R441). -/
def cvReg (u off : Nat) : Nat × Nat := (u / 4, 0x300000 + 64 * (u % 4) + off)

/-- CV_CTRL_START: a write of CV_CTRL with start set (R457). -/
def execCvCtrlStart (path unit : Nat) (val : Word) (s : State) : Host.Outcome State Fault Refusal :=
  .next (settle (s.regWrite path (cvReg unit 0).1 (cvReg unit 0).2 (val ||| 0x10).toNat 15))

/-- CV_DATA_WRITE: the enabled bytes enter the unit (R458). -/
def execCvDataWrite (path unit be : Nat) (val : Word) (s : State) : Host.Outcome State Fault Refusal :=
  .next (settle (s.regWrite path (cvReg unit 0).1 (cvReg unit 0x0C).2 val.toNat be))

/-- CV_RESULT_READ waits until no byte is pending (R458). -/
def execCvResultRead (path unit : Nat) (s : State) : Host.Outcome State Fault Refusal :=
  .next (settle (s.regRead path (cvReg unit 0).1 (cvReg unit 0x10).2))

/-- CV_BYTE_PROCESSED: one pending byte is fed per fabric cycle (R458). -/
def execCvByteProcessed (unit : Nat) (s : State) : Host.Outcome State Fault Refusal :=
  .next (settle (match (s.cv unit).pend with
    | [] => s
    | b :: t => advance 2 (s.modCv unit fun c => { (c.feed [b]) with pend := t })))

end Sys2Proof.Machine
end

