-- ==== Sys2Proof/Machine/Dispatch.lean ====
section
/-! DEFINITION. One arm per command, each a direct call of its meaning. -/

namespace Sys2Proof.Machine

def exec (i : Instr) (s : State) : Host.Outcome State Fault Refusal :=
  match i with
  | .devIdentify p => Sys2Proof.Machine.execDevIdentify p s
  | .devCaps p => Sys2Proof.Machine.execDevCaps p s
  | .devEvents p => Sys2Proof.Machine.execDevEvents p s
  | .devTime p => Sys2Proof.Machine.execDevTime p s
  | .devNop p => Sys2Proof.Machine.execDevNop p s
  | .devRegread p => Sys2Proof.Machine.execDevRegread p s
  | .devRegwrite p => Sys2Proof.Machine.execDevRegwrite p s
  | .pwrSet p => Sys2Proof.Machine.execPwrSet p s
  | .pwrWake p => Sys2Proof.Machine.execPwrWake p s
  | .pwrRead p => Sys2Proof.Machine.execPwrRead p s
  | .clkSeed p => Sys2Proof.Machine.execClkSeed p s
  | .clkRegion p => Sys2Proof.Machine.execClkRegion p s
  | .clkHeel p => Sys2Proof.Machine.execClkHeel p s
  | .clkGenlock p => Sys2Proof.Machine.execClkGenlock p s
  | .clkReflost p => Sys2Proof.Machine.execClkReflost p s
  | .clkRead p => Sys2Proof.Machine.execClkRead p s
  | .memRate p => Sys2Proof.Machine.execMemRate p s
  | .memRowprot p => Sys2Proof.Machine.execMemRowprot p s
  | .memErrlog p => Sys2Proof.Machine.execMemErrlog p s
  | .memRead p => Sys2Proof.Machine.execMemRead p s
  | .accWindow p => Sys2Proof.Machine.execAccWindow p s
  | .accTable p => Sys2Proof.Machine.execAccTable p s
  | .accRead p => Sys2Proof.Machine.execAccRead p s
  | .canvasWindow p => Sys2Proof.Machine.execCanvasWindow p s
  | .canvasRead p => Sys2Proof.Machine.execCanvasRead p s
  | .layerPlace p => Sys2Proof.Machine.execLayerPlace p s
  | .layerRemove p => Sys2Proof.Machine.execLayerRemove p s
  | .layerSource p => Sys2Proof.Machine.execLayerSource p s
  | .layerFlip p => Sys2Proof.Machine.execLayerFlip p s
  | .layerScale p => Sys2Proof.Machine.execLayerScale p s
  | .layerColour p => Sys2Proof.Machine.execLayerColour p s
  | .layerFill p => Sys2Proof.Machine.execLayerFill p s
  | .layerPolicy p => Sys2Proof.Machine.execLayerPolicy p s
  | .layerPalette p => Sys2Proof.Machine.execLayerPalette p s
  | .layerCoefset p => Sys2Proof.Machine.execLayerCoefset p s
  | .layerEotftable p => Sys2Proof.Machine.execLayerEotftable p s
  | .layerTonetable p => Sys2Proof.Machine.execLayerTonetable p s
  | .layerRead p => Sys2Proof.Machine.execLayerRead p s
  | .headPlace p => Sys2Proof.Machine.execHeadPlace p s
  | .headTiming p => Sys2Proof.Machine.execHeadTiming p s
  | .headBind p => Sys2Proof.Machine.execHeadBind p s
  | .headGroup p => Sys2Proof.Machine.execHeadGroup p s
  | .headPair p => Sys2Proof.Machine.execHeadPair p s
  | .headColour p => Sys2Proof.Machine.execHeadColour p s
  | .headCommit p => Sys2Proof.Machine.execHeadCommit p s
  | .headPolicy p => Sys2Proof.Machine.execHeadPolicy p s
  | .headRead p => Sys2Proof.Machine.execHeadRead p s
  | .linkConfig p => Sys2Proof.Machine.execLinkConfig p s
  | .linkTrain p => Sys2Proof.Machine.execLinkTrain p s
  | .linkAux p => Sys2Proof.Machine.execLinkAux p s
  | .linkAutostart p => Sys2Proof.Machine.execLinkAutostart p s
  | .linkRead p => Sys2Proof.Machine.execLinkRead p s
  | .inputConfig p => Sys2Proof.Machine.execInputConfig p s
  | .inputEdid p => Sys2Proof.Machine.execInputEdid p s
  | .inputCapture p => Sys2Proof.Machine.execInputCapture p s
  | .inputBind p => Sys2Proof.Machine.execInputBind p s
  | .inputAudio p => Sys2Proof.Machine.execInputAudio p s
  | .inputStatus p => Sys2Proof.Machine.execInputStatus p s
  | .audioConfig p => Sys2Proof.Machine.execAudioConfig p s
  | .audioRoute p => Sys2Proof.Machine.execAudioRoute p s
  | .audioMute p => Sys2Proof.Machine.execAudioMute p s
  | .audioStatus p => Sys2Proof.Machine.execAudioStatus p s
  | .mantelArea p => Sys2Proof.Machine.execMantelArea p s
  | .mantelAtlas p => Sys2Proof.Machine.execMantelAtlas p s
  | .mantelPalette p => Sys2Proof.Machine.execMantelPalette p s
  | .mantelBackdrop p => Sys2Proof.Machine.execMantelBackdrop p s
  | .mantelSprites p => Sys2Proof.Machine.execMantelSprites p s
  | .mantelCommit p => Sys2Proof.Machine.execMantelCommit p s
  | .mantelArm p => Sys2Proof.Machine.execMantelArm p s
  | .mantelStore p => Sys2Proof.Machine.execMantelStore p s
  | .mantelRead p => Sys2Proof.Machine.execMantelRead p s
  | .ctmWrite p => Sys2Proof.Machine.execCtmWrite p s
  | .ctmFill p => Sys2Proof.Machine.execCtmFill p s
  | .ctmRead p => Sys2Proof.Machine.execCtmRead p s
  | .verifyExpect p => Sys2Proof.Machine.execVerifyExpect p s
  | .verifyReact p => Sys2Proof.Machine.execVerifyReact p s
  | .verifyRelease p => Sys2Proof.Machine.execVerifyRelease p s
  | .verifyTiles p => Sys2Proof.Machine.execVerifyTiles p s
  | .verifyEcho p => Sys2Proof.Machine.execVerifyEcho p s
  | .verifySafefill p => Sys2Proof.Machine.execVerifySafefill p s
  | .verifyRead p => Sys2Proof.Machine.execVerifyRead p s
  | .faultRead p => Sys2Proof.Machine.execFaultRead p s
  | .faultClear p => Sys2Proof.Machine.execFaultClear p s
  | .faultReact p => Sys2Proof.Machine.execFaultReact p s
  | .faultBark p => Sys2Proof.Machine.execFaultBark p s
  | .faultInject p => Sys2Proof.Machine.execFaultInject p s
  | .irqRoute p => Sys2Proof.Machine.execIrqRoute p s
  | .irqMask p => Sys2Proof.Machine.execIrqMask p s
  | .irqHoldoff p => Sys2Proof.Machine.execIrqHoldoff p s
  | .irqRead p => Sys2Proof.Machine.execIrqRead p s
  | .dmaOwn p => Sys2Proof.Machine.execDmaOwn p s
  | .dmaSetup p => Sys2Proof.Machine.execDmaSetup p s
  | .dmaToken p => Sys2Proof.Machine.execDmaToken p s
  | .dmaPause p => Sys2Proof.Machine.execDmaPause p s
  | .dmaRead p => Sys2Proof.Machine.execDmaRead p s
  | .telemRead p => Sys2Proof.Machine.execTelemRead p s
  | .telemPush p => Sys2Proof.Machine.execTelemPush p s
  | .telemLimit p => Sys2Proof.Machine.execTelemLimit p s
  | .wearOrbit p => Sys2Proof.Machine.execWearOrbit p s
  | .wearCap p => Sys2Proof.Machine.execWearCap p s
  | .wearRead p => Sys2Proof.Machine.execWearRead p s
  | .repairLedger p => Sys2Proof.Machine.execRepairLedger p s
  | .repairRetire p => Sys2Proof.Machine.execRepairRetire p s
  | .repairClear p => Sys2Proof.Machine.execRepairClear p s
  | .cascCeiling p => Sys2Proof.Machine.execCascCeiling p s
  | .cascDeputy p => Sys2Proof.Machine.execCascDeputy p s
  | .cascRead p => Sys2Proof.Machine.execCascRead p s
  | .svcExit p => Sys2Proof.Machine.execSvcExit p s
  | .svcBist p => Sys2Proof.Machine.execSvcBist p s
  | .svcClkobs p => Sys2Proof.Machine.execSvcClkobs p s
  | .svcMemread p => Sys2Proof.Machine.execSvcMemread p s
  | .send bytes => Sys2Proof.Machine.execSend bytes s
  | .sendQuad bytes => Sys2Proof.Machine.execSendQuad bytes s
  | .receive clocked => Sys2Proof.Machine.execReceive clocked s
  | .receiveQuad clocked => Sys2Proof.Machine.execReceiveQuad clocked s
  | .status => Sys2Proof.Machine.execStatus s
  | .sPortInvalidInstruction code => Sys2Proof.Machine.execSPortInvalidInstruction code s
  | .svcPacket bytes => Sys2Proof.Machine.execSvcPacket bytes s
  | .idcode => Sys2Proof.Machine.execIdcode s
  | .bypass bits => Sys2Proof.Machine.execBypass bits s
  | .extest drive => Sys2Proof.Machine.execExtest drive s
  | .sqTail fn unit hostRing => Sys2Proof.Machine.execSqTail fn unit hostRing s
  | .cqHead fn unit => Sys2Proof.Machine.execCqHead fn unit s
  | .ringCtrlWrite path fn val => Sys2Proof.Machine.execRingCtrlWrite path fn val s
  | .irqAck fn vec => Sys2Proof.Machine.execIrqAck fn vec s
  | .functionLevelReset fn => Sys2Proof.Machine.execFunctionLevelReset fn s
  | .vfDisable keep => Sys2Proof.Machine.execVfDisable keep s
  | .pcieLinkDown => Sys2Proof.Machine.execPcieLinkDown s
  | .busMasterEnableClear fn => Sys2Proof.Machine.execBusMasterEnableClear fn s
  | .busMasterEnableSet fn => Sys2Proof.Machine.execBusMasterEnableSet fn s
  | .bar2Read fn off len => Sys2Proof.Machine.execBar2Read fn off len s
  | .bar2Write fn off data => Sys2Proof.Machine.execBar2Write fn off data s
  | .registerWrite fn off be val => Sys2Proof.Machine.execRegisterWrite fn off be val s
  | .cfgLockLock path die val => Sys2Proof.Machine.execCfgLockLock path die val s
  | .iaAddrWrite path die val => Sys2Proof.Machine.execIaAddrWrite path die val s
  | .iaDataRead path die => Sys2Proof.Machine.execIaDataRead path die s
  | .iaDataWrite path die val => Sys2Proof.Machine.execIaDataWrite path die val s
  | .indirectReadTimeout path die => Sys2Proof.Machine.execIndirectReadTimeout path die s
  | .indirectWriteComplete die => Sys2Proof.Machine.execIndirectWriteComplete die s
  | .complementPairOpen path die off val => Sys2Proof.Machine.execComplementPairOpen path die off val s
  | .complementPairTimeout master die => Sys2Proof.Machine.execComplementPairTimeout master die s
  | .faultReactPair path die idx val comp => Sys2Proof.Machine.execFaultReactPair path die idx val comp s
  | .barkWidthPair path die val comp => Sys2Proof.Machine.execBarkWidthPair path die val comp s
  | .errRel path val comp => Sys2Proof.Machine.execErrRel path val comp s
  | .irqTargetWrite path die idx val => Sys2Proof.Machine.execIrqTargetWrite path die idx val s
  | .irqMaskRegisterWrite path die n val => Sys2Proof.Machine.execIrqMaskRegisterWrite path die n val s
  | .fcStickyClear path rec hi val => Sys2Proof.Machine.execFcStickyClear path rec hi val s
  | .accErrRead path die => Sys2Proof.Machine.execAccErrRead path die s
  | .fnStatRead path fn => Sys2Proof.Machine.execFnStatRead path fn s
  | .devTimeLoRead path die => Sys2Proof.Machine.execDevTimeLoRead path die s
  | .fcFirstTimeLoRead path rec => Sys2Proof.Machine.execFcFirstTimeLoRead path rec s
  | .latchedHighRead path src => Sys2Proof.Machine.execLatchedHighRead path src s
  | .dmaDoorbell path ch val => Sys2Proof.Machine.execDmaDoorbell path ch val s
  | .dmaChainWrite path ch hi val => Sys2Proof.Machine.execDmaChainWrite path ch hi val s
  | .dmaCtrlPause path ch => Sys2Proof.Machine.execDmaCtrlPause path ch s
  | .dmaCtrlResume path ch => Sys2Proof.Machine.execDmaCtrlResume path ch s
  | .dmaIrqClear path ch val => Sys2Proof.Machine.execDmaIrqClear path ch val s
  | .cvCtrlStart path unit val => Sys2Proof.Machine.execCvCtrlStart path unit val s
  | .cvDataWrite path unit be val => Sys2Proof.Machine.execCvDataWrite path unit be val s
  | .cvResultRead path unit => Sys2Proof.Machine.execCvResultRead path unit s
  | .cvByteProcessed unit => Sys2Proof.Machine.execCvByteProcessed unit s
  | .headCommitLine h => Sys2Proof.Machine.execHeadCommitLine h s
  | .verticalBlankingStart h => Sys2Proof.Machine.execVerticalBlankingStart h s
  | .endOfLastActiveLine h => Sys2Proof.Machine.execEndOfLastActiveLine h s
  | .headLineStart h line => Sys2Proof.Machine.execHeadLineStart h line s
  | .underrun h line col => Sys2Proof.Machine.execUnderrun h line col s
  | .leFetchWindow h line => Sys2Proof.Machine.execLeFetchWindow h line s
  | .echoCrcReadComplete h count crcR crcG crcB => Sys2Proof.Machine.execEchoCrcReadComplete h count crcR crcG crcB s
  | .memoryRequestArrival r => Sys2Proof.Machine.execMemoryRequestArrival r s
  | .commandSlot pc => Sys2Proof.Machine.execCommandSlot pc s
  | .memoryReadComplete id flips => Sys2Proof.Machine.execMemoryReadComplete id flips s
  | .reHomingComplete g => Sys2Proof.Machine.execReHomingComplete g s
  | .caParityError pc repeatOk => Sys2Proof.Machine.execCaParityError pc repeatOk s
  | .refreshInterval pc bank => Sys2Proof.Machine.execRefreshInterval pc bank s
  | .refreshWindowEnd g => Sys2Proof.Machine.execRefreshWindowEnd g s
  | .rowIdleTimeout pc bank => Sys2Proof.Machine.execRowIdleTimeout pc bank s
  | .urgencyRecompute g => Sys2Proof.Machine.execUrgencyRecompute g s
  | .unreservedAgeTimeout g => Sys2Proof.Machine.execUnreservedAgeTimeout g s
  | .writeBufferOverflow src => Sys2Proof.Machine.execWriteBufferOverflow src s
  | .retrainStepDue pc => Sys2Proof.Machine.execRetrainStepDue pc s
  | .retrainStepSkip pc => Sys2Proof.Machine.execRetrainStepSkip pc s
  | .retrainStepComplete pc pass => Sys2Proof.Machine.execRetrainStepComplete pc pass s
  | .selfRefreshIdleEntry pc => Sys2Proof.Machine.execSelfRefreshIdleEntry pc s
  | .trainingCacheWrite band => Sys2Proof.Machine.execTrainingCacheWrite band s
  | .memoryCoreLocked die => Sys2Proof.Machine.execMemoryCoreLocked die s
  | .rateChangeVerified die failed => Sys2Proof.Machine.execRateChangeVerified die failed s
  | .refclkWatchdogCount count => Sys2Proof.Machine.execRefclkWatchdogCount count s
  | .lockWindowEnd synth count => Sys2Proof.Machine.execLockWindowEnd synth count s
  | .parkedSynthWake synth count => Sys2Proof.Machine.execParkedSynthWake synth count s
  | .rampUpdate synth => Sys2Proof.Machine.execRampUpdate synth s
  | .pixelLockReturnTimeout h => Sys2Proof.Machine.execPixelLockReturnTimeout h s
  | .clockSwitchFault synth => Sys2Proof.Machine.execClockSwitchFault synth s
  | .leaderEvent follower t err => Sys2Proof.Machine.execLeaderEvent follower t err s
  | .leaderLost kind idx => Sys2Proof.Machine.execLeaderLost kind idx s
  | .genlockEdge rising t => Sys2Proof.Machine.execGenlockEdge rising t s
  | .genlockLost => Sys2Proof.Machine.execGenlockLost s
  | .linkPlug l => Sys2Proof.Machine.execLinkPlug l s
  | .linkUnplug l => Sys2Proof.Machine.execLinkUnplug l s
  | .irqHpd l lanesLocked topo => Sys2Proof.Machine.execIrqHpd l lanesLocked topo s
  | .hpdGlitch l => Sys2Proof.Machine.execHpdGlitch l s
  | .linkTrainingSlotFree die => Sys2Proof.Machine.execLinkTrainingSlotFree die s
  | .auxTransactionReply l code data => Sys2Proof.Machine.execAuxTransactionReply l code data s
  | .auxReplyTimeout l => Sys2Proof.Machine.execAuxReplyTimeout l s
  | .discoveryRestartTimer l => Sys2Proof.Machine.execDiscoveryRestartTimer l s
  | .discoveryComplete l sink => Sys2Proof.Machine.execDiscoveryComplete l sink s
  | .trainingAttemptEnd l ok phase => Sys2Proof.Machine.execTrainingAttemptEnd l ok phase s
  | .trainingAttemptTimeout l phase => Sys2Proof.Machine.execTrainingAttemptTimeout l phase s
  | .linkFailedRetry l => Sys2Proof.Machine.execLinkFailedRetry l s
  | .linkLockLoss l => Sys2Proof.Machine.execLinkLockLoss l s
  | .inputSourceTraining v rate lanes => Sys2Proof.Machine.execInputSourceTraining v rate lanes s
  | .inputSymbolLockLoss v => Sys2Proof.Machine.execInputSymbolLockLoss v s
  | .inputLineTimeout v => Sys2Proof.Machine.execInputLineTimeout v s
  | .inputLineEnd v line periodPs pixels => Sys2Proof.Machine.execInputLineEnd v line periodPs pixels s
  | .inputFrameEnd v f => Sys2Proof.Machine.execInputFrameEnd v f s
  | .captureFrameComplete v => Sys2Proof.Machine.execCaptureFrameComplete v s
  | .inputNosignalTimeout v => Sys2Proof.Machine.execInputNosignalTimeout v s
  | .inputEdidHpdTimer v => Sys2Proof.Machine.execInputEdidHpdTimer v s
  | .inputAudioStop v => Sys2Proof.Machine.execInputAudioStop v s
  | .audioWsPeriod src ticks ch1 ch2 => Sys2Proof.Machine.execAudioWsPeriod src ticks ch1 ch2 s
  | .audioWindowEnd src edges ticks minTicks maxTicks => Sys2Proof.Machine.execAudioWindowEnd src edges ticks minTicks maxTicks s
  | .audioWsTimeout src => Sys2Proof.Machine.execAudioWsTimeout src s
  | .audioPartialBlockTimer src => Sys2Proof.Machine.execAudioPartialBlockTimer src s
  | .audioChangeTimeout h ch => Sys2Proof.Machine.execAudioChangeTimeout h ch s
  | .faultDetected rec bit syn holds => Sys2Proof.Machine.execFaultDetected rec bit syn holds s
  | .blockResetComplete rec passed => Sys2Proof.Machine.execBlockResetComplete rec passed s
  | .barkPulseElapsed => Sys2Proof.Machine.execBarkPulseElapsed s
  | .irqDelivery => Sys2Proof.Machine.execIrqDelivery s
  | .holdoffExpiry group => Sys2Proof.Machine.execHoldoffExpiry group s
  | .bureauIrqAck die core => Sys2Proof.Machine.execBureauIrqAck die core s
  | .mantelPairMiscompare c => Sys2Proof.Machine.execMantelPairMiscompare c s
  | .mantelPairTestComplete c pass => Sys2Proof.Machine.execMantelPairTestComplete c pass s
  | .mantelAreaCopyComplete => Sys2Proof.Machine.execMantelAreaCopyComplete s
  | .mantelSealComplete => Sys2Proof.Machine.execMantelSealComplete s
  | .lutImageReadComplete c => Sys2Proof.Machine.execLutImageReadComplete c s
  | .clusterWake c => Sys2Proof.Machine.execClusterWake c s
  | .regionPowerGate g => Sys2Proof.Machine.execRegionPowerGate g s
  | .dmaDescriptorFetched ch host => Sys2Proof.Machine.execDmaDescriptorFetched ch host s
  | .dmaRequestResponse ch resp srcHost dstHost => Sys2Proof.Machine.execDmaRequestResponse ch resp srcHost dstHost s
  | .dmaRetryTimer ch => Sys2Proof.Machine.execDmaRetryTimer ch s
  | .dmaDescriptorComplete ch => Sys2Proof.Machine.execDmaDescriptorComplete ch s
  | .dmaLinkRereadResult ch hostLink => Sys2Proof.Machine.execDmaLinkRereadResult ch hostLink s
  | .dmaDrainComplete ch => Sys2Proof.Machine.execDmaDrainComplete ch s
  | .dmaOwnerStopComplete ch => Sys2Proof.Machine.execDmaOwnerStopComplete ch s
  | .kennelRotationDue c => Sys2Proof.Machine.execKennelRotationDue c s
  | .handoverCompareResult c agree => Sys2Proof.Machine.execHandoverCompareResult c agree s
  | .kennelLogicTestComplete c pass => Sys2Proof.Machine.execKennelLogicTestComplete c pass s
  | .leFaultDetected c slot => Sys2Proof.Machine.execLeFaultDetected c slot s
  | .kennelTakeoverComplete c us => Sys2Proof.Machine.execKennelTakeoverComplete c us s
  | .leShortTestComplete c slot pass => Sys2Proof.Machine.execLeShortTestComplete c slot pass s
  | .migrationSynthLocked h => Sys2Proof.Machine.execMigrationSynthLocked h s
  | .migrationLinkSwitch h => Sys2Proof.Machine.execMigrationLinkSwitch h s
  | .ledgerWriteComplete => Sys2Proof.Machine.execLedgerWriteComplete s
  | .bureauFailover die => Sys2Proof.Machine.execBureauFailover die s
  | .bureauPairSelftestComplete die pass => Sys2Proof.Machine.execBureauPairSelftestComplete die pass s
  | .houndScrubRead addr flips => Sys2Proof.Machine.execHoundScrubRead addr flips s
  | .calibrationTick readings symErrs => Sys2Proof.Machine.execCalibrationTick readings symErrs s
  | .wearUpdateTick => Sys2Proof.Machine.execWearUpdateTick s
  | .wearOrbitStep h => Sys2Proof.Machine.execWearOrbitStep h s
  | .telemPushPeriod => Sys2Proof.Machine.execTelemPushPeriod s
  | .telemSensorReading rail idx val => Sys2Proof.Machine.execTelemSensorReading rail idx val s
  | .thermalTrip => Sys2Proof.Machine.execThermalTrip s
  | .thermalTripRelease => Sys2Proof.Machine.execThermalTripRelease s
  | .wakeEvent bit => Sys2Proof.Machine.execWakeEvent bit s
  | .powerTransitionComplete => Sys2Proof.Machine.execPowerTransitionComplete s
  | .aoIoRailsGood => Sys2Proof.Machine.execAoIoRailsGood s
  | .porRelease => Sys2Proof.Machine.execPorRelease s
  | .aoIoRailLoss => Sys2Proof.Machine.execAoIoRailLoss s
  | .railOutOfRange rail => Sys2Proof.Machine.execRailOutOfRange rail s
  | .switchedRailTimeout => Sys2Proof.Machine.execSwitchedRailTimeout s
  | .resetNPulse ns => Sys2Proof.Machine.execResetNPulse ns s
  | .aoBootDone ledgerCrcOk => Sys2Proof.Machine.execAoBootDone ledgerCrcOk s
  | .referenceLockDone => Sys2Proof.Machine.execReferenceLockDone s
  | .bureauBootDone patchOk => Sys2Proof.Machine.execBureauBootDone patchOk s
  | .hbmInitDone fullTrain failedPcs => Sys2Proof.Machine.execHbmInitDone fullTrain failedPcs s
  | .mantelLoadDone => Sys2Proof.Machine.execMantelLoadDone s
  | .warmStartStepDone => Sys2Proof.Machine.execWarmStartStepDone s
  | .birtonPartnerPatterns b => Sys2Proof.Machine.execBirtonPartnerPatterns b s
  | .birtonCandidateEnd b ok => Sys2Proof.Machine.execBirtonCandidateEnd b ok s
  | .birtonIdentFrame b id => Sys2Proof.Machine.execBirtonIdentFrame b id s
  | .birtonFrameReceived b words => Sys2Proof.Machine.execBirtonFrameReceived b words s
  | .birtonNakReceived b seq => Sys2Proof.Machine.execBirtonNakReceived b seq s
  | .birtonLockLoss b => Sys2Proof.Machine.execBirtonLockLoss b s
  | .birtonDownRetry b => Sys2Proof.Machine.execBirtonDownRetry b s
  | .birtonConflictTimeout b => Sys2Proof.Machine.execBirtonConflictTimeout b s
  | .cableDelayEcho b halfNs => Sys2Proof.Machine.execCableDelayEcho b halfNs s
  | .timingFrameSend group => Sys2Proof.Machine.execTimingFrameSend group s
  | .timingFrameReceived b group count halfNs => Sys2Proof.Machine.execTimingFrameReceived b group count halfNs s
  | .timingClassLost => Sys2Proof.Machine.execTimingClassLost s
  | .followerLeft pkg => Sys2Proof.Machine.execFollowerLeft pkg s
  | .masterLost => Sys2Proof.Machine.execMasterLost s
  | .deputyTakeover => Sys2Proof.Machine.execDeputyTakeover s
  | .mastershipHandback => Sys2Proof.Machine.execMastershipHandback s
  | .mirrorWriteReceived b addr data => Sys2Proof.Machine.execMirrorWriteReceived b addr data s
  | .mirrorAckReceived pkg layer denied => Sys2Proof.Machine.execMirrorAckReceived pkg layer denied s
  | .lineStreamFrame h line first words => Sys2Proof.Machine.execLineStreamFrame h line first words s
  | .compositeLineMissing h line => Sys2Proof.Machine.execCompositeLineMissing h line s
  | .admissionComplete => Sys2Proof.Machine.execAdmissionComplete s
  | .unknownOpcode port bytes => Sys2Proof.Machine.execUnknownOpcode port bytes s
  | .supEnDrop => Sys2Proof.Machine.execSupEnDrop s
  | .lastSupplyInRegulation => Sys2Proof.Machine.execLastSupplyInRegulation s
  | .pcieLinkUp => Sys2Proof.Machine.execPcieLinkUp s
  | .vfEnable n => Sys2Proof.Machine.execVfEnable n s
  | .msiXTargetWake fn vec => Sys2Proof.Machine.execMsiXTargetWake fn vec s

end Sys2Proof.Machine
end

