-- ==== Sys2Proof/WellFormed.lean ====
section
/-! DEFINITION. Well-formed commands: every index lies in the range of the unit it names (R7, R347). -/

namespace Sys2Proof

/-- A packet whose fields fit the header of R347: 12-bit tag, 16-bit sequence number, at most 252
parameter words, a port of R345 and a claimed class of R345. -/
def Pkt.wf (p : Pkt) : Bool :=
  decide (p.port < 19) && decide (p.tag < 4096) && decide (p.seq < 65536) &&
    decide (p.params.length ≤ 252) && decide (p.link < 8) && decide (p.claimed < 4)

/-- Every index of the command is in range. -/
def Instr.wf : Instr → Bool
  | .devIdentify p => p.wf
  | .devCaps p => p.wf
  | .devEvents p => p.wf
  | .devTime p => p.wf
  | .devNop p => p.wf
  | .devRegread p => p.wf
  | .devRegwrite p => p.wf
  | .pwrSet p => p.wf
  | .pwrWake p => p.wf
  | .pwrRead p => p.wf
  | .clkSeed p => p.wf
  | .clkRegion p => p.wf
  | .clkHeel p => p.wf
  | .clkGenlock p => p.wf
  | .clkReflost p => p.wf
  | .clkRead p => p.wf
  | .memRate p => p.wf
  | .memRowprot p => p.wf
  | .memErrlog p => p.wf
  | .memRead p => p.wf
  | .accWindow p => p.wf
  | .accTable p => p.wf
  | .accRead p => p.wf
  | .canvasWindow p => p.wf
  | .canvasRead p => p.wf
  | .layerPlace p => p.wf
  | .layerRemove p => p.wf
  | .layerSource p => p.wf
  | .layerFlip p => p.wf
  | .layerScale p => p.wf
  | .layerColour p => p.wf
  | .layerFill p => p.wf
  | .layerPolicy p => p.wf
  | .layerPalette p => p.wf
  | .layerCoefset p => p.wf
  | .layerEotftable p => p.wf
  | .layerTonetable p => p.wf
  | .layerRead p => p.wf
  | .headPlace p => p.wf
  | .headTiming p => p.wf
  | .headBind p => p.wf
  | .headGroup p => p.wf
  | .headPair p => p.wf
  | .headColour p => p.wf
  | .headCommit p => p.wf
  | .headPolicy p => p.wf
  | .headRead p => p.wf
  | .linkConfig p => p.wf
  | .linkTrain p => p.wf
  | .linkAux p => p.wf
  | .linkAutostart p => p.wf
  | .linkRead p => p.wf
  | .inputConfig p => p.wf
  | .inputEdid p => p.wf
  | .inputCapture p => p.wf
  | .inputBind p => p.wf
  | .inputAudio p => p.wf
  | .inputStatus p => p.wf
  | .audioConfig p => p.wf
  | .audioRoute p => p.wf
  | .audioMute p => p.wf
  | .audioStatus p => p.wf
  | .mantelArea p => p.wf
  | .mantelAtlas p => p.wf
  | .mantelPalette p => p.wf
  | .mantelBackdrop p => p.wf
  | .mantelSprites p => p.wf
  | .mantelCommit p => p.wf
  | .mantelArm p => p.wf
  | .mantelStore p => p.wf
  | .mantelRead p => p.wf
  | .ctmWrite p => p.wf
  | .ctmFill p => p.wf
  | .ctmRead p => p.wf
  | .verifyExpect p => p.wf
  | .verifyReact p => p.wf
  | .verifyRelease p => p.wf
  | .verifyTiles p => p.wf
  | .verifyEcho p => p.wf
  | .verifySafefill p => p.wf
  | .verifyRead p => p.wf
  | .faultRead p => p.wf
  | .faultClear p => p.wf
  | .faultReact p => p.wf
  | .faultBark p => p.wf
  | .faultInject p => p.wf
  | .irqRoute p => p.wf
  | .irqMask p => p.wf
  | .irqHoldoff p => p.wf
  | .irqRead p => p.wf
  | .dmaOwn p => p.wf
  | .dmaSetup p => p.wf
  | .dmaToken p => p.wf
  | .dmaPause p => p.wf
  | .dmaRead p => p.wf
  | .telemRead p => p.wf
  | .telemPush p => p.wf
  | .telemLimit p => p.wf
  | .wearOrbit p => p.wf
  | .wearCap p => p.wf
  | .wearRead p => p.wf
  | .repairLedger p => p.wf
  | .repairRetire p => p.wf
  | .repairClear p => p.wf
  | .cascCeiling p => p.wf
  | .cascDeputy p => p.wf
  | .cascRead p => p.wf
  | .svcExit p => p.wf
  | .svcBist p => p.wf
  | .svcClkobs p => p.wf
  | .svcMemread p => p.wf
  | .send _ => true
  | .sendQuad _ => true
  | .receive _ => true
  | .receiveQuad _ => true
  | .status => true
  | .sPortInvalidInstruction _ => true
  | .svcPacket _ => true
  | .idcode => true
  | .bypass _ => true
  | .extest _ => true
  | .sqTail fn unit _ => decide (fn < 16) && decide (unit < 65536)
  | .cqHead fn unit => decide (fn < 16) && decide (unit < 65536)
  | .ringCtrlWrite path fn _ => decide (path < 18) && decide (fn < 16)
  | .irqAck fn vec => decide (fn < 16) && decide (vec < 128)
  | .functionLevelReset fn => decide (fn < 16)
  | .vfDisable keep => decide (keep < 16)
  | .pcieLinkDown => true
  | .busMasterEnableClear fn => decide (fn < 16)
  | .busMasterEnableSet fn => decide (fn < 16)
  | .bar2Read fn _ _ => decide (fn < 16)
  | .bar2Write fn _ _ => decide (fn < 16)
  | .registerWrite fn _ _ _ => decide (fn < 16)
  | .cfgLockLock path die _ => decide (path < 18) && decide (die < 2)
  | .iaAddrWrite path die _ => decide (path < 18) && decide (die < 2)
  | .iaDataRead path die => decide (path < 18) && decide (die < 2)
  | .iaDataWrite path die _ => decide (path < 18) && decide (die < 2)
  | .indirectReadTimeout path die => decide (path < 18) && decide (die < 2)
  | .indirectWriteComplete die => decide (die < 2)
  | .complementPairOpen path die _ _ => decide (path < 18) && decide (die < 2)
  | .complementPairTimeout master die => decide (master < 64) && decide (die < 2)
  | .faultReactPair path die i _ _ => decide (path < 18) && decide (die < 2) && decide (i < 256)
  | .barkWidthPair path die _ _ => decide (path < 18) && decide (die < 2)
  | .errRel path _ _ => decide (path < 18)
  | .irqTargetWrite path die i _ => decide (path < 18) && decide (die < 2) && decide (i < 256)
  | .irqMaskRegisterWrite path die n _ => decide (path < 18) && decide (die < 2) && decide (n < 8)
  | .fcStickyClear path rec _ _ => decide (path < 18) && decide (rec < 40)
  | .accErrRead path die => decide (path < 18) && decide (die < 2)
  | .fnStatRead path fn => decide (path < 18) && decide (fn < 16)
  | .devTimeLoRead path die => decide (path < 18) && decide (die < 2)
  | .fcFirstTimeLoRead path rec => decide (path < 18) && decide (rec < 40)
  | .latchedHighRead path _ => decide (path < 18)
  | .dmaDoorbell path ch _ => decide (path < 18) && decide (ch < 32)
  | .dmaChainWrite path ch _ _ => decide (path < 18) && decide (ch < 32)
  | .dmaCtrlPause path ch => decide (path < 18) && decide (ch < 32)
  | .dmaCtrlResume path ch => decide (path < 18) && decide (ch < 32)
  | .dmaIrqClear path ch _ => decide (path < 18) && decide (ch < 32)
  | .cvCtrlStart path unit _ => decide (path < 18) && decide (unit < 8)
  | .cvDataWrite path unit _ _ => decide (path < 18) && decide (unit < 8)
  | .cvResultRead path unit => decide (path < 18) && decide (unit < 8)
  | .cvByteProcessed unit => decide (unit < 8)
  | .headCommitLine h => decide (h < 128)
  | .verticalBlankingStart h => decide (h < 128)
  | .endOfLastActiveLine h => decide (h < 128)
  | .headLineStart h _ => decide (h < 128)
  | .underrun h _ _ => decide (h < 128)
  | .leFetchWindow h _ => decide (h < 128)
  | .echoCrcReadComplete h _ _ _ _ => decide (h < 128)
  | .memoryRequestArrival _ => true
  | .commandSlot pc => decide (pc < 128)
  | .memoryReadComplete _ _ => true
  | .reHomingComplete g => decide (g < 8)
  | .caParityError pc _ => decide (pc < 128)
  | .refreshInterval pc bank => decide (pc < 128) && decide (bank < 48)
  | .refreshWindowEnd g => decide (g < 8)
  | .rowIdleTimeout pc bank => decide (pc < 128) && decide (bank < 48)
  | .urgencyRecompute g => decide (g < 8)
  | .unreservedAgeTimeout g => decide (g < 8)
  | .writeBufferOverflow _ => true
  | .retrainStepDue pc => decide (pc < 128)
  | .retrainStepSkip pc => decide (pc < 128)
  | .retrainStepComplete pc _ => decide (pc < 128)
  | .selfRefreshIdleEntry pc => decide (pc < 128)
  | .trainingCacheWrite band => decide (band < 11)
  | .memoryCoreLocked die => decide (die < 2)
  | .rateChangeVerified die _ => decide (die < 2)
  | .refclkWatchdogCount _ => true
  | .lockWindowEnd synth _ => decide (synth < 140)
  | .parkedSynthWake synth _ => decide (synth < 140)
  | .rampUpdate synth => decide (synth < 140)
  | .pixelLockReturnTimeout h => decide (h < 128)
  | .clockSwitchFault synth => decide (synth < 140)
  | .leaderEvent _ _ _ => true
  | .leaderLost _ _ => true
  | .genlockEdge _ _ => true
  | .genlockLost => true
  | .linkPlug l => decide (l < 96)
  | .linkUnplug l => decide (l < 96)
  | .irqHpd l _ _ => decide (l < 96)
  | .hpdGlitch l => decide (l < 96)
  | .linkTrainingSlotFree die => decide (die < 2)
  | .auxTransactionReply l _ _ => decide (l < 96)
  | .auxReplyTimeout l => decide (l < 96)
  | .discoveryRestartTimer l => decide (l < 96)
  | .discoveryComplete l _ => decide (l < 96)
  | .trainingAttemptEnd l _ _ => decide (l < 96)
  | .trainingAttemptTimeout l _ => decide (l < 96)
  | .linkFailedRetry l => decide (l < 96)
  | .linkLockLoss l => decide (l < 96)
  | .inputSourceTraining v _ _ => decide (v < 16)
  | .inputSymbolLockLoss v => decide (v < 16)
  | .inputLineTimeout v => decide (v < 16)
  | .inputLineEnd v _ _ _ => decide (v < 16)
  | .inputFrameEnd v _ => decide (v < 16)
  | .captureFrameComplete v => decide (v < 16)
  | .inputNosignalTimeout v => decide (v < 16)
  | .inputEdidHpdTimer v => decide (v < 16)
  | .inputAudioStop v => decide (v < 16)
  | .audioWsPeriod _ _ _ _ => true
  | .audioWindowEnd _ _ _ _ _ => true
  | .audioWsTimeout _ => true
  | .audioPartialBlockTimer _ => true
  | .audioChangeTimeout h ch => decide (h < 128) && decide (ch < 2)
  | .faultDetected rec bit _ _ => decide (rec < 40) && decide (bit < 64)
  | .blockResetComplete rec _ => decide (rec < 40)
  | .barkPulseElapsed => true
  | .irqDelivery => true
  | .holdoffExpiry group => decide (group < 16)
  | .bureauIrqAck die core => decide (die < 2) && decide (core < 4)
  | .mantelPairMiscompare c => decide (c < 32)
  | .mantelPairTestComplete c _ => decide (c < 32)
  | .mantelAreaCopyComplete => true
  | .mantelSealComplete => true
  | .lutImageReadComplete c => decide (c < 32)
  | .clusterWake c => decide (c < 32)
  | .regionPowerGate g => decide (g < 8)
  | .dmaDescriptorFetched ch _ => decide (ch < 32)
  | .dmaRequestResponse ch _ _ _ => decide (ch < 32)
  | .dmaRetryTimer ch => decide (ch < 32)
  | .dmaDescriptorComplete ch => decide (ch < 32)
  | .dmaLinkRereadResult ch _ => decide (ch < 32)
  | .dmaDrainComplete ch => decide (ch < 32)
  | .dmaOwnerStopComplete ch => decide (ch < 32)
  | .kennelRotationDue c => decide (c < 32)
  | .handoverCompareResult c _ => decide (c < 32)
  | .kennelLogicTestComplete c _ => decide (c < 32)
  | .leFaultDetected c slot => decide (c < 32) && decide (slot < 9)
  | .kennelTakeoverComplete c _ => decide (c < 32)
  | .leShortTestComplete c slot _ => decide (c < 32) && decide (slot < 9)
  | .migrationSynthLocked h => decide (h < 128)
  | .migrationLinkSwitch h => decide (h < 128)
  | .ledgerWriteComplete => true
  | .bureauFailover die => decide (die < 2)
  | .bureauPairSelftestComplete die _ => decide (die < 2)
  | .houndScrubRead _ _ => true
  | .calibrationTick _ _ => true
  | .wearUpdateTick => true
  | .wearOrbitStep h => decide (h < 128)
  | .telemPushPeriod => true
  | .telemSensorReading _ _ _ => true
  | .thermalTrip => true
  | .thermalTripRelease => true
  | .wakeEvent bit => decide (bit < 6)
  | .powerTransitionComplete => true
  | .aoIoRailsGood => true
  | .porRelease => true
  | .aoIoRailLoss => true
  | .railOutOfRange rail => decide (rail < 4)
  | .switchedRailTimeout => true
  | .resetNPulse _ => true
  | .aoBootDone _ => true
  | .referenceLockDone => true
  | .bureauBootDone _ => true
  | .hbmInitDone _ _ => true
  | .mantelLoadDone => true
  | .warmStartStepDone => true
  | .birtonPartnerPatterns b => decide (b < 8)
  | .birtonCandidateEnd b _ => decide (b < 8)
  | .birtonIdentFrame b _ => decide (b < 8)
  | .birtonFrameReceived b _ => decide (b < 8)
  | .birtonNakReceived b _ => decide (b < 8)
  | .birtonLockLoss b => decide (b < 8)
  | .birtonDownRetry b => decide (b < 8)
  | .birtonConflictTimeout b => decide (b < 8)
  | .cableDelayEcho b _ => decide (b < 8)
  | .timingFrameSend group => decide (group < 34)
  | .timingFrameReceived b group _ _ => decide (b < 8) && decide (group < 33)
  | .timingClassLost => true
  | .followerLeft pkg => decide (pkg < 8)
  | .masterLost => true
  | .deputyTakeover => true
  | .mastershipHandback => true
  | .mirrorWriteReceived b _ _ => decide (b < 8)
  | .mirrorAckReceived pkg layer _ => decide (pkg < 8) && decide (layer < 1024)
  | .lineStreamFrame h _ _ _ => decide (h < 128)
  | .compositeLineMissing h _ => decide (h < 128)
  | .admissionComplete => true
  | .unknownOpcode port _ => decide (port < 19)
  | .supEnDrop => true
  | .lastSupplyInRegulation => true
  | .pcieLinkUp => true
  | .vfEnable n => decide (n < 16)
  | .msiXTargetWake fn _ => decide (fn < 16)

end Sys2Proof
end

