-- ==== Sys2Proof/Safety.lean ====
section
/-! DEFINITION. What a safe run of the block is, and the words in which the statements speak of a command that a
port takes, of its reply, and of a command that waits. -/

namespace Sys2Proof.Machine

/-- A command completes from a state: the block has a next state (assumption 11: it always has one). -/
def completes (c : Instr) (s : State) : Prop := ∃ t, exec c s = .next t

/-- `k` steps that all complete, from `s` to `t`. -/
def runsTo : Nat → State → State → Prop
  | 0, s, t => s = t
  | k + 1, s, t => ∃ u, step s = .next u ∧ runsTo k u t

/-! ## A command that passes the checks of R351 -/

/-- The packet `p` of row `sp` is taken now and passes checks 1 to 6, and the power state does not turn it away:
the port takes packets and has room, nothing waits in its receive buffer, the sequence number is the expected one
where the port checks it, the tag is free, the class permits the opcode, no command of the port holds it up, and its
scope names this package with a unit in service (R345, R349, R351, R353, R511). -/
structure Ready (sp : OpSpec) (p : Pkt) (s : State) : Prop where
  accepts : s.accepts p.port p.link = true
  room : (s.port p.port).room = true
  first : (s.port p.port).rx = []
  seq : sequenced p = true → p.seq = (s.port p.port).rxSeq
  tag : (s.port p.port).tags.contains p.tag = false
  permits : s.permits sp p.port (s.cmdOf sp.code p) = true
  free : s.mustWait (s.cmdOf sp.code p) (s.port p.port).running (s.port p.port).held = false
  here : s.target sp.levels (s.cmdOf sp.code p) = .here
  power : s.powerBusy (s.cmdOf sp.code p) = false

/-- What a port notes of a packet that passes checks 3 and 4: the next sequence number, and the tag; a C-port
session also notes that a command ran (R351, R353, R369). -/
def State.taken (s : State) (p : Pkt) : State := ((s.noteSeq p).noteTag p).noteC p.port

/-- The packet `p` of row `sp` passes its checks in state `s`; `u` is the state in which its effect begins, and `c`
is its command. -/
structure Passes (sp : OpSpec) (p : Pkt) (s u : State) (c : Cmd) : Prop where
  ready : Ready sp p s
  state : u = s.taken p
  cmd : c = s.cmdOf sp.code p

/-- The reply OK to a command of a port, with the clamped bit and the words after the status; where the row is
marked m, the system generation steps (R355, R371, R545). -/
def State.replyOk (t : State) (sp : OpSpec) (port : Nat) (c : Cmd) (clamped : Bool) (words : List Nat) : State :=
  (t.sendReply port c.op c.tag c.cls c.scope (replyWord stOk clamped 0 :: words)).genStep sp c true

/-- The reply to a command of a port with a status other than OK (R355). -/
def State.replyErr (t : State) (port : Nat) (c : Cmd) (st : Nat) : State :=
  t.sendReply port c.op c.tag c.cls c.scope [replyWord st false 0]

/-- A command of a port waits for admission, behind those that wait already (R160, R376). -/
def State.submitted (t : State) (port : Nat) (c : Cmd) : State :=
  { t.inProgress port c with admQ := t.admQ ++ [{ port, cmd := c }] }

/-- Every condition of a direct layer that fails in `new` failed in `old` too (R260). -/
def directKept (old new : State) : Prop :=
  ∀ e ∈ new.layers, ∀ st, new.directFault e.1 = some st →
    (old.layer e.1).direct = true ∧ old.directFault e.1 = some st

/-- Every head that breaks a placement rule in `new` broke it in `old` too (R59, R87). -/
def placingKept (old new : State) : Prop := ∀ e ∈ new.badHeads, e ∈ old.badHeads

/-- The layer that the first parameter of a command names may be written by its master (R388, R415). -/
def layerOpen (u : State) (c : Cmd) : Prop := c.p 0 < 1024 ∧ u.mayWrite 1 (c.p 0) c.master = true

/-- Every head of a list may be written by the master of a command (R390, R415). -/
def headsOpen (u : State) (c : Cmd) (l : List Nat) : Prop := ∀ h ∈ l, u.mayWrite 2 h c.master = true

/-- The command at the front of the admission queue is one of row `sp`, from `port`, and its change is judged in
state `u`, the queue's rest in place (R160). -/
structure Judged (sp : OpSpec) (s u : State) (port : Nat) (c : Cmd) : Prop where
  front : s.admQ = { port, cmd := c } :: u.admQ
  state : u = { s with admQ := u.admQ }
  row : c.op = sp.code

/-! ## The rows that are command packets (R371-R403) -/

/-- Packet rows of the opcode table, part 1: the command and its row. -/
def packetRows0 : List ((Pkt → Instr) × OpSpec) :=
  [(.devIdentify, opDevIdentify), (.devCaps, opDevCaps), (.devEvents, opDevEvents), (.devTime, opDevTime),
    (.devNop, opDevNop), (.devRegread, opDevRegread), (.devRegwrite, opDevRegwrite), (.pwrSet, opPwrSet),
    (.pwrWake, opPwrWake), (.pwrRead, opPwrRead), (.clkSeed, opClkSeed), (.clkRegion, opClkRegion),
    (.clkHeel, opClkHeel), (.clkGenlock, opClkGenlock), (.clkReflost, opClkReflost), (.clkRead, opClkRead),
    (.memRate, opMemRate), (.memRowprot, opMemRowprot), (.memErrlog, opMemErrlog), (.memRead, opMemRead),
    (.accWindow, opAccWindow), (.accTable, opAccTable), (.accRead, opAccRead), (.canvasWindow, opCanvasWindow),
    (.canvasRead, opCanvasRead), (.layerPlace, opLayerPlace), (.layerRemove, opLayerRemove),
    (.layerSource, opLayerSource)]

/-- Packet rows of the opcode table, part 2: the command and its row. -/
def packetRows1 : List ((Pkt → Instr) × OpSpec) :=
  [(.layerFlip, opLayerFlip), (.layerScale, opLayerScale), (.layerColour, opLayerColour),
    (.layerFill, opLayerFill), (.layerPolicy, opLayerPolicy), (.layerPalette, opLayerPalette),
    (.layerCoefset, opLayerCoefset), (.layerEotftable, opLayerEotftable), (.layerTonetable, opLayerTonetable),
    (.layerRead, opLayerRead), (.headPlace, opHeadPlace), (.headTiming, opHeadTiming), (.headBind, opHeadBind),
    (.headGroup, opHeadGroup), (.headPair, opHeadPair), (.headColour, opHeadColour), (.headCommit, opHeadCommit),
    (.headPolicy, opHeadPolicy), (.headRead, opHeadRead), (.linkConfig, opLinkConfig), (.linkTrain, opLinkTrain),
    (.linkAux, opLinkAux), (.linkAutostart, opLinkAutostart), (.linkRead, opLinkRead),
    (.inputConfig, opInputConfig), (.inputEdid, opInputEdid), (.inputCapture, opInputCapture),
    (.inputBind, opInputBind)]

/-- Packet rows of the opcode table, part 3: the command and its row. -/
def packetRows2 : List ((Pkt → Instr) × OpSpec) :=
  [(.inputAudio, opInputAudio), (.inputStatus, opInputStatus), (.audioConfig, opAudioConfig),
    (.audioRoute, opAudioRoute), (.audioMute, opAudioMute), (.audioStatus, opAudioStatus),
    (.mantelArea, opMantelArea), (.mantelAtlas, opMantelAtlas), (.mantelPalette, opMantelPalette),
    (.mantelBackdrop, opMantelBackdrop), (.mantelSprites, opMantelSprites), (.mantelCommit, opMantelCommit),
    (.mantelArm, opMantelArm), (.mantelStore, opMantelStore), (.mantelRead, opMantelRead),
    (.ctmWrite, opCtmWrite), (.ctmFill, opCtmFill), (.ctmRead, opCtmRead), (.verifyExpect, opVerifyExpect),
    (.verifyReact, opVerifyReact), (.verifyRelease, opVerifyRelease), (.verifyTiles, opVerifyTiles),
    (.verifyEcho, opVerifyEcho), (.verifySafefill, opVerifySafefill), (.verifyRead, opVerifyRead),
    (.faultRead, opFaultRead), (.faultClear, opFaultClear), (.faultReact, opFaultReact)]

/-- Packet rows of the opcode table, part 4: the command and its row. -/
def packetRows3 : List ((Pkt → Instr) × OpSpec) :=
  [(.faultBark, opFaultBark), (.faultInject, opFaultInject), (.irqRoute, opIrqRoute), (.irqMask, opIrqMask),
    (.irqHoldoff, opIrqHoldoff), (.irqRead, opIrqRead), (.dmaOwn, opDmaOwn), (.dmaSetup, opDmaSetup),
    (.dmaToken, opDmaToken), (.dmaPause, opDmaPause), (.dmaRead, opDmaRead), (.telemRead, opTelemRead),
    (.telemPush, opTelemPush), (.telemLimit, opTelemLimit), (.wearOrbit, opWearOrbit), (.wearCap, opWearCap),
    (.wearRead, opWearRead), (.repairLedger, opRepairLedger), (.repairRetire, opRepairRetire),
    (.repairClear, opRepairClear), (.cascCeiling, opCascCeiling), (.cascDeputy, opCascDeputy),
    (.cascRead, opCascRead), (.svcExit, opSvcExit), (.svcBist, opSvcBist), (.svcClkobs, opSvcClkobs),
    (.svcMemread, opSvcMemread)]

/-- Every packet row of the opcode table: the command that a packet becomes, and its row. -/
def packetRows : List ((Pkt → Instr) × OpSpec) := packetRows0 ++ packetRows1 ++ packetRows2 ++ packetRows3

/-- Rows that read the state alone: no read of memory, of a register with a side effect, or of a measured value. -/
def readRows : List ((Pkt → Instr) × OpSpec) :=
  [(.devIdentify, opDevIdentify), (.devCaps, opDevCaps), (.devTime, opDevTime), (.devNop, opDevNop),
    (.pwrRead, opPwrRead), (.clkRead, opClkRead), (.memRead, opMemRead), (.accRead, opAccRead),
    (.canvasRead, opCanvasRead), (.layerRead, opLayerRead), (.headRead, opHeadRead), (.linkRead, opLinkRead),
    (.inputStatus, opInputStatus), (.audioStatus, opAudioStatus), (.mantelRead, opMantelRead),
    (.verifyRead, opVerifyRead), (.faultRead, opFaultRead), (.irqRead, opIrqRead), (.dmaRead, opDmaRead),
    (.wearRead, opWearRead), (.repairLedger, opRepairLedger), (.cascRead, opCascRead)]

/-! ## A block with nothing under way -/

/-- Nothing that a command leaves to follow is under way: no head waits for its timing, no layer for its holders, no flip
for its selection or completion, nothing to be sent to another package, no commit distance or Mantel version for its use, no command for its start or end, no packet for its
check or delivery by the block, and no command for the replies of other packages. -/
structure Quiet (s : State) : Prop where
  heads : s.outputOn = false ∨ ∀ e ∈ s.heads, e.2.running = true ∨ e.2.mode = none
  mirrors : ∀ e ∈ s.layers, s.mirrorDue e.2 = false
  sends : s.casc.outQ = []
  flips : ∀ e ∈ s.layers, e.2.showing = [] ∧ e.2.queue = []
  commits : ∀ e ∈ s.heads, e.2.running = true ∨ e.2.commitNow = s.commitFor e.1
  mantel : s.mantel.sealed = none
  ports : ∀ e ∈ s.ports, e.2.running = [] ∧ e.2.held = [] ∧ e.2.rx = []
  rings : ∀ fn < 16, (s.door fn).enabled = false
  role : s.role ≠ 2
  gather : s.casc.gather = []

/-! ## Register accesses -/

/-- A path writes register `r`, at an offset of a die, now: the path is live, its aperture reaches the register, and
the table of the register permits the write. Pairs whose time has passed are discarded first, and so is the path's
open pair that a write elsewhere in its block disturbs; the effect of the write begins in `u` (R345, R413, R422,
R434). -/
structure WritesReg (s u : State) (path die off : Nat) (r : RegAt) : Prop where
  live : s.expirePairs.pathLive path = true
  target : s.expirePairs.regTarget die off = some r
  reach : pathReach path r = true
  permits : s.expirePairs.mayWrite r.table.1 r.table.2 path = true
  after : u = s.expirePairs.disturbPair { master := path, at_ := r, val := 0, be := 15 }

/-- A path reads register `r`, at an offset of a die, now (R345, R413, R422). -/
structure ReadsReg (s : State) (path die off : Nat) (r : RegAt) : Prop where
  live : s.pathLive path = true
  target : s.regTarget die off = some r
  reach : pathReach path r = true
  permits : s.mayRead r.table.1 r.table.2 path = true

/-- The value that a register read returns to its path (R420). -/
def State.returned (s : State) (path v : Nat) : State := { s with lastRead := tset s.lastRead path v }

end Sys2Proof.Machine
end

