-- ==== Sys2Proof/Certificates/Slice0/Obligations.lean ====
section
/-! DEFINITION. The statements: one definition each, grouped by the families of the command table. -/

open Sys2Proof Sys2Proof.Machine

/-- DEV.IDENTIFY, DEV.CAPS, DEV.TIME and DEV.NOP complete (R378, R379, R380). -/
def Obligations.DevReadsComplete : Prop :=
  ∀ (p : Pkt) (s u : State) (c : Cmd),
  (Passes opDevIdentify p s u c → c.params = [] →
    exec (.devIdentify p) s = .next (settle (u.replyOk opDevIdentify p.port c false
      [(if s.cfg.dies = 2 then 0x9128 else 0x9064) + 65536 * b2n s.cfg.nVariant,
       s.cfg.step0 % 256 + 256 * (if u.dieState 1 = 0 then 0xFF else s.cfg.step1 % 256),
       s.cfg.fw % 2 ^ 24, s.cfg.serial.toNat % 2 ^ 32, s.cfg.serial.toNat / 2 ^ 32 % 2 ^ 32,
       s.cfg.pkgId + 8 * b2n s.cfg.cascMaster,
       u.sealedVersion + 65536 * min 65535 s.mantel.seals,
       s.repair.ledger.length % 65536]))) ∧
  (Passes opDevCaps p s u c → c.params = [] → u.caps.length = 60 ∧
    exec (.devCaps p) s = .next (settle (u.replyOk opDevCaps p.port c false u.caps))) ∧
  (Passes opDevTime p s u c → c.params = [] →
    exec (.devTime p) s = .next (settle (u.replyOk opDevTime p.port c false
      [s.ticks % 2 ^ 32, s.ticks / 2 ^ 32 % 2 ^ 32, s.us % 2 ^ 32, s.us / 2 ^ 32 % 2 ^ 32]))) ∧
  (Passes opDevNop p s u c → c.params.length ≤ 16 →
    exec (.devNop p) s = .next (settle (u.replyOk opDevNop p.port c false c.params)))

/-- DEV.EVENTS, DEV.REGREAD and DEV.REGWRITE complete (R358, R378, R381). -/
def Obligations.DevWritesComplete : Prop :=
  ∀ (p : Pkt) (s u : State) (c : Cmd),
  (∀ m, Passes opDevEvents p s u c → c.params = [m] →
    exec (.devEvents p) s = .next (settle
      ((u.modPort p.port fun q => { q with subs := some (subsMask p.port m) }).replyOk opDevEvents p.port c
        (decide (m &&& 0x7FFFFE ≠ subsMask p.port m)) [subsMask p.port m]))) ∧
  (∀ a, Passes opDevRegread p s u c → c.params = [a] → u.regOf c.idx a = none →
    exec (.devRegread p) s = .next (settle (u.replyOk opDevRegread p.port c (regClamped a) [0]))) ∧
  (∀ a r, Passes opDevRegread p s u c → c.params = [a] → u.regOf c.idx a = some r →
    u.mayRead r.table.1 r.table.2 c.master → (regAddr a).1 = false →
    (u.readReg p.port c.master r true).2.pwr.step ≠ .aoBoot →
    exec (.devRegread p) s = .next (settle
      ((u.readReg p.port c.master r true).2.replyOk opDevRegread p.port c (regClamped a)
        [(u.readReg p.port c.master r true).1]))) ∧
  (∀ a r, Passes opDevRegread p s u c → c.params = [a] → u.regOf c.idx a = some r →
    u.mayRead r.table.1 r.table.2 c.master → (regAddr a).1 = true →
    (u.iaRead c.idx (regAddr a).2).2.1 = false → (u.iaRead c.idx (regAddr a).2).2.2.pwr.step ≠ .aoBoot →
    exec (.devRegread p) s = .next (settle
      ((u.iaRead c.idx (regAddr a).2).2.2.replyOk opDevRegread p.port c (regClamped a)
        [(u.iaRead c.idx (regAddr a).2).1]))) ∧
  (Passes opDevRegwrite p s u c → c.params.length % 2 = 0 → c.params ≠ [] → c.params.length ≤ 16 →
    (∀ x ∈ regPairs c.params, ∀ r, u.regOf c.idx x.1 = some r →
      r.block = 3 ∨ u.mayWrite r.table.1 r.table.2 c.master) →
    ((regPairs c.params).foldl (fun t x => t.cmdWrite c x) u).pwr.step ≠ .aoBoot →
    exec (.devRegwrite p) s = .next (settle
      (((regPairs c.params).foldl (fun t x => t.cmdWrite c x) u).replyOk opDevRegwrite p.port c
        ((regPairs c.params).any fun x => regClamped x.1) [c.params.length / 2])))

/-- PWR.SET, PWR.WAKE and PWR.READ complete (R382, R383, R510, R511, R514). -/
def Obligations.PwrCommandsComplete : Prop :=
  ∀ (p : Pkt) (s u : State) (c : Cmd),
  (∀ v t, Passes opPwrSet p s u c → c.params = [v] → PState.ofCode v = some t → u.starting = false →
    u.pwrAllowed t c.cls = stOk → (t = .ready ∨ t.sleep = true → c.cls = clsH → u.anyArmed = false) →
    (t.sleep = true → u.sleepBusy = false ∧ u.pwr.wakeNow &&& u.pwr.wakeMask = 0) →
    exec (.pwrSet p) s = .next (settle
      (({ u with pwr := { u.pwr with target := some t, cause := 0x0201, pendingWake := false } }).replyOk
        opPwrSet p.port c false [v, 0]))) ∧
  (∀ v t, Passes opPwrSet p s u c → c.params = [v] → PState.ofCode v = some t → t.sleep = true →
    u.starting = false → u.pwrAllowed t c.cls = stOk → (c.cls = clsH → u.anyArmed = false) →
    u.sleepBusy = false → u.pwr.wakeNow &&& u.pwr.wakeMask ≠ 0 →
    exec (.pwrSet p) s = .next (settle (u.replyOk opPwrSet p.port c false [u.pwr.state.code, 1]))) ∧
  (∀ v, Passes opPwrSet p s u c → c.params = [v] → 5 ≤ v →
    exec (.pwrSet p) s = .next (settle (u.replyOk opPwrSet p.port c true [u.pwr.state.code, 0]))) ∧
  (∀ v, Passes opPwrWake p s u c → c.params = [v] →
    exec (.pwrWake p) s = .next (settle
      (({ u with pwr := { u.pwr with wakeMask := v % 64 } }).replyOk opPwrWake p.port c false [v % 64]))) ∧
  (Passes opPwrRead p s u c → c.params = [] →
    exec (.pwrRead p) s = .next (settle (u.replyOk opPwrRead p.port c false
      [u.pwr.state.code, u.pwr.wakeMask, u.pwr.lastWake, maskOf ((List.range 8).filter fun g => (u.region g).gated)])))

/-- The CLK commands other than CLK.HEEL complete (R285, R294, R304, R308, R384). -/
def Obligations.ClkCommandsComplete : Prop :=
  ∀ (p : Pkt) (s u : State) (c : Cmd),
  (∀ k sd d, Passes opClkSeed p s u c → c.params = [k, sd, d] → k < 140 → u.dieState (synthDie k) = 1 →
    exec (.clkSeed p) s = .next (settle
      ((u.modSynth k fun y => { y with nextSeed := some (max 1 (min 8388607 sd), decide (d ≠ 0)) }).replyOk
        opClkSeed p.port c (decide ([sd, d] ≠ [max 1 (min 8388607 sd), min 1 d]))
        [k, max 1 (min 8388607 sd), min 1 d]))) ∧
  (∀ e f tg, Passes opClkGenlock p s u c → c.params = [e, f, tg] →
    ((u.clk.genlock.enable ↔ e ≠ 0) ∧ (u.clk.genlock.falling ↔ f ≠ 0) ∧
      u.clk.genlock.tg = clampN 5000 1000000000 tg) →
    exec (.clkGenlock p) s = .next (settle (u.replyOk opClkGenlock p.port c
      (decide ([e, f, tg] ≠ [min 1 e, min 1 f, clampN 5000 1000000000 tg]))
      [min 1 e, min 1 f, clampN 5000 1000000000 tg]))) ∧
  (∀ e f tg t, Passes opClkGenlock p s u c → c.params = [e, f, tg] →
    ¬((u.clk.genlock.enable ↔ e ≠ 0) ∧ (u.clk.genlock.falling ↔ f ≠ 0) ∧
      u.clk.genlock.tg = clampN 5000 1000000000 tg) →
    t = ({ u with clk := { u.clk with genlock := ({ enable := decide (e ≠ 0), falling := decide (f ≠ 0)
                                                    tg := clampN 5000 1000000000 tg
                                                    glitches := u.clk.genlock.glitches } : Genlock) } } : State) →
    (t.leaderLost .genlock 0 0).pwr.step ≠ .aoBoot →
    exec (.clkGenlock p) s = .next (settle
      ((if u.clk.genlock.valid then t.leaderLost .genlock 0 0 else t).replyOk opClkGenlock p.port c
        (decide ([e, f, tg] ≠ [min 1 e, min 1 f, clampN 5000 1000000000 tg]))
        [min 1 e, min 1 f, clampN 5000 1000000000 tg]))) ∧
  (∀ w, Passes opClkReflost p s u c → c.params = [w] → reactionOk 2 w →
    exec (.clkReflost p) s = .next (settle
      (({ u with faults := { u.faults with reacts := tset u.faults.reacts 2 (w, 1) } }).replyOk
        opClkReflost p.port c false [w]))) ∧
  (∀ r, Passes opClkRead p s u c → c.params = [r] → r < 70 →
    exec (.clkRead p) s = .next (settle (u.replyOk opClkRead p.port c false
      (u.synWords (synthOfRecord c.idx r))))) ∧
  (∀ hz, Passes opClkRegion p s u c → c.params = [hz] →
    exec (.clkRegion p) s = .next (settle (u.submitted p.port c))) ∧
  (∀ port hz, Judged opClkRegion s u port c → c.params = [hz] →
    admissionFails u (u.startRegion c.idx (clampN 400000000 1100000000 hz)) = none →
    exec .admissionComplete s = .next (settle
      ((u.startRegion c.idx (clampN 400000000 1100000000 hz)).replan.finish port c
        [replyWord stOk (decide (hz ≠ clampN 400000000 1100000000 hz)) 0, clampN 400000000 1100000000 hz])))

/-- CLK.HEEL completes (R299, R302, R303, R384). -/
def Obligations.HeelCommandCompletes : Prop :=
  ∀ (p : Pkt) (s u : State) (c : Cmd) (w : List Nat) (key idx : Nat),
  Passes opClkHeel p s u c → c.params.length = 11 → w = heelWords c →
  key = (if w.getD 0 0 = 1 then 256 + c.p 1 else c.idx) →
  idx = (if w.getD 2 0 = 3 then u.leaderHead p.port (w.getD 3 0) else w.getD 3 0) →
  (c.level = 0 ∧ w.getD 0 0 = 1 ∧ c.p 1 < 32 ∨ c.level = 4 ∧ w.getD 0 0 = 0 ∧ u.mayWrite 2 c.idx c.master) →
  (w.getD 2 0 = 2 → u.inputState idx = 1) →
  (w.getD 2 0 = 3 → idx < 128 ∧ u.mayRead 2 idx c.master ∧ u.headState idx = 1 ∨
    128 ≤ idx ∧ (u.cSession ∨ u.isMember ((idx - 1024) / 128)) ∧
      u.streamOver (u.setHeelWords key (w.set 3 idx)) = none) →
  (u.role = 2 → p.port = 18 ∨ w.getD 0 0 = 0 ∧ w.getD 2 0 ≠ 4 ∧ (w.getD 2 0 = 3 → idx < 128)) →
  (u.setHeelWords key (w.set 3 idx)).chainsOk →
  ((key < 128 → (u.head key).stretching = false) → directKept u (u.setHeelWords key (w.set 3 idx)) →
    exec (.clkHeel p) s = .next (settle
      ((u.setHeelWords key (w.set 3 idx)).replyOk opClkHeel p.port c (decide (c.params ≠ w)) w))) ∧
  (key < 128 → (u.head key).stretching = true →
    exec (.clkHeel p) s = .next (settle
      ((u.modHeel key fun l => { l with held := some (w.set 3 idx) }).replyOk opClkHeel p.port c
        (decide (c.params ≠ w)) w)))

/-- The MEM commands complete (R328, R332, R338, R385). -/
def Obligations.MemCommandsComplete : Prop :=
  ∀ (p : Pkt) (s u : State) (c : Cmd),
  (∀ r, Passes opMemRate p s u c → c.params = [r] → (u.memRate c.idx).target = none →
    exec (.memRate p) s = .next (settle (u.submitted p.port c))) ∧
  (∀ r, Passes opMemRate p s u c → c.params = [r] → (u.memRate c.idx).target ≠ none →
    exec (.memRate p) s = .next (settle (u.replyErr p.port c stBusy))) ∧
  (∀ port t, Judged opMemRate s u port c →
    t = u.modMemRate c.idx (fun r => { r with target := some (memTarget c), phase := 0, issuer := some (port, c.tag) }) →
    admissionFails u t = none →
    exec .admissionComplete s = .next (settle t.replan)) ∧
  (∀ th, Passes opMemRowprot p s u c → c.params = [th] →
    exec (.memRowprot p) s = .next (settle
      (({ u with mem := { u.mem with rowprotNext := clampN 256 8192 th } }).replyOk opMemRowprot p.port c
        (decide (th ≠ clampN 256 8192 th)) [clampN 256 8192 th]))) ∧
  (∀ first n cl es, Passes opMemErrlog p s u c → c.params = [first, n, cl] → (cl = 0 ∨ c.cls ≠ clsV) →
    es = ((u.region c.idx).log.drop (min 63 first)).take (clampN 1 30 n) →
    exec (.memErrlog p) s = .next (settle
      ((if cl = 0 then u else u.modRegion c.idx fun r => { r with log := [], overwrites := 0 }).replyOk
        opMemErrlog p.port c (decide ([first, n, cl] ≠ [min 63 first, clampN 1 30 n, min 1 cl]))
        ([(u.region c.idx).overwrites, es.length] ++ es.flatten)))) ∧
  (Passes opMemRead p s u c → c.params = [] →
    exec (.memRead p) s = .next (settle (u.replyOk opMemRead p.port c false
      ([(u.memRate c.idx).mbit] ++
       [(u.pcsOf (4 * c.idx)).length, (u.pcsOf (4 * c.idx + 1)).length, (u.pcsOf (4 * c.idx + 2)).length,
        (u.pcsOf (4 * c.idx + 3)).length] ++
       [u.shadowsOf (4 * c.idx), u.shadowsOf (4 * c.idx + 1), u.shadowsOf (4 * c.idx + 2), u.shadowsOf (4 * c.idx + 3)] ++
       [u.skipsOf ((List.range 64).map (64 * c.idx + ·))]))))

/-- The ACC and CANVAS commands complete (R46, R316, R386, R387, R412, R413, R414). -/
def Obligations.AccessCommandsComplete : Prop :=
  ∀ (p : Pkt) (s u : State) (c : Cmd),
  (∀ w, Passes opAccWindow p s u c → c.params.length = 10 → w = windowOf c (tget {} (u.windows c.idx) (c.p 0)).prot →
    c.p 0 ≤ 255 → c.p 5 ≤ 3 → c.p64 1 < regionData → c.p64 1 + c.p64 3 ≤ regionData →
    (∀ e ∈ u.windows c.idx, e.1 ≠ c.p 0 → e.2.overlaps w = false) → u.protectedOk c.idx (c.p 0) w = true →
    exec (.accWindow p) s = .next (settle ((u.setWindow c.idx (c.p 0) w).replyOk opAccWindow p.port c false
      [c.p64 1 / bandBytes * bandBytes % 2 ^ 32, c.p64 1 / bandBytes * bandBytes / 2 ^ 32 % 2 ^ 32,
       w.bands * bandBytes % 2 ^ 32, w.bands * bandBytes / 2 ^ 32 % 2 ^ 32]))) ∧
  (∀ rm wm t, Passes opAccTable p s u c → c.params.length = 6 → c.p 0 ≤ 3 → c.p 1 < objCount (c.p 0) →
    u.objState (c.p 0) (c.p 1) = 1 → rm = BitVec.ofNat 64 (c.p64 2) ||| 0x10000#64 →
    wm = BitVec.ofNat 64 (c.p64 4) ||| 0x10000#64 →
    t = u.setObjTab (c.p 0) (c.p 1) { rmask := rm, wmask := wm } →
    (c.p 0 ≠ 1 →
      exec (.accTable p) s = .next (settle (t.replyOk opAccTable p.port c false
        ([c.p 0, c.p 1] ++ words64 rm.toNat ++ words64 wm.toNat)))) ∧
    (c.p 0 = 1 → ∀ v, v = t.cancelFlips (c.p 1) (fun f =>
        admits (u.objTab 1 (c.p 1)).wmask (t.portMaster f.issuer) && !admits wm (t.portMaster f.issuer)) →
      v.pwr.step ≠ .aoBoot →
      exec (.accTable p) s = .next (settle (v.replyOk opAccTable p.port c false
        ([1, c.p 1] ++ words64 rm.toNat ++ words64 wm.toNat))))) ∧
  (∀ i w, Passes opAccRead p s u c → c.params = [4, i] → c.level = 2 → i ≤ 255 → w = tget {} (u.windows c.idx) i →
    exec (.accRead p) s = .next (settle (u.replyOk opAccRead p.port c false
      ([i] ++ words64 (w.band * bandBytes) ++ words64 (w.bands * bandBytes) ++ [w.order] ++
        words64 w.rmask.toNat ++ words64 w.wmask.toNat)))) ∧
  (∀ k i, Passes opAccRead p s u c → c.params = [k, i] → c.level = 0 → k ≤ 3 → i < objCount k → u.objState k i = 1 →
    exec (.accRead p) s = .next (settle (u.replyOk opAccRead p.port c false
      ([k, i] ++ words64 (u.objTab k i).rmask.toNat ++ words64 (u.objTab k i).wmask.toNat)))) ∧
  (∀ x y x' y', Passes opCanvasWindow p s u c → c.params = [x, y] → u.framed = false →
    (x', y') = (if u.role = 0 ∨ u.role ≠ 2 ∧ u.casc.members = [] then (0, 0)
      else (min 65528 (x / 8 * 8), min 65528 (y / 8 * 8))) →
    exec (.canvasWindow p) s = .next (settle
      (({ u with wx := x', wy := y', windowSet := true } : State).clampHeads.replyOk opCanvasWindow p.port c
        (decide ([x, y] ≠ [x', y'])) [x', y']))) ∧
  (∀ x y, Passes opCanvasWindow p s u c → c.params = [x, y] → u.framed = true →
    exec (.canvasWindow p) s = .next (settle (u.replyErr p.port c stBusy))) ∧
  (Passes opCanvasRead p s u c → c.params = [] →
    exec (.canvasRead p) s = .next (settle (u.replyOk opCanvasRead p.port c false [u.wx, u.wy, b2n u.windowSet])))

/-- The LAYER commands that need admission complete (R56, R65, R66, R85, R98, R106, R148, R153, R160, R388). -/
def Obligations.LayerChangesComplete : Prop :=
  ∀ (p : Pkt) (s u : State) (c : Cmd),
  (Passes opLayerPlace p s u c → c.params.length = 12 → layerOpen u c →
    exec (.layerPlace p) s = .next (settle ((u.submitted p.port c)))) ∧
  (Passes opLayerScale p s u c → c.params.length = 7 → layerOpen u c →
    exec (.layerScale p) s = .next (settle (u.submitted p.port c))) ∧
  (Passes opLayerRemove p s u c → c.params.length = 1 → layerOpen u c →
    exec (.layerRemove p) s = .next (settle (u.submitted p.port c))) ∧
  (Passes opLayerSource p s u c → c.params.length = 5 + 3 * fmtPlanes (sourceFormat c) → layerOpen u c →
    exec (.layerSource p) s = .next (settle (u.submitted p.port c))) ∧
  (∀ l f, Passes opLayerFlip p s u c → layerOpen u c → l = u.layer (c.p 0) → f = flipOf p.port c l.source →
    c.params.length = 6 + 2 * fmtPlanes l.source.format → l.placed = true → l.bindMode = 0 →
    (u.role = 2 → p.port ≠ 18 → l.shared = false) → u.flipBusy (c.p 0) (bits (c.p 1) 15 0) = false →
    l.queue.length < 4 →
    ((∃ b ∈ regionsOf f.bases, b ∉ regionsOf ((l.current.map (·.bases)).getD [])) →
      exec (.layerFlip p) s = .next (settle (u.submitted p.port c))) ∧
    ((∀ b ∈ regionsOf f.bases, b ∈ regionsOf ((l.current.map (·.bases)).getD [])) →
      ∃ cl ws, exec (.layerFlip p) s = .next (settle
        ((u.setLayer (c.p 0) { l with queue := l.queue ++ [f] }).replyOk
          opLayerFlip p.port c cl (ws ++ [l.queue.length + 1]))))) ∧
  (∀ l, Passes opLayerFlip p s u c → layerOpen u c → l = u.layer (c.p 0) →
    c.params.length = 6 + 2 * fmtPlanes l.source.format → l.placed = true → u.role = 2 → p.port ≠ 18 → l.shared = true →
    exec (.layerFlip p) s = .next (settle (u.replyErr p.port c stNotPermitted))) ∧
  (∀ port a v t, Judged opLayerPlace s u port c →
    a = clampPlace (u.layer (c.p 0)).source c.place →
    v = u.modLayer (c.p 0) (fun l => ({ l with requested := some c.place, applied := a } : Layer).unreduced) →
    placingKept u v → directKept u v → v.reduce (c.p 0) = some t → admissionFails u t = none →
    exec .admissionComplete s = .next (settle (
      if u.windowless (c.p 0) then u.finish port c [replyWord stNoResource false 0]
      else (t.replan.finish port c
        (replyWord stOk (decide (c.params ≠ c.p 0 :: a.words)) 0 :: (c.p 0 :: a.words ++ t.placeExtra (c.p 0)))).genStep
          opLayerPlace c true))) ∧
  (∀ port v t, Judged opLayerScale s u port c →
    v = u.modLayer (c.p 0) (fun l => ({ l with scale := .ofWords (scaleWords c) } : Layer).unreduced) →
    v.reduce (c.p 0) = some t → admissionFails u t = none →
    exec .admissionComplete s = .next (settle (t.replan.finish port c
      (replyWord stOk (decide (c.params ≠ c.p 0 :: scaleWords c)) 0 ::
        (c.p 0 :: scaleWords c ++ t.placeExtra (c.p 0)))))) ∧
  (∀ port t, Judged opLayerRemove s u port c →
    t = ((u.cancelFlips (c.p 0) fun _ => true).modLayer (c.p 0) Layer.removed).releaseRing (c.p 0) →
    admissionFails u t = none →
    exec .admissionComplete s = .next (settle ((t.replan.finish port c [replyWord stOk false 0]).genStep
      opLayerRemove c true))) ∧
  (∀ port src v t, Judged opLayerSource s u port c → src = sourceOf c →
    v = (u.cancelFlips (c.p 0) fun _ => true).modLayer (c.p 0) (·.resourced src) →
    t = (if src.format = 9 then { v with palettes := tdel v.palettes (c.p 0) } else v) →
    placingKept u t → directKept u t → admissionFails u t = none →
    exec .admissionComplete s = .next (settle (t.replan.finish port c
      (replyWord stOk (decide (c.params ≠ c.p 0 :: src.words)) 0 :: c.p 0 :: src.words)))) ∧
  (∀ port l t cl ws, Judged opLayerFlip s u port c → l = u.layer (c.p 0) → l.queue.length < 4 → l.placed = true →
    u.queueFlip port c = .ok cl ws t → admissionFails u t = none →
    exec .admissionComplete s = .next (settle (t.replan.finish port c (replyWord stOk cl 0 :: ws))))

/-- The LAYER settings, tables and LAYER.READ complete (R91, R99, R114, R123, R127, R131, R133, R152, R388, R389). -/
def Obligations.LayerSettingsComplete : Prop :=
  ∀ (p : Pkt) (s u : State) (c : Cmd),
  (∀ w, Passes opLayerColour p s u c → c.params.length = 33 → layerOpen u c →
    w = colourWords c (decide ((u.layer (c.p 0)).source.format = 4)) →
    exec (.layerColour p) s = .next (settle
      ((u.modLayer (c.p 0) fun l => { l with colour := .ofWords w, dyn := none }).replyOk opLayerColour p.port c
        (decide (c.params ≠ c.p 0 :: w)) (c.p 0 :: w)))) ∧
  (∀ l a b, Passes opLayerFill p s u c → c.params = [l, a, b] → layerOpen u c →
    exec (.layerFill p) s = .next (settle
      ((u.modLayer l fun y => { y with fill := { c0 := a % 65536, c1 := a / 65536 % 65536, c2 := b % 65536
                                                 a := b / 65536 % 65536 } }).replyOk
        opLayerFill p.port c false [l, a, b]))) ∧
  (∀ l v, Passes opLayerPolicy p s u c → c.params = [l, v] → layerOpen u c →
    exec (.layerPolicy p) s = .next (settle
      ((u.modLayer l fun y => { y with policy := min 2 v }).replyOk opLayerPolicy p.port c
        (decide (v ≠ min 2 v)) [l, min 2 v]))) ∧
  (∀ first count n, Passes opLayerPalette p s u c → layerOpen u c → first = min 255 (c.p 1) →
    count = clampN 1 240 (c.p 2) → c.params.length = 3 + count → n = min count (256 - first) →
    exec (.layerPalette p) s = .next (settle
      (({ u with palettes := tset u.palettes (c.p 0) (tsetMany (tget [] u.palettes (c.p 0))
          ((List.range n).map fun i => (first + i, c.p (3 + i)))) } : State).replyOk opLayerPalette p.port c
        (decide ([c.p 1, c.p 2] ≠ [first, n])) [first, n]))) ∧
  (∀ i first count n base given all, Passes opLayerCoefset p s u c → i = clampN 3 15 (c.p 0) → first = min 63 (c.p 1) →
    count = clampN 1 32 (c.p 2) → c.params.length = 4 + 7 * count → n = min count (64 - first) →
    base = (match u.coefStage with
      | some e => e.2
      | none => (tfind u.coefSets i).getD linearSet) →
    given = (fun j => ((c.params.drop (4 + 7 * j)).take 7).flatMap halves) →
    all = base.take (14 * first) ++ ((List.range n).map fun j => fixPhase (first + j) (-3) ((given j).take 8) ++
      fixPhase (first + j) (-2) ((given j).drop 8)).flatten ++ base.drop (14 * (first + n)) →
    ((∀ e, u.coefStage = some e → e.1 = i) → ∃ cl ws,
      exec (.layerCoefset p) s = .next (settle
        ((if c.p 3 = 0 then { u with coefStage := some (i, all) }
          else { u with coefSets := tset u.coefSets i all, coefStage := none }).replyOk opLayerCoefset p.port c cl ws))) ∧
    (∀ e, u.coefStage = some e → e.1 ≠ i →
      exec (.layerCoefset p) s = .next (settle (u.replyErr p.port c stBusy)))) ∧
  (∀ i first count n all, Passes opLayerEotftable p s u c → i = min 15 (c.p 0) → first = min 1024 (c.p 1) →
    count = clampN 1 240 (c.p 2) → c.params.length = 4 + count → n = min count (1025 - first) →
    all = splice (stagedOr u.eotfStage u.eotf i linearEotf) first (((c.params.drop 4).take n).map (· % 2 ^ 28)) →
    ((∀ e, u.eotfStage = some e → e.1 = i) →
      exec (.layerEotftable p) s = .next (settle
        ((if c.p 3 = 0 then { u with eotfStage := some (i, all) }
          else { u with eotf := tset u.eotf i all, eotfStage := none }).replyOk opLayerEotftable p.port c
          (decide (c.params.take 4 ≠ [i, first, n, min 1 (c.p 3)])) [first, n]))) ∧
    (∀ e, u.eotfStage = some e → e.1 ≠ i →
      exec (.layerEotftable p) s = .next (settle (u.replyErr p.port c stBusy)))) ∧
  (∀ i first count n all, Passes opLayerTonetable p s u c → i = min 15 (c.p 0) → first = min 4095 (c.p 1) →
    count = clampN 1 480 (c.p 2) → c.params.length = 4 + (count + 1) / 2 → n = min count (4096 - first) →
    all = splice (stagedOr u.toneStage u.tone i unityTone) first
      (((c.params.drop 4).flatMap fun w => [w % 65536, w / 65536]).take n) →
    ((∀ e, u.toneStage = some e → e.1 = i) →
      exec (.layerTonetable p) s = .next (settle
        ((if c.p 3 = 0 then { u with toneStage := some (i, all) }
          else { u with tone := tset u.tone i all, toneStage := none }).replyOk opLayerTonetable p.port c
          (decide (c.params.take 4 ≠ [i, first, n, min 1 (c.p 3)])) [first, n]))) ∧
    (∀ e, u.toneStage = some e → e.1 ≠ i →
      exec (.layerTonetable p) s = .next (settle (u.replyErr p.port c stBusy)))) ∧
  (∀ l y, Passes opLayerRead p s u c → c.params = [l] → l < 1024 → u.mayRead 1 l c.master → y = u.layer l →
    exec (.layerRead p) s = .next (settle (u.replyOk opLayerRead p.port c false
      (l :: y.applied.words ++ u.placeExtra l ++ l :: y.source.words ++ l :: y.scale.words ++
        l :: { y.colour with transfer := y.transferOf }.words ++ l :: y.fill.words ++ [l, y.policy] ++
        [(y.current.getD {}).id, (y.current.getD {}).epoch, y.queue.length]))))

/-- The HEAD commands that need admission complete (R49, R75, R78, R79, R160, R390, R391). -/
def Obligations.HeadChangesComplete : Prop :=
  ∀ (p : Pkt) (s u : State) (c : Cmd),
  (Passes opHeadPlace p s u c → c.params.length = 4 → headsOpen u c (u.pairHeads c.idx) →
    exec (.headPlace p) s = .next (settle (u.submitted p.port c))) ∧
  (Passes opHeadTiming p s u c → c.params.length = 7 → headsOpen u c (u.pairHeads c.idx) →
    exec (.headTiming p) s = .next (settle (u.submitted p.port c))) ∧
  (∀ g, Passes opHeadGroup p s u c → c.params = [g] → g < 32 ∨ g = 255 → headsOpen u c (u.pairHeads c.idx) →
    exec (.headGroup p) s = .next (settle (u.submitted p.port c))) ∧
  (Passes opHeadPair p s u c → c.params.length = 1 → c.idx % 2 = 0 → headsOpen u c [c.idx, c.idx + 1] →
    exec (.headPair p) s = .next (settle (u.submitted p.port c))) ∧
  (∀ port o lead t, Judged opHeadPlace s u port c → o = (if c.p 2 ≤ 3 then c.p 2 else 0) →
    u.placeAny c.idx (c.p 0) (c.p 1) o (decide (c.p 3 ≠ 0)) = some t → lead = (u.pairHeads c.idx).headD c.idx →
    placingKept u t → directKept u t → admissionFails u t = none →
    exec .admissionComplete s = .next (settle (t.replan.finish port c
      (replyWord stOk (decide (c.params ≠ [(t.head lead).ox, (t.head lead).oy, o, min 1 (c.p 3)])) 0 ::
        ([(t.head lead).ox, (t.head lead).oy, o, min 1 (c.p 3)] ++
          if (u.head c.idx).pair.isSome then t.origins (t.pairHeads c.idx) else []))))) ∧
  (∀ port m v d w t, Judged opHeadTiming s u port c → u.timingFor c.idx c = some m →
    u.setModes m (u.pairHeads c.idx) = some v → d = v.head ((v.pairHeads c.idx).headD c.idx) →
    v.placeAny c.idx d.ox d.oy d.orient d.mirror = some w →
    t = ((w.pairHeads c.idx).foldl State.setDepth w).settleCommits →
    placingKept u t → directKept u t → admissionFails u t = none → ∃ cl,
    exec .admissionComplete s = .next (settle (t.replan.finish port c (replyWord stOk cl 0 ::
      (m.words ++ [(t.head c.idx).pendingDepth.getD (t.head c.idx).depth, (t.head c.idx).cEff]))))) ∧
  (∀ port g v t, Judged opHeadGroup s u port c → c.params = [g] →
    (u.pairHeads c.idx).foldl (fun (t : Option State) j => t.bind (·.joinGroup j g)) (some u) = some v →
    v.chainsOk = true → t = ((v.pairHeads c.idx).foldl State.setDepth v).settleCommits →
    directKept u t → admissionFails u t = none →
    exec .admissionComplete s = .next (settle ((t.replan.finish port c
      [replyWord stOk false 0, g, b2n (t.head c.idx).aligned]).genStep opHeadGroup c true))) ∧
  (∀ port x v t, Judged opHeadPair s u port c → c.params = [x] →
    (if x = 0 then some (u.breakPair c.idx) else u.formPair c.idx) = some v →
    t = ((v.setDepth c.idx).setDepth (c.idx + 1)).settleCommits → t.chainsOk = true →
    placingKept u t → directKept u t → admissionFails u t = none →
    exec .admissionComplete s = .next (settle (t.replan.finish port c
      (replyWord stOk (decide (1 < x)) 0 :: t.origins [c.idx, c.idx + 1]))))

/-- The HEAD settings and HEAD.READ complete (R115, R136, R144, R145, R172, R237, R390). -/
def Obligations.HeadSettingsComplete : Prop :=
  ∀ (p : Pkt) (s u : State) (c : Cmd),
  (∀ b, Passes opHeadBind p s u c → c.params.length = 3 → u.mayWrite 2 c.idx c.master → b = c.bind 0 →
    (b.link = 255 ∧ b.mst = false ∨ b.link < 96 ∧ u.linkState b.link = 1 ∧ b.link / 48 = c.idx / 64 ∧ b.mst = false ∧
      u.bindClash c.idx b = false) →
    exec (.headBind p) s = .next (settle
      ((if (u.head c.idx).running then (u.modHead c.idx fun d => { d with pendingBind := some b }).setDepth c.idx
        else (u.modHead c.idx fun d => { d with pendingBind := some b }).putBind c.idx b).replyOk opHeadBind p.port c
          (decide (c.p 1 ≠ min 1 (c.p 1)))
          [c.p 0, min 1 (c.p 1), c.p 2 &&& 0xFFF3]))) ∧
  (∀ w k t, Passes opHeadColour p s u c → c.params.length = 15 → u.mayWrite 2 c.idx c.master →
    w = headColourWords c → k = HeadColour.ofWords w → (k.lutOn = true → u.stagingBusy (c.idx / 4) = false) →
    t = ((if k.lutOn then u.modHead c.idx fun d => { d with colour := k, lutBusy := some (k.lutAddr, c.master)
                                                            lutIssuer := p.port }
      else u.modHead c.idx fun d => { d with colour := k }).setDepth c.idx) →
    exec (.headColour p) s = .next (settle (t.replyOk opHeadColour p.port c (decide (c.params ≠ w))
      (w ++ [(t.head c.idx).pendingDepth.getD (t.head c.idx).depth])))) ∧
  (Passes opHeadColour p s u c → c.params.length = 15 → u.mayWrite 2 c.idx c.master →
    (HeadColour.ofWords (headColourWords c)).lutOn = true → u.stagingBusy (c.idx / 4) = true →
    exec (.headColour p) s = .next (settle (u.replyErr p.port c stBusy))) ∧
  (∀ k t, Passes opHeadCommit p s u c → c.params = [k] → u.mayWrite 2 c.idx c.master →
    t = (u.modHead c.idx fun d => { d with commit := clampN 2 64 k }).settleCommits →
    exec (.headCommit p) s = .next (settle (t.replyOk opHeadCommit p.port c (decide (k ≠ clampN 2 64 k))
      [clampN 2 64 k, (t.head c.idx).cEff]))) ∧
  (∀ x a b, Passes opHeadPolicy p s u c → c.params = [x, a, b] → u.mayWrite 2 c.idx c.master →
    exec (.headPolicy p) s = .next (settle
      ((u.modHead c.idx fun d => { d with policy := min 1 x, urColour := [a % 65536, a / 65536 % 65536, b % 65536] }).replyOk
        opHeadPolicy p.port c (decide (x ≠ min 1 x)) [min 1 x, a, b % 65536]))) ∧
  (∀ h d, Passes opHeadRead p s u c → c.params = [] → u.mayRead 2 c.idx c.master → h = u.head c.idx →
    d = h.pendingDepth.getD h.depth →
    exec (.headRead p) s = .next (settle (u.replyOk opHeadRead p.port c false
      ([h.ox, h.oy, h.orient, b2n h.mirror] ++ (match h.modeP with
          | some m => m.words
          | none => [0, 0, 0, 0, 0, 0, 0]) ++ [d, h.cEff] ++ h.bindP.words ++ h.colour.words ++ [d] ++
        [h.commit, h.cEff, h.policy, h.urColour.getD 0 0 + 65536 * h.urColour.getD 1 0, h.urColour.getD 2 0,
         h.group, h.partner, h.seq, b2n h.armed]))))

/-- The LINK commands complete (R220, R234, R244, R245, R392). -/
def Obligations.LinkCommandsComplete : Prop :=
  ∀ (p : Pkt) (s u : State) (c : Cmd),
  (∀ w l v t, Passes opLinkConfig p s u c → c.params.length = 6 → c.p 0 < 96 → u.linkState (c.p 0) = 1 →
    w = linkConfigWords c → l = u.link (c.p 0) →
    v = u.setLink (c.p 0) { l with enabled := decide (c.p 1 ≠ 0), edp := decide (c.p 2 ≠ 0)
                                   maxRate := atMost (if c.p 2 = 0 then dpRates else edpRates) (c.p 3)
                                   maxLanes := atMost [1, 2, 4] (c.p 4), spread := decide (c.p 5 ≠ 0) } →
    t = (if c.p 1 = 0 then
          (if l.enabled then (v.dropLink (c.p 0) 0).modLink (c.p 0) fun x => { x with hpd := false } else v)
        else if l.enabled = false then v.modLink (c.p 0) (·.into 1)
        else if l.configWords ≠ w ∧ l.state = 4 then
          (v.modLink (c.p 0) fun x => { x with retrainAll := true, cands := v.candidates (c.p 0) }).beginRetrain (c.p 0)
        else v) →
    t.pwr.step ≠ .aoBoot →
    exec (.linkConfig p) s = .next (settle (t.replyOk opLinkConfig p.port c
      (decide (c.params ≠ c.p 0 :: w)) (c.p 0 :: w)))) ∧
  (∀ li rate lanes ks, Passes opLinkTrain p s u c → c.params = [li, rate, lanes] → li < 96 → u.linkState li = 1 →
    (u.link li).state = 4 → (u.link li).retrainAll = false → (u.link li).retrainCmd = false →
    ks = (if rate = 0 then u.candidates li else fromCand rate lanes (u.candidates li)) →
    exec (.linkTrain p) s = .next (settle
      (((u.setLink li { u.link li with cands := ks, retrainAll := true, retrainCmd := true }).beginRetrain li).inProgress
        p.port c))) ∧
  (∀ li rate lanes, Passes opLinkTrain p s u c → c.params = [li, rate, lanes] → li < 96 → u.linkState li = 1 →
    (u.link li).state ≠ 4 → exec (.linkTrain p) s = .next (settle (u.replyErr p.port c stBusy))) ∧
  (Passes opLinkAux p s u c → c.params.length = 8 → c.p 0 < 96 → u.linkState (c.p 0) = 1 →
    (u.link (c.p 0)).state ∉ [2, 3, 5] →
    (c.p 1 = 0 ∨ auxProtected (min 0xFFFFF (c.p 2)) (clampN 1 16 (c.p 3)) = false) →
    exec (.linkAux p) s = .next (settle
      ((if (u.link (c.p 0)).auxWait.isSome then u
        else u.setLink (c.p 0) { u.link (c.p 0) with auxWait := some (p.port, c.tag, min 1 (c.p 1))
                                                     auxTries := 0, auxDefers := 0 }).inProgress p.port c))) ∧
  (∀ b, Passes opLinkAutostart p s u c → c.params.length = 12 → u.mayWrite 2 c.idx c.master → b = c.bind 1 →
    (b.link = 255 ∨ b.link < 96 ∧ u.linkState b.link ≠ 0 ∧ b.link / 48 = c.idx / 64) →
    exec (.linkAutostart p) s = .next (settle
      ((u.modHead c.idx fun h => { h with autoEn := decide (c.p 0 ≠ 0), autoBind := b, autoRule := min 1 (c.p 4)
                                          autoMode := c.timing 5 }).replyOk opLinkAutostart p.port c
        (decide ([min 1 (c.p 0), c.p 1, min 1 (c.p 2), b.path, min 1 (c.p 4)] ≠
          [c.p 0, c.p 1, c.p 2, c.p 3 &&& 0xFFF3, c.p 4]))
        ([min 1 (c.p 0), c.p 1, min 1 (c.p 2), b.path, min 1 (c.p 4)] ++ c.params.drop 5)))) ∧
  (∀ li, Passes opLinkRead p s u c → c.params = [li] → li < 96 → u.linkState li = 1 →
    (∀ h ∈ u.boundTo li, u.mayRead 2 h c.master) →
    exec (.linkRead p) s = .next (settle (u.replyOk opLinkRead p.port c false
      ([(u.link li).state] ++ ((u.link li).trained.map fun k => [k.rate, k.lanes, k.coding]).getD [0, 0, 0] ++
        [((u.link li).sink.map (·.lttprs)).getD 0, (u.link li).glitches, (u.link li).attempts]))))

/-- The INPUT commands complete (R247, R250, R254, R262, R393). -/
def Obligations.InputCommandsComplete : Prop :=
  ∀ (p : Pkt) (s u : State) (c : Cmd),
  (∀ v e t, Passes opInputConfig p s u c → c.params = [v, e] → v < 16 → u.inputState v = 1 →
    t = (if e = 0 then
          (if (u.input v).enabled then (u.inputLost v).modInput v fun i => { i with enabled := false, hpd := false,
                                                                                      trained := none } else u)
        else if (u.input v).enabled then u else u.modInput v fun i => { i with enabled := true, hpd := true }) →
    t.pwr.step ≠ .aoBoot →
    exec (.inputConfig p) s = .next (settle (t.replyOk opInputConfig p.port c (decide (e ≠ min 1 e)) [v, min 1 e]))) ∧
  (∀ n, Passes opInputEdid p s u c → n = clampN 1 4 (c.p 1) → c.params.length = 2 + 32 * n → c.p 0 < 16 →
    u.inputState (c.p 0) = 1 →
    exec (.inputEdid p) s = .next (settle
      ((u.modInput (c.p 0) fun i => { i with hpd := false,
                                             edid := (c.params.drop 2).flatMap fun w => (leBytes 4 w).map (·.toNat) }).replyOk
        opInputEdid p.port c (decide (n ≠ c.p 1)) [n]))) ∧
  (Passes opInputCapture p s u c → c.params.length = capTailAt c + 4 → c.p 0 < 16 → u.inputState (c.p 0) = 1 →
    exec (.inputCapture p) s = .next (settle (u.submitted p.port c))) ∧
  (∀ port k t, Judged opInputCapture s u port c → k = capTailAt c →
    t = u.modInput (c.p 0) (fun i => { i with
      capFormat := capFormatOf c, capTiled := decide (c.p 2 ≠ 0), capW := clampN 64 8192 (c.p 3)
      capH := clampN 64 8192 (c.p 4), bufs := capBases c, capStrides := capStridesOf c
      capToken := if c.p k < 256 then some (c.p k) else none, fmax := clampN 1 240 (c.p (k + 1))
      timeout := min 10000 (c.p (k + 2)), capOn := decide (c.p (k + 3) ≠ 0)
      stamps := [], writeBuf := 0, writing := false, sinceStart := none, newest := none, inUse := [] }) →
    admissionFails u t = none →
    exec .admissionComplete s = .next (settle (t.replan.finish port c
      (replyWord stOk (decide (c.params ≠ captureWords c)) 0 :: captureWords c)))) ∧
  (Passes opInputBind p s u c → c.params.length = 6 → layerOpen u c → c.p 1 < 16 → u.inputState (c.p 1) = 1 →
    exec (.inputBind p) s = .next (settle (u.submitted p.port c))) ∧
  (∀ port l v w t, Judged opInputBind s u port c → l = c.p 0 →
    (c.p 2 = 1 → (u.layers.filter fun e => e.1 ≠ l && e.2.bindMode = 1 && e.2.bindInput = c.p 1).length < 8) →
    v = ((if c.p 2 = 0 then u else u.cancelFlips l fun _ => true).releaseRing l).modLayer l (fun y =>
      let y := { y with bindMode := min 2 (c.p 2), bindInput := c.p 1, bindOwn := decide (c.p 3 ≠ 0)
                        bindFill := { c0 := c.p 4 % 65536, c1 := c.p 4 / 65536 % 65536
                                      c2 := c.p 5 % 65536, a := c.p 5 / 65536 % 65536 }
                        bindIssuer := port
                        nosignal := decide (c.p 2 ≠ 0) && decide ((u.input (c.p 1)).state = 5) }
      if c.p 2 = 0 then y else if c.p 2 = 1 then y.resourced (u.input (c.p 1)).ringSource
      else y.resourced (u.input (c.p 1)).directSource) →
    w = (if 2 ≤ c.p 2 then v.setDelta l else v.modLayer l fun y => { y with delta := 0 }) →
    placingKept u w → directKept u w → w.reduce l = some t → admissionFails u t = none →
    exec .admissionComplete s = .next (settle (t.replan.finish port c
      (replyWord stOk (decide (c.params ≠ [l, c.p 1, min 2 (c.p 2), min 1 (c.p 3), c.p 4, c.p 5])) 0 ::
        [l, c.p 1, min 2 (c.p 2), min 1 (c.p 3), c.p 4, c.p 5, ofS 32 (t.layer l).delta])))) ∧
  (∀ v i, Passes opInputStatus p s u c → c.params = [v] → v < 16 → u.inputState v = 1 → i = u.input v →
    exec (.inputStatus p) s = .next (settle (u.replyOk opInputStatus p.port c false
      ([i.state, i.reason, i.linePs / 1000, i.framePs / 1000] ++ i.streamWords ++
        [i.capCount, i.dropped, i.glitches]))))

/-- The audio commands complete (R266, R268, R275, R276, R393, R394). -/
def Obligations.AudioCommandsComplete : Prop :=
  ∀ (p : Pkt) (s u : State) (c : Cmd),
  (Passes opInputAudio p s u c → c.params.length = 8 → c.p 0 < 16 → u.inputState (c.p 0) = 1 →
    exec (.inputAudio p) s = .next (settle (u.submitted p.port c))) ∧
  (∀ port t, Judged opInputAudio s u port c →
    t = ((if (u.aud (16 + c.p 0)).enabled then u.audioQuiet (16 + c.p 0) else u).modAud (16 + c.p 0) fun a =>
      { a.restart with enabled := decide (c.p 1 ≠ 0), width := nearest 16 [16, 24] (c.p 2), pack4 := decide (c.p 3 = 1)
                       base := ringBaseOf (c.p64 4), size := ringSizeOf (c.p 6), zc := min 50 (c.p 7) }) →
    admissionFails u t = none →
    exec .admissionComplete s = .next (settle (t.replan.finish port c
      (replyWord stOk (decide (c.params ≠ inputAudioWords c)) 0 :: inputAudioWords c)))) ∧
  (Passes opAudioConfig p s u c → c.params.length = 10 → c.p 0 < 4 → u.audState (c.p 0) = 1 →
    exec (.audioConfig p) s = .next (settle (u.submitted p.port c))) ∧
  (∀ port sl t, Judged opAudioConfig s u port c → sl = nearest 16 [16, 24, 32] (c.p 3) →
    t = ((if (u.aud (c.p 0)).enabled then u.audioQuiet (c.p 0) else u).modAud (c.p 0) fun a =>
      { a.restart with enabled := decide (c.p 1 ≠ 0), leftJust := decide (c.p 2 = 1), slot := sl
                       width := sampleWidth sl (c.p 4), pack4 := decide (c.p 5 = 1)
                       base := ringBaseOf (c.p64 6), size := ringSizeOf (c.p 8), zc := min 50 (c.p 9) }) →
    admissionFails u t = none →
    exec .admissionComplete s = .next (settle (t.replan.finish port c
      (replyWord stOk (decide (c.params ≠ audioWords c)) 0 :: audioWords c)))) ∧
  (∀ n hs t, Passes opAudioRoute p s u c → n = clampN 1 16 (c.p 1) → c.params.length = 2 + n → hs = c.params.drop 2 →
    u.sourceStatus (c.p 0) = 1 → (∀ h ∈ hs, h < 128 ∧ u.headState h = 1 ∧ u.mayWrite 2 h c.master) →
    t = hs.foldl (fun v h => v.audioRouteTo h (c.p 0) p.port) u → t.pwr.step ≠ .aoBoot →
    exec (.audioRoute p) s = .next (settle (t.replyOk opAudioRoute p.port c
      (decide (c.params ≠ [c.p 0, n] ++ hs)) ([c.p 0, n] ++ hs ++
        [maskOf ((List.range hs.length).filter fun i => decide (t.audioHold (hs.getD i 0) ≠ 0) && (c.p 0 != 255))])))) ∧
  (∀ m on t, Passes opAudioMute p s u c → c.params = [m, on] → u.mayWrite 2 c.idx c.master →
    t = (bitsOf 2 m).foldl (fun v ch => v.audioChange c.idx ch (min 1 on) p.port) u → t.pwr.step ≠ .aoBoot →
    exec (.audioMute p) s = .next (settle (t.replyOk opAudioMute p.port c (decide (1 < on)) []))) ∧
  (∀ x a, Passes opAudioStatus p s u c → c.params = [x] → x ≠ 255 → u.sourceStatus x = 1 → a = u.aud x →
    exec (.audioStatus p) s = .next (settle (u.replyOk opAudioStatus p.port c false
      [a.offset, a.frames, a.rate, a.nearest, b2n a.offStd, a.state, a.glitches, a.slotErrs, a.denied])))

/-- The MANTEL commands that write complete (R179, R185, R187, R189, R195, R196, R197, R395). -/
def Obligations.MantelWritesComplete : Prop :=
  ∀ (p : Pkt) (s u : State) (c : Cmd),
  (Passes opMantelArea p s u c → c.params.length = 4 → u.areaOk (c.p64 0) → u.areaOk (c.p64 2) →
    c.p64 0 / regionSpan / 2 ≠ c.p64 2 / regionSpan / 2 → u.armedOrPending = false →
    exec (.mantelArea p) s = .next (settle
      (if c.p64 0 = u.mantel.areaA ∧ c.p64 2 = u.mantel.areaB then u.replyOk opMantelArea p.port c false []
       else ({ u with mantel := { u.mantel with newAreas := some (c.p64 0, c.p64 2, p.port, c.tag) } }).inProgress
         p.port c))) ∧
  (Passes opMantelArea p s u c → c.params.length = 4 → u.areaOk (c.p64 0) → u.areaOk (c.p64 2) →
    c.p64 0 / regionSpan / 2 ≠ c.p64 2 / regionSpan / 2 → u.armedOrPending = true →
    exec (.mantelArea p) s = .next (settle (u.replyErr p.port c stBusy))) ∧
  (∀ off n d, Passes opMantelAtlas p s u c → off = c.p 0 → n = c.p 1 → d = wordBytes (c.params.drop 2) →
    1 ≤ n → n ≤ 960 → c.params.length = 2 + ceilDiv n 4 → off + n ≤ 0x1000000 → (∀ b ∈ d.drop n, b = 0) →
    (u.mantelWrite off (d.take n)).pwr.step ≠ .aoBoot →
    exec (.mantelAtlas p) s = .next (settle
      ((u.mantelWrite off (d.take n)).replyOk opMantelAtlas p.port c false []))) ∧
  (∀ bank first n t, Passes opMantelPalette p s u c → bank = c.p 0 → first = c.p 1 → n = c.p 2 → bank ≤ 15 →
    1 ≤ n → n ≤ 120 → first + n ≤ 256 → first ≤ 255 → c.params.length = 3 + 2 * n →
    (∀ w ∈ c.params.drop 3, w &&& 0xF000F000 = 0) →
    t = (u.mantelWrite (paletteAt u.pendingBuf bank + 8 * first) (wordBytes (c.params.drop 3))).dirty →
    t.pwr.step ≠ .aoBoot →
    exec (.mantelPalette p) s = .next (settle
      (if u.mantel.sealed.isSome then u.replyErr p.port c stBusy else t.replyOk opMantelPalette p.port c false []))) ∧
  (∀ t, Passes opMantelBackdrop p s u c → c.params.length = 34 → (∀ w ∈ c.params, w &&& 0xF000F000 = 0) →
    t = (u.mantelWrite (coloursAt u.pendingBuf c.idx) (wordBytes c.params)).dirty → t.pwr.step ≠ .aoBoot →
    exec (.mantelBackdrop p) s = .next (settle
      (if u.mantel.sealed.isSome then u.replyErr p.port c stBusy else t.replyOk opMantelBackdrop p.port c false []))) ∧
  (∀ first n len v t, Passes opMantelSprites p s u c → first = c.p 0 → n = c.p 1 → len = c.p 2 → first ≤ 255 →
    1 ≤ n → n ≤ 60 → first + n ≤ 256 → len ≤ 256 → c.params.length = 3 + 4 * n →
    (∀ i < n, spriteOk (((c.params.drop 3).drop (4 * i)).take 4)) →
    v = (u.mantelWrite (spriteAt u.pendingBuf c.idx + 16 * first) (wordBytes (c.params.drop 3))).dirty →
    t = { v with mantel := { v.mantel with lens := tset v.mantel.lens (2 * c.idx + u.pendingBuf) len } } →
    v.pwr.step ≠ .aoBoot →
    exec (.mantelSprites p) s = .next (settle
      (if u.mantel.sealed.isSome then u.replyErr p.port c stBusy else t.replyOk opMantelSprites p.port c false []))) ∧
  (∀ v, Passes opMantelCommit p s u c → c.params = [v] → v ≤ 65535 → v ≠ u.mantel.version →
    exec (.mantelCommit p) s = .next (settle
      (if u.mantel.sealed.isSome then u.replyErr p.port c stBusy
       else ({ u with
        mantel := { u.mantel with sealed := some v, sealedCtm := u.mantel.pendingCtm, pendingCtm := [], ctmWrites := 0,
                                  ctmFills := 0, dirty := false }
        heads := u.heads.map fun (e : Nat × Head) => (e.1, { e.2 with switched := !e.2.running }) }).replyOk
          opMantelCommit p.port c false [v]))) ∧
  (∀ v, Passes opMantelArm p s u c → c.params = [v] → v ≤ 1 →
    ((u.pairHeads c.idx).foldl (fun t h => t.armHead h (decide (v = 1))) u).pwr.step ≠ .aoBoot →
    exec (.mantelArm p) s = .next (settle
      (((u.pairHeads c.idx).foldl (fun t h => t.armHead h (decide (v = 1))) u).replyOk opMantelArm p.port c false [])))

/-- MANTEL.STORE, MANTEL.READ and the CTM commands complete (R194, R216, R395). -/
def Obligations.MantelStoreAndCtmComplete : Prop :=
  ∀ (p : Pkt) (s u : State) (c : Cmd),
  (∀ ph off n k d, Passes opMantelStore p s u c → ph = c.p 0 → off = c.p 1 → n = c.p 2 → k = ceilDiv n 4 →
    d = wordBytes ((c.params.drop 3).take k) → n ≤ 960 → off + n ≤ imageBytes → (∀ b ∈ d.drop n, b = 0) →
    (ph = 0 → c.params.length = 3 + k →
      exec (.mantelStore p) s = .next (settle
        (({ u with mantel := { u.mantel with staging := some [], storeHigh := 0 } }).replyOk opMantelStore p.port c
          false [0]))) ∧
    (∀ t, ph = 1 → c.params.length = 3 + k → u.mantel.staging = some t →
      exec (.mantelStore p) s = .next (settle
        (({ u with mantel := { u.mantel with staging := some (stageBytes t off (d.take n))
                                             storeHigh := u.mantel.storeHigh + n } }).replyOk opMantelStore p.port c
          false [u.mantel.storeHigh + n]))) ∧
    (∀ t, ph = 2 → c.params.length = 4 + k → u.mantel.staging = some t → sparseCrc t imageBytes = c.p (3 + k) →
      exec (.mantelStore p) s = .next (settle
        (({ u with mantel := { u.mantel with sealing := some (p.port, c.tag) } }).inProgress p.port c))) ∧
    (∀ t, ph = 2 → c.params.length = 4 + k → u.mantel.staging = some t → sparseCrc t imageBytes ≠ c.p (3 + k) →
      exec (.mantelStore p) s = .next (settle (u.replyErr p.port c stRange)))) ∧
  (Passes opMantelRead p s u c → c.params = [] →
    exec (.mantelRead p) s = .next (settle (u.replyOk opMantelRead p.port c false
      ([u.mantel.version, b2n u.mantel.dirty, b2n u.mantel.sealed.isSome] ++
        cut 3 ((List.range 32).foldr (fun k a => a * 8 + (if u.clusterState k = 0 then 0 else (u.pair k).state)) 0) ++
        cut 4 (maskOf ((u.heads.filter (·.2.armed)).map (·.1))) ++
        words64 u.mantel.areaA ++ words64 u.mantel.areaB)))) ∧
  (∀ first n es, Passes opCtmWrite p s u c → first = c.p 0 → n = c.p 1 → 1 ≤ n → n ≤ 480 →
    c.params.length = 2 + ceilDiv n 2 → first + n ≤ 0x1000000 → es = entriesOf n (c.params.drop 2) →
    (∀ e ∈ es, e / 4096 ≤ 2) → (n % 2 = 0 ∨ c.p (1 + ceilDiv n 2) < 65536) → u.mantel.sealed = none →
    exec (.ctmWrite p) s = .next (settle
      (if 65536 < u.mantel.ctmWrites + n then u.replyErr p.port c stNoResource
       else ({ u with mantel := { u.mantel with
          pendingCtm := u.mantel.pendingCtm ++ [({ first := first, entries := es } : CtmOp)]
          ctmWrites := u.mantel.ctmWrites + n, dirty := true } }).replyOk opCtmWrite p.port c false []))) ∧
  (∀ a b e, Passes opCtmFill p s u c → c.params = [a, b, e] → e < 12288 → u.wx / 8 ≤ a % 65536 →
    a % 65536 ≤ b % 65536 → b % 65536 < u.wx / 8 + 4096 → u.wy / 8 ≤ a / 65536 % 65536 →
    a / 65536 % 65536 ≤ b / 65536 % 65536 → b / 65536 % 65536 < u.wy / 8 + 4096 → u.mantel.sealed = none →
    exec (.ctmFill p) s = .next (settle
      (if 256 ≤ u.mantel.ctmFills then u.replyErr p.port c stNoResource
       else ({ u with mantel := { u.mantel with
          pendingCtm := u.mantel.pendingCtm ++ [({
            first := (a % 65536 - u.wx / 8) + 65536 * (a / 65536 % 65536 - u.wy / 8)
            last := (b % 65536 - u.wx / 8) + 65536 * (b / 65536 % 65536 - u.wy / 8)
            fill := true, entries := [e] } : CtmOp)]
          ctmFills := u.mantel.ctmFills + 1, dirty := true } }).replyOk opCtmFill p.port c false []))) ∧
  (∀ first n, Passes opCtmRead p s u c → c.params = [first, n] → 1 ≤ n → n ≤ 480 → first + n ≤ 0x1000000 →
    (u.mantelRead (ctmPart + 2 * first) (2 * n)).2.2.pwr.step ≠ .aoBoot →
    exec (.ctmRead p) s = .next (settle
      ((u.mantelRead (ctmPart + 2 * first) (2 * n)).2.2.replyOk opCtmRead p.port c false
        (packEntries ((List.range n).map fun i =>
          ofLe (((u.mantelRead (ctmPart + 2 * first) (2 * n)).1.drop (2 * i)).take 2))))))

/-- The VERIFY commands complete (R204-R206, R210-R214, R397). -/
def Obligations.VerifyCommandsComplete : Prop :=
  ∀ (p : Pkt) (s u : State) (c : Cmd),
  (∀ n es k stale, Passes opVerifyExpect p s u c → c.params.length = 3 * n → 1 ≤ n → n ≤ 80 →
    es = (List.range n).map (expectAt c) → k = (u.head c.idx).seq →
    stale = (fun q => decide (1 ≤ seqDist k q) && decide (seqDist k q ≤ 64)) →
    (∀ i < n, bits (c.p (3 * i)) 15 8 = 0 ∧ bits (c.p (3 * i + 1)) 31 16 = 0 ∧
      (seqDist (expectAt c i).2.1 k < 64 ∨ stale (expectAt c i).2.1 = true)) →
    ((u.modHead c.idx Head.dropStale).storeRefs c.idx (es.filter fun e => !stale e.2.1) = none →
      exec (.verifyExpect p) s = .next (settle (u.replyErr p.port c stNoResource))) ∧
    (∀ t, (u.modHead c.idx Head.dropStale).storeRefs c.idx (es.filter fun e => !stale e.2.1) = some t →
      t.pwr.step ≠ .aoBoot →
      exec (.verifyExpect p) s = .next (settle (t.replyOk opVerifyExpect p.port c false
        ([n - ((List.range n).filter fun i => stale (expectAt c i).2.1).length,
          ((List.range n).filter fun i => stale (expectAt c i).2.1).length] ++
          (List.range n).filter fun i => stale (expectAt c i).2.1))))) ∧
  (∀ k th nt e a r t, Passes opVerifyReact p s u c → c.params = [k, th, nt, e, a] → k ≤ 4 → 1 ≤ th → th ≤ 16 →
    nt ≤ 2 → e ≤ 1 → a ≤ 2 → r = ({ threshold := th, notify := nt, errPin := decide (e = 1), action := a } : React) →
    t = (if c.level = 4 then [c.idx] else List.range 128).foldl
      (fun v h => v.modHead h fun d => { d with reacts := tset d.reacts k r }) u →
    t.pwr.step ≠ .aoBoot →
    exec (.verifyReact p) s = .next (settle (t.replyOk opVerifyReact p.port c false []))) ∧
  (∀ d, Passes opVerifyRelease p s u c → c.params = [] → d = u.head c.idx →
    exec (.verifyRelease p) s = .next (settle
      ((u.setHead c.idx { d with
          releasing := d.running && (decide (d.action ≠ 0) || d.pendingAction.isSome)
          action := if d.running then d.action else 0
          pendingAction := if d.running then d.pendingAction else none
          counters := [0, 0, 0, 0, 0], fired := [false, false, false, false, false] }).replyOk
        opVerifyRelease p.port c false []))) ∧
  (∀ g, Passes opVerifyTiles p s u c → c.params = [g] → g ≤ 255 →
    exec (.verifyTiles p) s = .next (settle
      ((u.modHead c.idx fun d => { d with tilesReq := addTo d.tilesReq g }).replyOk opVerifyTiles p.port c false []))) ∧
  (∀ e, Passes opVerifyEcho p s u c → c.params = [e] → e ≤ 1 →
    exec (.verifyEcho p) s = .next (settle
      ((u.modHead c.idx fun d => { d with echo := decide (e = 1), echoResult := if e = 1 then 3 else 0
                                          echoIdle := 0, testCrcs := [] }).replyOk opVerifyEcho p.port c false
        [b2n (!u.echoAble c.idx)]))) ∧
  (∀ a b, Passes opVerifySafefill p s u c → c.params = [a, b] → a &&& 0xF000F000 = 0 → b ≤ 0xFFF →
    exec (.verifySafefill p) s = .next (settle
      ((u.modHead c.idx fun d => { d with safe := [a % 4096, a / 65536 % 4096, b] }).replyOk opVerifySafefill p.port c
        false []))) ∧
  (∀ d, Passes opVerifyRead p s u c → c.params = [] → d = u.head c.idx →
    exec (.verifyRead p) s = .next (settle (u.replyOk opVerifyRead p.port c false
      (d.counters ++ (List.range 5).flatMap (fun k =>
        [k, (d.reaction k).threshold, (d.reaction k).notify, b2n (d.reaction k).errPin, (d.reaction k).action]) ++
        [d.action]))))

/-- The FAULT and IRQ commands complete (R398, R399, R463, R467, R468, R470, R476). -/
def Obligations.FaultAndIrqCommandsComplete : Prop :=
  ∀ (p : Pkt) (s u : State) (c : Cmd),
  (∀ b r, Passes opFaultRead p s u c → c.params = [b] → (c.level = 2 ∨ b < 16) → r = u.frec c.record →
    exec (.faultRead p) s = .next (settle (u.replyOk opFaultRead p.port c false
      (words64 r.sticky.toNat ++ words64 r.live.toNat ++
        [if r.firstValid then r.firstSrc + 0x8000 else 0, r.firstTime % 2 ^ 32, r.firstTime / 2 ^ 32 % 2 ^ 32,
         r.firstSyn])))) ∧
  (∀ b lo hi r m, Passes opFaultClear p s u c → c.params = [b, lo, hi] → (c.level = 2 ∨ b < 16) →
    r = u.frec c.record → m = BitVec.ofNat 64 (lo + hi * 2 ^ 32) →
    exec (.faultClear p) s = .next (settle
      ((u.setFrec c.record { r with
          sticky := r.sticky &&& ~~~(m &&& ~~~r.live)
          firstValid := r.firstValid && decide (r.sticky &&& ~~~(m &&& ~~~r.live) ≠ 0) }).replyOk
        opFaultClear p.port c false (words64 (r.sticky &&& m &&& ~~~r.live).toNat)))) ∧
  (∀ n w, Passes opFaultReact p s u c → c.params = [n, w] → srcReserved n = false → u.srcAbsent n = false →
    srcVerify n = false → reactionOk n w = true →
    exec (.faultReact p) s = .next (settle
      (({ u with faults := { u.faults with reacts := tset u.faults.reacts n (w, 1) } }).replyOk opFaultReact p.port c
        false []))) ∧
  (∀ w, Passes opFaultBark p s u c → c.params = [w] →
    exec (.faultBark p) s = .next (settle
      (if 2 ≤ w ∧ w ≤ 250 then
        ({ u with faults := { u.faults with bark := w } }).replyOk opFaultBark p.port c false []
       else u.replyErr p.port c stRange))) ∧
  (∀ n, Passes opFaultInject p s u c → c.params = [n] → srcReserved n = false → u.srcAbsent n = false →
    exec (.faultInject p) s = .next (settle
      (if (u.inject n).pwr.step = .aoBoot then u.inject n
       else (u.inject n).replyOk opFaultInject p.port c false []))) ∧
  (∀ n w, Passes opIrqRoute p s u c → c.params = [n, w] → u.srcLive n → u.frozenFor c (n / 256) = false →
    (rProtected (u.react n) = true → c.cls = clsS ∧ bits w 1 0 ≠ 3 ∧ w ≤ 32767) → urgentVector w = false →
    exec (.irqRoute p) s = .next (settle
      (({ u with irq := { u.irq with target := tset u.irq.target n (min 2 (w % 4) + w / 4 % 8192 * 4) } }).replyOk
        opIrqRoute p.port c (decide (w % 32768 ≠ min 2 (w % 4) + w / 4 % 8192 * 4))
        [n, min 2 (w % 4) + w / 4 % 8192 * 4]))) ∧
  (∀ n m, Passes opIrqMask p s u c → c.params = [n, m] → u.srcLive n →
    (rProtected (u.react n) = true → c.cls = clsS ∧ m ≤ 1) →
    exec (.irqMask p) s = .next (settle
      (({ u with irq := { u.irq with mask :=
          if m ≠ 0 then u.irq.mask ||| ((1 : BitVec 512) <<< n) else u.irq.mask &&& ~~~((1 : BitVec 512) <<< n) } }).replyOk
        opIrqMask p.port c (decide (m ≠ min 1 m)) [n, min 1 m]))) ∧
  (∀ g t, Passes opIrqHoldoff p s u c → c.params = [g, t] → g < 16 → u.dieState (g / 8) ≠ 0 →
    u.frozenFor c (g / 8) = false →
    exec (.irqHoldoff p) s = .next (settle
      (({ u with irq := { u.irq with holdoff := tset u.irq.holdoff g (min 65535 t) } }).replyOk opIrqHoldoff p.port c
        (decide (t ≠ min 65535 t)) [g, min 65535 t]))) ∧
  (∀ a n, Passes opIrqRead p s u c → c.params = [a] → n = min 480 (a / 32 * 32) →
    exec (.irqRead p) s = .next (settle (u.replyOk opIrqRead p.port c (decide (n ≠ a))
      ([u.srcBits u.irq.pend n, u.srcBits u.irq.mask n] ++ (List.range 32).map fun i => tget 0 u.irq.target (n + i)))))

/-- The DMA, TELEM and WEAR commands complete (R156, R400, R401, R453, R499-R503). -/
def Obligations.DmaAndTelemetryCommandsComplete : Prop :=
  ∀ (p : Pkt) (s u : State) (c : Cmd),
  (∀ ch o, Passes opDmaOwn p s u c → c.params = [ch, o] → ch ≤ 31 → u.chanState ch = 1 → o ≤ 17 →
    (c.cls = clsS ∨ o ≠ 0 ∧ (u.chan ch).owner ≠ 0) → (u.chan ch).state ∉ [1, 2, 3] → (u.chan ch).stopping = false →
    exec (.dmaOwn p) s = .next (settle
      ((u.setChan ch { (u.chan ch).toIdle with owner := o, pause := (u.chan ch).pause }).replyOk opDmaOwn p.port c
        false [ch, o]))) ∧
  (∀ ch r v, Passes opDmaSetup p s u c → c.params = [ch, r, v] → ch ≤ 31 → u.mayWrite 3 ch c.master →
    u.chanState ch = 1 →
    exec (.dmaSetup p) s = .next (settle
      ((u.modChan ch fun k => { k with maxRetries := min 15 r, unit := min 3 v }).replyOk opDmaSetup p.port c
        (decide ([r, v] ≠ [min 15 r, min 3 v])) [ch, min 15 r, min 3 v]))) ∧
  (∀ t w, Passes opDmaToken p s u c → c.params = [t, 0, w] → t ≤ 255 →
    exec (.dmaToken p) s = .next (settle (u.replyOk opDmaToken p.port c false [tget 0 u.tokens t]))) ∧
  (∀ t w, Passes opDmaToken p s u c → c.params = [t, 1, w] → t ≤ 255 →
    exec (.dmaToken p) s = .next (settle
      (({ u with tokens := tset u.tokens t (min 65535 w) }).replyOk opDmaToken p.port c (decide (65535 < w))
        [min 65535 w]))) ∧
  (∀ ch on t, Passes opDmaPause p s u c → c.params = [ch, on] → ch ≤ 31 → u.mayWrite 3 ch c.master →
    u.chanState ch = 1 → t = u.setPause ch (decide (on ≠ 0)) →
    exec (.dmaPause p) s = .next (settle
      (if (t.chan ch).state = 2 then t.inProgress p.port c
       else t.replyOk opDmaPause p.port c (decide (1 < on))
         (words64 (t.chan ch).src ++ words64 (t.chan ch).dst ++ [(t.chan ch).remain])))) ∧
  (∀ ch k, Passes opDmaRead p s u c → c.params = [ch] → ch ≤ 31 → u.mayRead 3 ch c.master → u.chanState ch = 1 →
    k = u.chan ch →
    exec (.dmaRead p) s = .next (settle (u.replyOk opDmaRead p.port c false
      ([k.state, k.owner] ++ (words64 k.src ++ words64 k.dst ++ [k.remain]))))) ∧
  (∀ x i, Passes opTelemRead p s u c → c.params = [x, i] → u.telemUnit (min 5 x) i = 1 →
    exec (.telemRead p) s = .next (settle (({ u with freeCtr := u.freeCtr + 2 }).replyOk opTelemRead p.port c (decide (min 5 x ≠ x))
      (u.telemWords (min 5 x) i)))) ∧
  (∀ lo hi sz pe st, Passes opTelemPush p s u c → c.params = [lo, hi, sz, pe, st] →
    exec (.telemPush p) s = .next (settle
      (({ u with telem := { u.telem with
          ringBase := lo + hi * 2 ^ 32, ringSize := clampN 4096 1048576 sz, period := min 10000 pe, sets := st % 64
          ringOff := 64, ringN := 0, pushMaster := c.master } }).replyOk opTelemPush p.port c
        (decide ([sz, pe] ≠ [clampN 4096 1048576 sz, min 10000 pe]))
        [lo, hi, clampN 4096 1048576 sz, min 10000 pe, st % 64]))) ∧
  (∀ n lo hi src, Passes opTelemLimit p s u c → c.params = [n, lo, hi, src] → n < 72 →
    (if n < 64 then u.dieState (n / 32) else u.regionState (n - 64)) ≠ 0 → limitOk n lo → limitOk n hi →
    limitOf n lo ≤ limitOf n hi → 224 ≤ src % 256 → src < 512 → srcReserved src = false → u.srcAbsent src = false →
    exec (.telemLimit p) s = .next (settle
      (({ u with telem := { u.telem with
          limits := tset u.telem.limits n (limitOf n lo, limitOf n hi, src)
          crossed := dropOf u.telem.crossed n } }).replyOk opTelemLimit p.port c false []))) ∧
  (Passes opWearOrbit p s u c → c.params.length = 2 → u.mayWrite 2 c.idx c.master → u.mantelInView c.idx = false →
    exec (.wearOrbit p) s = .next (settle (u.submitted p.port c))) ∧
  (∀ port a m t, Judged opWearOrbit s u port c → c.params = [a, m] →
    t = u.modHead c.idx (fun h => { h with orbitA := min 4 a, orbitP := clampN 1 3600 m, orbitOff := false }) →
    admissionFails u t = none →
    exec .admissionComplete s = .next (settle (t.replan.finish port c
      [replyWord stOk (decide ([a, m] ≠ [min 4 a, clampN 1 3600 m])) 0, min 4 a, clampN 1 3600 m]))) ∧
  (∀ v, Passes opWearCap p s u c → c.params = [v] → u.mayWrite 2 c.idx c.master →
    exec (.wearCap p) s = .next (settle
      ((u.modHead c.idx fun h => { h with cap := min 16777215 v }).replyOk opWearCap p.port c
        (decide (v ≠ min 16777215 v)) [min 16777215 v]))) ∧
  (∀ a b h first n, Passes opWearRead p s u c → c.params = [a, b] → u.mayRead 2 c.idx c.master → h = u.head c.idx →
    first = min a (h.blocks - 1) → n = min (clampN 1 120 b) (h.blocks - first) →
    exec (.wearRead p) s = .next (settle (u.replyOk opWearRead p.port c (decide ([first, n] ≠ [a, b]))
      ((List.range n).flatMap fun i => [tget 0 h.dwell (first + i), tget 0 h.lum (first + i)]))))

/-- The REPAIR, CASC and SVC commands complete (R291, R368, R402, R481, R510, R547-R549). -/
def Obligations.RepairCascadeServiceCommandsComplete : Prop :=
  ∀ (p : Pkt) (s u : State) (c : Cmd),
  (∀ a n, Passes opRepairLedger p s u c → c.params = [a, n] →
    exec (.repairLedger p) s = .next (settle (u.replyOk opRepairLedger p.port c (decide (clampN 1 60 n ≠ n))
      ((u.repair.ledger.drop a).take (clampN 1 60 n)).flatten))) ∧
  (∀ k i t, Passes opRepairRetire p s u c → c.params = [k, i] → u.retireUnit (min 3 k) i = 1 →
    t = u.retireKind (min 3 k) i → t.pwr.step ≠ .aoBoot →
    exec (.repairRetire p) s = .next (settle (t.replyOk opRepairRetire p.port c (decide (min 3 k ≠ k))
      [t.retireUnit (min 3 k) i]))) ∧
  (Passes opRepairClear p s u c → c.params = [] →
    exec (.repairClear p) s = .next (settle
      (({ u with repair := { u.repair with cleared := true } }).replyOk opRepairClear p.port c false
        [(u.repair.ledger.filter fun e => decide (0x10 ≤ entryKind e)).length]))) ∧
  (∀ v w, Passes opCascCeiling p s u c → p.port = 16 → c.params = [v] → w = (if v < 4 then v else 0) →
    exec (.cascCeiling p) s = .next (settle
      (if u.casc.cRun = true ∧ u.casc.ceiling < w then u.replyErr p.port c stBusy
       else ({ u with casc := { u.casc with ceiling := w } }).replyOk opCascCeiling p.port c (decide (v ≠ w)) [w]))) ∧
  (∀ v t, Passes opCascDeputy p s u c → p.port = 16 → c.params = [v] →
    t = ({ u with casc := { u.casc with
          deputy := deputyOf v, handback := u.casc.handback || (u.role = 3 && deputyOf v = 255) } } : State) →
    exec (.cascDeputy p) s = .next (settle
      ((if u.role = 3 ∧ deputyOf v = 255 ∧ u.casc.handback = false then t.handOver else t).replyOk
        opCascDeputy p.port c (decide (v ≠ deputyOf v)) [deputyOf v]))) ∧
  (Passes opCascRead p s u c → c.params = [] →
    exec (.cascRead p) s = .next (settle (u.replyOk opCascRead p.port c false
      ([u.role, u.masterId, u.masterHops, u.casc.ceiling] ++ (List.range 8).flatMap fun b =>
        [((u.birton b).partner.map (·.pkg)).getD 255, (u.birton b).lanes, (u.birton b).rate, u.birtonCode b])))) ∧
  (∀ v, Passes opSvcExit p s u c → c.params = [v] → u.pwr.state = .service →
    exec (.svcExit p) s = .next (settle
      (({ u with pwr := { u.pwr with target := some (if v = 0 then .ready else .active), cause := 0x1601
                                     pendingWake := false } }).replyOk opSvcExit p.port c
        (decide (min 1 v ≠ v)) [min 1 v]))) ∧
  (∀ k i, Passes opSvcBist p s u c → c.params = [k, i] → (if 3 ≤ k then c.level = 1 else c.level = 3) →
    u.bistUnit c = 1 → ∃ ok sig, ok ≤ 1 ∧ sig < 2 ^ 32 ∧
    exec (.svcBist p) s = .next (settle
      (({ u with freeCtr := u.freeCtr + 1 }).replyOk opSvcBist p.port c (decide (3 < k)) [ok, sig]))) ∧
  (∀ r v, Passes opSvcClkobs p s u c → c.params = [r, v] →
    exec (.svcClkobs p) s = .next (settle
      ((u.modSynth (synthOfRecord c.idx (min 69 r)) fun y => { y with fb1Div := clampN 1 64 v, fb1En := true }).replyOk
        opSvcClkobs p.port c (decide ([r, v] ≠ [min 69 r, clampN 1 64 v])) [min 69 r, clampN 1 64 v]))) ∧
  (∀ n r, Passes opSvcMemread p s u c → c.params.length = 3 → n = clampN 1 224 (c.p 2) →
    r = (blocksOf (c.p64 0) (4 * n)).foldl (fun (a : List Byte × List Nat × State) b =>
      (a.1 ++ (a.2.2.memBlock b.1 b.2).1, a.2.1 ++ [(a.2.2.memBlock b.1 b.2).2.1], (a.2.2.memBlock b.1 b.2).2.2))
      ([], [], u) →
    r.2.2.pwr.step ≠ .aoBoot →
    exec (.svcMemread p) s = .next (settle (r.2.2.replyOk opSvcMemread p.port c (decide (n ≠ c.p 2))
      (ofLeWords r.1 ++ r.2.1))))

/-- The transactions of the S-port complete (R345, R351, R363-R365, R508, R512). -/
def Obligations.SerialPortTransactionsComplete : Prop :=
  ∀ (s : State) (bytes : List Byte) (n : Nat) (code : Byte),
  (s.sOn = true → s.asleep = false → s.accepts 16 0 = true → (s.port 16).room = true → (s.port 16).rx = [] →
    exec (.send bytes) s = .next (settle (s.runBytes 16 0 0 bytes)) ∧
    exec (.sendQuad bytes) s = .next (settle (s.runBytes 16 0 0 bytes))) ∧
  (s.sOn = true → s.asleep = false → s.accepts 16 0 = true → (s.port 16).room = false →
    exec (.send bytes) s = .next (settle
      (({ s with ports := tset s.ports 16 { s.port 16 with overflow := true } }).detect (dieRec 0 10) 3 0)) ∧
    exec (.sendQuad bytes) s = exec (.send bytes) s) ∧
  (s.sOn = true → s.asleep = false → s.bureauUp = true → s.cfg.testMode = false →
    (∀ b, s.nextBytes 16 = some b →
      exec (.receive n) s = .next (settle
        (let t : State := { s with shifted := (b ++ List.replicate (n - b.length) 0xFF).take n }
         if b.length ≤ n then t.modPort 16 fun q => q.number.delivered else t))) ∧
    (s.nextBytes 16 = none →
      exec (.receive n) s = .next (settle
        { s with shifted := (List.replicate 16 (0 : Byte) ++ List.replicate (n - 16) 0xFF).take n })) ∧
    exec (.receiveQuad n) s = exec (.receive n) s) ∧
  (s.sOn = true → s.asleep = false →
    exec .status s = .next (settle
      (({ s with shifted := leBytes 4 s.statusWord }).modPort 16 fun q => { q with overflow := false, framed := false }))) ∧
  (s.sOn = true → s.asleep = false → s.bureauUp = true → code.toNat ∉ [0x02, 0x32, 0x0B, 0x6B, 0x05] →
    exec (.sPortInvalidInstruction code) s = .next (settle
      ((s.modPort 16 fun q => { q with framing := q.framing + 1, framed := true }).detect (dieRec 0 10) 0 0))) ∧
  (s.sOn = true → s.asleep = true →
    exec (.send bytes) s = .next (settle (s.wake 1)) ∧ exec (.receive n) s = .next (settle (s.wake 1)))

/-- The transactions of the test access port, and two steps at rest, complete (R160, R366, R377, R563). -/
def Obligations.TestPortTransactionsComplete : Prop :=
  ∀ (s : State) (bytes : List Byte) (bs : List Bool) (port : Nat),
  (s.pwr.aoIoGood = true →
    exec .idcode s = .next (settle { s with
      shifted := leBytes 4 (s.cfg.step0 % 16 * 2 ^ 28 + s.part % 65536 * 2 ^ 12 + 0x2B5 * 2 + 1)
      pwr := { s.pwr with boundary := [] } }) ∧
    exec (.bypass bs) s = .next (settle { s with
      shifted := packBits (false :: bs.dropLast), pwr := { s.pwr with boundary := [] } }) ∧
    (s.pwr.state = .service → ∀ t, t = s.shiftOut 17 (min 1028 bytes.length) [] →
      exec (.svcPacket bytes) s = .next (settle
        (({ t with pwr := { t.pwr with boundary := [] } }).arrive 17 0 0 (bytes.take 1028)))) ∧
    (s.pwr.state ≠ .service → exec (.svcPacket bytes) s = exec (.bypass (unpackBits bytes)) s) ∧
    (s.pwr.state = .service → ∃ captured : List Byte, captured.length = ceilDiv bs.length 8 ∧
      exec (.extest bs) s = .next (settle { s with
        shifted := captured, freeCtr := s.freeCtr + 1, pwr := { s.pwr with boundary := bs } })) ∧
    (s.pwr.state ≠ .service → exec (.extest bs) s = exec (.bypass bs) s)) ∧
  (port ≠ 16 → s.accepts port (s.casc.upstream.getD 0) = true → (s.port port).room = true → (s.port port).rx = [] →
    exec (.unknownOpcode port bytes) s = .next (settle
      (s.runBytes port (s.casc.upstream.getD 0) clsH bytes))) ∧
  (exec (.unknownOpcode 16 bytes) s = exec (.send bytes) s) ∧
  (s.admQ = [] → exec .admissionComplete s = .next (settle s))

/-- The doorbells of a function complete (R360, R361, R426, R428). -/
def Obligations.RingDoorbellsComplete : Prop :=
  ∀ (s u : State) (fn unit vec : Nat) (host : List Byte) (val : Word), fn < 16 →
  (∀ n len, WritesReg s u fn 0 (doorOff fn 0x0C) ⟨0, 16 + fn, 0x0C⟩ → (u.door fn).enabled = true →
    n = ringUnits (u.door fn).sqSize → len = 16 * ringDist n (u.door fn).sqHead unit →
    (unit < n → ringDist n (u.door fn).sqTail unit ≤ ((u.door fn).sqHead + n - 1 - (u.door fn).sqTail) % n →
      (bit (u.door fn).ctrl 1 = false → host.length = len →
        exec (.sqTail fn unit host) s = .next (settle
          ((u.modDoor fn fun d => { d with sqTail := unit }).modPort fn fun q =>
            { q with rx := ringPackets (len / 16 + 1) host }))) ∧
      (bit (u.door fn).ctrl 1 = true →
        ∀ r, r = u.readRing fn (ringSpans (u.door fn).sqBase.toNat (u.door fn).sqSize (u.door fn).sqHead len) →
        exec (.sqTail fn unit host) s = .next (settle
          ((r.2.modDoor fn fun d => { d with sqTail := unit }).modPort fn fun q =>
            { q with rx := ringPackets (r.1.length / 16 + 1) r.1 })))) ∧
    (n ≤ unit → exec (.sqTail fn unit host) s = .next (settle (u.accessError 0 (doorOff fn 0x0C) fn 5)))) ∧
  (WritesReg s u fn 0 (doorOff fn 0x20) ⟨0, 16 + fn, 0x20⟩ → (u.door fn).enabled = true →
    (unit < ringUnits (u.door fn).cqSize →
      ringDist (ringUnits (u.door fn).cqSize) (u.door fn).cqHead unit ≤
        ringDist (ringUnits (u.door fn).cqSize) (u.door fn).cqHead (u.door fn).cqTail →
      exec (.cqHead fn unit) s = .next (settle (u.modDoor fn fun d => { d with cqHead := unit }))) ∧
    (ringUnits (u.door fn).cqSize ≤ unit →
      exec (.cqHead fn unit) s = .next (settle (u.accessError 0 (doorOff fn 0x20) fn 5)))) ∧
  (∀ path, WritesReg s u path 0 (doorOff fn 0x2C) ⟨0, 16 + fn, 0x2C⟩ →
    (bit val.toNat 0 = true → (u.door fn).enabled = false →
      exec (.ringCtrlWrite path fn val) s = .next (settle
        ((u.setDoor fn { u.door fn with
            ctrl := val.toNat % 16, sqHead := 0, sqTail := 0, cqHead := 0, cqTail := 0 }).modPort fn fun q =>
          { q with rx := [] }))) ∧
    (bit val.toNat 0 = true → (u.door fn).enabled = true →
      exec (.ringCtrlWrite path fn val) s = .next (settle (u.setDoor fn { u.door fn with ctrl := val.toNat % 16 }))) ∧
    (bit val.toNat 0 = false → (u.port fn).busy = false →
      exec (.ringCtrlWrite path fn val) s = .next (settle (u.setDoor fn { u.door fn with ctrl := val.toNat % 16 }))) ∧
    (bit val.toNat 0 = false → (u.port fn).busy = true →
      exec (.ringCtrlWrite path fn val) s = .next (settle (u.accessError 0 (doorOff fn 0x2C) path 9)))) ∧
  (WritesReg s u fn 0 (doorOff fn 0x50) ⟨0, 16 + fn, 0x50⟩ →
    exec (.irqAck fn vec) s = .next (settle (u.modDoor fn fun d =>
      { d with insvc := d.insvc &&& ~~~((1 : BitVec 128) <<< (vec % 128)) })))

/-- The commands of the PCIe link complete (R345, R362, R420, R427, R466, R472, R573). -/
def Obligations.PcieCommandsComplete : Prop :=
  ∀ (s : State) (fn n off len v : Nat) (data : List Byte),
  (fn < 16 → s.portLive fn = true → exec (.functionLevelReset fn) s = .next (settle (s.endSession fn))) ∧
  (exec (.vfDisable n) s = .next (settle (s.keepVfs n))) ∧
  (s.regs.pcieUp = true → exec (.pcieLinkDown) s = .next (settle
    (let t := (List.range 16).foldl (fun t k => if t.portLive k then t.endSession k else t) s
     ({ t with regs := { t.regs with pcieUp := false } }).detect (dieRec 0 13) 2 0))) ∧
  (fn < 16 → s.portLive fn = true →
    exec (.busMasterEnableClear fn) s = .next (settle (s.modDoor fn fun d => { d with bme := false })) ∧
    exec (.busMasterEnableSet fn) s = .next (settle (s.modDoor fn fun d => { d with bme := true }))) ∧
  (s.bureauUp = true →
    exec .pcieLinkUp s = .next (settle { s with regs := { s.regs with pcieUp := true } })) ∧
  (s.regs.pcieUp = true → exec (.vfEnable n) s = .next (settle
    { s.keepVfs n with regs := { (s.keepVfs n).regs with numVfs := min 15 n } })) ∧
  (fn < 16 →
    exec (.msiXTargetWake fn none) s = .next (settle (s.modDoor fn fun d => { d with d3hot := false })) ∧
    exec (.msiXTargetWake fn (some v)) s = .next (settle (s.modDoor fn fun d =>
      { d with vecMask := d.vecMask &&& ~~~((1 : BitVec 128) <<< (v % 128)) }))) ∧
  (fn < 16 → s.portLive fn = true → s.hbmStep = false →
    ((s.door fn).bar2Ok off len = true → ∀ r,
      r = (blocksOf ((s.door fn).bar2At off) len).foldl (fun (acc : List Byte × State) b =>
        let x := acc.2.bar2Block fn b.1 b.2
        (acc.1 ++ x.1, x.2)) ([], s) →
      exec (.bar2Read fn off len) s = .next (settle (r.2.returned (32 + fn) (ofLe r.1)))) ∧
    ((s.door fn).bar2Ok off len = false →
      exec (.bar2Read fn off len) s = .next (settle (s.returned (32 + fn) (ofLe (List.replicate len 0xFF))))) ∧
    ((s.door fn).bar2Ok off data.length = true →
      exec (.bar2Write fn off data) s = .next (settle (s.write ((s.door fn).bar2At off) data (hostReq fn)).2))) ∧
  (fn < 16 → s.portLive fn = true → s.hbmStep = true →
    exec (.bar2Read fn off len) s = .next (settle (s.returned (32 + fn) (2 ^ (8 * len) - 1))) ∧
    exec (.bar2Write fn off data) s = .next (settle s))

/-- A register write, the lock and the indirect pair complete (R436-R438, R442). -/
def Obligations.LockAndIndirectPairComplete : Prop :=
  ∀ (s u : State) (path die off be fn : Nat) (val : Word) (wide : DWord),
  (off < 0x4000000 → exec (.registerWrite 0 off be wide) s = .next (settle
    ((s.regWrite 0 0 (off / 4 * 4) (lo32 wide.toNat) (be % 16)).regWrite 0 0 (off / 4 * 4 + 4) (hi32 wide.toNat)
      (be / 16 % 16)))) ∧
  (0 < fn → fn < 16 → off < 0x10000 → exec (.registerWrite fn off be wide) s = .next (settle
    ((s.regWrite fn 0 ((0x100000 + 0x10000 * fn + off) / 4 * 4) (lo32 wide.toNat) (be % 16)).regWrite fn 0
      ((0x100000 + 0x10000 * fn + off) / 4 * 4 + 4) (hi32 wide.toNat) (be / 16 % 16)))) ∧
  (WritesReg s u path die 0x10010 ⟨die, 1, 0x10⟩ →
    exec (.cfgLockLock path die val) s = .next (settle
      (if bit val.toNat 0 then { u with regs := { u.regs with locked := addTo u.regs.locked die } } else u))) ∧
  (WritesReg s u path die 0x10000 ⟨die, 1, 0⟩ →
    exec (.iaAddrWrite path die val) s = .next (settle
      ((u.iaSettle die).modIa die fun p => { p with
        addr := val.toNat % 0x10000000 / 4 * 4
        stride := if bits val.toNat 30 28 = 4 then 4 else 0
        owner := path }))) ∧
  (WritesReg s u path die 0x10004 ⟨die, 1, 4⟩ →
    (((u.iaSettle die).ia die).owner = path →
      exec (.iaDataWrite path die val) s = .next (settle
        (((u.iaSettle die).iaWrite die ((u.iaSettle die).ia die).addr val.toNat path).modIa die fun p =>
          ({ p with busy := true, data := val.toNat } : Ia).advance))) ∧
    (((u.iaSettle die).ia die).owner ≠ path →
      exec (.iaDataWrite path die val) s = .next (settle
        (((u.iaSettle die).iaRefuse die path).modIa die Ia.advance)))) ∧
  (ReadsReg s path die 0x10004 ⟨die, 1, 4⟩ →
    (((s.iaSettle die).ia die).owner = path → ∀ r, r = (s.iaSettle die).iaRead die ((s.iaSettle die).ia die).addr →
      exec (.iaDataRead path die) s = .next (settle
        ((r.2.2.modIa die fun p => ({ p with gated := p.gated || r.2.1, data := r.1 } : Ia).advance).returned path
          r.1))) ∧
    (((s.iaSettle die).ia die).owner ≠ path →
      exec (.iaDataRead path die) s = .next (settle
        ((((s.iaSettle die).iaRefuse die path).modIa die Ia.advance).returned path 0))) ∧
    (∀ t, t = advance 10000 (s.iaSettle die) → (t.ia die).owner = path →
      exec (.indirectReadTimeout path die) s = .next (settle
        ((((t.modIa die fun p => { p with timeout := true }).accessError die (t.ia die).addr path 8).modIa die
          Ia.advance).returned path 0xFFFFFFFF)))) ∧
  (exec (.indirectWriteComplete die) s = .next (settle (s.modIa die fun p => { p with busy := false })))

/-- Complement pairs complete (R432-R434). -/
def Obligations.ComplementPairsComplete : Prop :=
  ∀ (s u : State) (path die : Nat) (val comp : Word), s.regs.pairs = [] → comp = ~~~val →
  (∀ idx, idx < 256 → WritesReg s s path die (0x20000 + 8 * idx) ⟨die, 2, 8 * idx⟩ →
    s.regTarget die (0x20000 + 8 * idx + 4) = some ⟨die, 2, 8 * idx + 4⟩ → s.isLocked die = false →
    s.srcLive (256 * die + idx) = true → srcVerify (256 * die + idx) = false →
    reactionOk (256 * die + idx) (val.toNat % 32) = true →
    exec (.faultReactPair path die idx val comp) s = .next (settle
      (s.setReact (256 * die + idx) (val.toNat % 32)))) ∧
  (WritesReg s s path die 0x20800 ⟨die, 2, 0x800⟩ → s.regTarget die 0x20804 = some ⟨die, 2, 0x804⟩ →
    s.isLocked die = false → 2 ≤ val.toNat % 256 → val.toNat % 256 ≤ 250 →
    exec (.barkWidthPair path die val comp) s = .next (settle
      { s with faults := { s.faults with bark := val.toNat % 256 } })) ∧
  (WritesReg s s path 0 0x20810 ⟨0, 2, 0x810⟩ → s.regTarget 0 0x20814 = some ⟨0, 2, 0x814⟩ →
    bit val.toNat 0 = true → s.faults.errLow = true → s.barkOver = true →
    exec (.errRel path val comp) s = .next (settle
      { s with faults := { s.faults with errLow := false, pulseDone := true }
               pwr := { s.pwr with errHeld := false } })) ∧
  (∀ idx, idx < 256 → WritesReg s u path die (0x20000 + 8 * idx) ⟨die, 2, 8 * idx⟩ → u.isLocked die = false →
    exec (.complementPairOpen path die (0x20000 + 8 * idx) val) s = .next (settle
      { u with regs := { u.regs with pairs :=
        [{ master := path, die, off := 0x20000 + 8 * idx, value := val, at_ := u.now }] } })) ∧
  (∀ t p, t.openPair path die = some p →
    exec (.complementPairTimeout path die) t = .next (settle ((advanceTo (p.at_ + 64000) t).dropPair path die 2)))

/-- Registers of interrupts, faults and latched times complete (R423, R425, R430, R431, R443). -/
def Obligations.InterruptAndFaultRegistersComplete : Prop :=
  ∀ (s u : State) (path die idx rec fn : Nat) (val : Word),
  (idx < 256 → WritesReg s u path die (0x40800 + 8 * idx) ⟨die, 4, 0x800 + 8 * idx⟩ →
    rProtected (u.react (256 * die + idx)) = false → u.isLocked die = false →
    exec (.irqTargetWrite path die idx val) s = .next (settle (u.setTarget (256 * die + idx) val.toNat))) ∧
  (∀ n t, n < 8 → WritesReg s u path die (0x40020 + 4 * n) ⟨die, 4, 0x20 + 4 * n⟩ →
    t = (List.range 32).foldl (fun t i =>
      if u.srcLive (256 * die + 32 * n + i) ∧ !rProtected (u.react (256 * die + 32 * n + i)) then
        t.setMask (256 * die + 32 * n + i) (bit val.toNat i) else t) u →
    exec (.irqMaskRegisterWrite path die n val) s = .next (settle
      (if (List.range 32).any fun i => u.srcLive (256 * die + 32 * n + i) &&
          rProtected (u.react (256 * die + 32 * n + i)) &&
          (u.irq.mask.getLsbD (256 * die + 32 * n + i) != bit val.toNat i)
       then t.accessError die (0x40020 + 4 * n) path 6 else t))) ∧
  (∀ r hi, rec < 40 → u.recLive rec = true →
    WritesReg s u path (recReg rec 0).1 (recReg rec (if hi then 4 else 0)).2 r →
    r = ⟨(recReg rec 0).1, (recReg rec (if hi then 4 else 0)).2 / 65536, (recReg rec (if hi then 4 else 0)).2 % 65536⟩ →
    exec (.fcStickyClear path rec hi val) s = .next (settle
      (u.modFrec rec (·.clear (BitVec.ofNat 64 (if hi then val.toNat * 2 ^ 32 else val.toNat)))))) ∧
  (ReadsReg s path die 0x10 ⟨die, 0, 0x10⟩ →
    exec (.accErrRead path die) s = .next (settle
      ((s.setAccErr die { s.accErr die with count := 0 }).returned path (s.accErr die).count))) ∧
  (fn < 16 → ReadsReg s path 0 (doorOff fn 0x30) ⟨0, 16 + fn, 0x30⟩ →
    exec (.fnStatRead path fn) s = .next (settle
      ((s.setDoor fn { s.door fn with framing := 0, access := 0 }).returned path
        ((s.door fn).framing + 256 * (s.door fn).access)))) ∧
  (ReadsReg s path die 0x08 ⟨die, 0, 0x08⟩ →
    exec (.devTimeLoRead path die) s = .next (settle
      ((s.latch path .devTime (hi32 s.ticks)).returned path (lo32 s.ticks)))) ∧
  (∀ r, rec < 40 → s.recLive rec = true → ReadsReg s path (recReg rec 0).1 (recReg rec 0x1C).2 r →
    r = ⟨(recReg rec 0).1, (recReg rec 0x1C).2 / 65536, (recReg rec 0x1C).2 % 65536⟩ →
    exec (.fcFirstTimeLoRead path rec) s = .next (settle
      ((s.latch path (.fcFirst rec) (hi32 (s.frec rec).firstTime)).returned path (lo32 (s.frec rec).firstTime)))) ∧
  (∀ v, ReadsReg s path 0 0x0C ⟨0, 0, 0x0C⟩ → v = s.unlatch path .devTime (hi32 s.ticks) →
    exec (.latchedHighRead path .devTime) s = .next (settle (v.2.returned path v.1))) ∧
  (∀ r v, rec < 40 → s.recLive rec = true → ReadsReg s path (recReg rec 0).1 (recReg rec 0x20).2 r →
    r = ⟨(recReg rec 0).1, (recReg rec 0x20).2 / 65536, (recReg rec 0x20).2 % 65536⟩ →
    v = s.unlatch path (.fcFirst rec) (hi32 (s.frec rec).firstTime) →
    exec (.latchedHighRead path (.fcFirst rec)) s = .next (settle (v.2.returned path v.1)))

/-- The registers of channels and check-value units complete (R440, R441, R450, R451, R457, R458). -/
def Obligations.ChannelAndCheckUnitRegistersComplete : Prop :=
  ∀ (s u : State) (path ch un be : Nat) (val : Word), ch < 32 → un < 8 →
  (WritesReg s u path (ch / 16) (0x10000 * (32 + ch % 16) + 8) ⟨ch / 16, 32 + ch % 16, 8⟩ →
    exec (.dmaDoorbell path ch val) s = .next (settle (if bit val.toNat 0 then u.doorbell ch else u))) ∧
  (∀ hi, WritesReg s u path (ch / 16) (0x10000 * (32 + ch % 16) + if hi then 4 else 0)
      ⟨ch / 16, 32 + ch % 16, if hi then 4 else 0⟩ →
    (u.chan ch).stopping = false → (u.chan ch).state ∈ [0, 4, 5, 6] →
    exec (.dmaChainWrite path ch hi val) s = .next (settle
      (u.setChan ch { (u.chan ch).toIdle with
        pause := (u.chan ch).pause
        chain := (half (BitVec.ofNat 64 (u.chan ch).chain) hi fun _ =>
          if hi then val.toNat else val.toNat / 32 * 32 + val.toNat % 2).toNat }))) ∧
  (WritesReg s u path (ch / 16) (0x10000 * (32 + ch % 16) + 0x0C) ⟨ch / 16, 32 + ch % 16, 0x0C⟩ →
    exec (.dmaCtrlPause path ch) s = .next (settle (u.setPause ch true)) ∧
    exec (.dmaCtrlResume path ch) s = .next (settle (u.setPause ch false))) ∧
  (∀ t, WritesReg s u path (ch / 16) (0x10000 * (32 + ch % 16) + 0x38) ⟨ch / 16, 32 + ch % 16, 0x38⟩ →
    t = u.modChan ch (fun c => { c with
      irqDone := c.irqDone && !bit val.toNat 0, irqHalted := c.irqHalted && !bit val.toNat 1 }) →
    exec (.dmaIrqClear path ch val) s = .next (settle
      (if (t.chan ch).irq = 0 then
        { t with irq := { t.irq with pend := t.irq.pend &&& ~~~((1 : BitVec 512) <<< chanSource ch) } } else t))) ∧
  (∀ c, WritesReg s u path (un / 4) (0x300000 + 64 * (un % 4)) ⟨un / 4, 48, 64 * (un % 4)⟩ → c = u.cv un →
    c.dma = false → bits val.toNat 1 0 ≠ 3 →
    exec (.cvCtrlStart path un val) s = .next (settle (advance (2 * c.pend.length) (u.setCv un
      ({ c with poly := bits val.toNat 1 0
                fold := if bits val.toNat 3 2 = 3 then 0 else bits val.toNat 3 2 } : Cv).start)))) ∧
  (WritesReg s u path (un / 4) (0x300000 + 64 * (un % 4) + 0x0C) ⟨un / 4, 48, 64 * (un % 4) + 0x0C⟩ →
    (u.cv un).dma = false → be % 16 ≠ 0 →
    exec (.cvDataWrite path un be val) s = .next (settle (u.cvPush un (enabledBytes val.toNat be)))) ∧
  (ReadsReg s path (un / 4) (0x300000 + 64 * (un % 4) + 0x10) ⟨un / 4, 48, 64 * (un % 4) + 0x10⟩ →
    exec (.cvResultRead path un) s = .next (settle
      ((s.cvDrain un).returned path ((s.cvDrain un).cv un).result))) ∧
  (∀ b t, (s.cv un).pend = b :: t →
    exec (.cvByteProcessed un) s = .next (settle
      (advance 2 (s.modCv un fun c => { (c.feed [b]) with pend := t }))))

/-- The events of a head's frame complete (R27, R144-R146, R159, R171, R174, R199, R215, R242, R295, R514). -/
def Obligations.FrameEventsComplete : Prop :=
  ∀ (s : State) (h line col count r g b : Nat) (f : Frozen) (m : Mode),
  (h < 128 → s.headState h = 1 → (s.head h).running = true →
    ((s.head h).coming = none → ∀ t u, t = (s.sharers h).foldl State.freezeHead (s.selectAt (s.sharers h)) →
      u = ((s.sharers h).foldl (fun a j => addTo a (j / 4)) []).foldl
        (fun t c => t.modCluster c fun k => { k with assign := t.spansNow c }) t →
      exec (.headCommitLine h) s = .next (settle { u with framed := true })) ∧
    ((s.head h).inFrame = false → exec (.headLineStart h 0) s = .next (settle (s.lineStart h 0))) ∧
    ((s.head h).inFrame = true → (s.head h).mode = some m → (s.head h).line + 1 < m.ha →
      exec (.headLineStart h ((s.head h).line + 1)) s = .next (settle (s.lineStart h ((s.head h).line + 1)))) ∧
    ((s.head h).inFrame = true → (s.head h).frozen = some f → (s.head h).mode = some m →
      (s.head h).line + 1 = m.ha →
      exec (.endOfLastActiveLine h) s = .next (settle ((s.emitLine h).frameEnd h m.ha f))) ∧
    ((s.head h).inFrame = false → ∀ t u, 
      t = (((s.modHead h fun d => { d with depth := d.pendingDepth.getD d.depth, pendingDepth := none }).modeAtBlanking
        h).bindAtBlanking h).heldHeel h →
      u = t.modHead h (fun d => { d with
        commitNow := t.commitFor h, stretching := d.stretch.isSome, stretchPx := d.resyncPixels (t.commitFor h) }) →
      ((u.head h).aligned = true ∨ 32 ≤ (u.head h).group) →
      exec (.verticalBlankingStart h) s = .next (settle (u.startStream h))) ∧
    (s.clusterState (h / 4) = 1 → (s.head h).fetchFor line = some f → (s.head h).mode = some m →
      (s.head h).orphan = false → line < m.ha →
      exec (.leFetchWindow h line) s = .next (settle
        ((f.layers.filter (·.shows ≠ 3)).foldl (fun s x => s.leLayer h line f x) s)))) ∧
  (h < 128 → (s.head h).inFrame = true → (s.head h).line = line → col < (s.head h).lineNow.length →
    (s.head h).urLine = none → (s.head h).frozen = some f →
    exec (.underrun h line col) s = .next (settle
      ((s.setHead h { s.head h with
        urLine := some (line, col)
        urSource := if (s.head h).urSource = 0 then s.firstFault (h / 16) else (s.head h).urSource }).clusterFault 6
          (h / 4) (h % 4) f.seq true))) ∧
  (∀ d, h < 128 → (s.head h).echo = true → s.echoLink h = true → count ≠ (s.head h).echoCount →
    (s.head h).testCrcs ≠ [] → d = { s.head h with echoCount := count, echoIdle := 0 } →
    (∀ k, (s.head h).testCrcs.reverse.find? (·.2 = crcWord [r, g, b]) = some k →
      exec (.echoCrcReadComplete h count r g b) s = .next (settle
        ((s.setHead h { d with echoResult := 1, echoSeq := k.1 }).tally h 4 false))) ∧
    (∀ k, (s.head h).testCrcs.reverse.find? (·.2 = crcWord [r, g, b]) = none → (s.head h).testCrcs.getLast? = some k →
      exec (.echoCrcReadComplete h count r g b) s = .next (settle
        ((s.setHead h { d with echoResult := 2, echoSeq := k.1 }).tally h 4 true)))) ∧
  (∀ c, c < 32 → s.clusterState c = 1 → s.drives c = true →
    exec (.clusterWake c) s = .next (settle (s.modCluster c fun k => { k with gated := false }))) ∧
  (∀ k, k < 8 → s.regionIdle k = true →
    exec (.regionPowerGate k) s = .next (settle
      ((((s.pcsOf k).foldl (fun s p => s.modPc p fun c => { c with selfRef := true }) s).modRegion k fun x =>
        { x with gated := true }).modSynth (128 + k) fun y => { y with src := 3 })))

/-- The events of memory requests complete (R312, R314, R316-R321, R326-R330, R341, R343). -/
def Obligations.MemoryRequestEventsComplete : Prop :=
  ∀ (s : State) (r : MemReqIn) (pc id g bank src : Nat) (flips : List (Nat × BitVec 72)) (m : MemReq),
  (exec (.memoryRequestArrival r) s = .next (settle
    ((blocksOf r.addr (if r.write then r.data.length else r.len)).foldl (fun s b =>
      let m : MemReq := { addr := b.1, len := b.2, write := r.write, data := (r.data.drop (b.1 - r.addr)).take b.2,
                          cls := min 8 r.cls, master := r.master % 64, urg := min 3 r.urg, deadline := r.deadline,
                          layer := r.layer, head := r.head }
      (s.queueReq m).2.respond m (s.queueReq m).1) s))) ∧
  (s.pcOn pc = true → (s.pc pc).selfRef = false → ((s.pc pc).stepping = false ∨ (s.pc pc).stepEnd ≤ s.now) →
    ((s.region (pc / 16)).rehoming = true → exec (.commandSlot pc) s = .next (settle (s.flushRegion (pc / 16)))) ∧
    ((s.region (pc / 16)).rehoming = false → (s.pc pc).mostDebt (fun b => 8 ≤ b.debt) = none →
      (∀ x, s.chosen pc = some x → x.column = true →
        exec (.commandSlot pc) s = .next (settle ((s.access x.req).memNext (pc / 16)))) ∧
      (∀ x, s.chosen pc = some x → x.column = false →
        exec (.commandSlot pc) s = .next (settle ((s.activate pc x.req.bank x.req.row).memNext (pc / 16)))) ∧
      (s.chosen pc = none → exec (.commandSlot pc) s = .next (settle ((s.idleRefresh pc).memNext (pc / 16))))) ∧
    (∀ k, (s.region (pc / 16)).rehoming = false → (s.pc pc).mostDebt (fun b => 8 ≤ b.debt) = some k →
      exec (.commandSlot pc) s = .next (settle ((s.refreshBank pc k).memNext (pc / 16))))) ∧
  (s.issuedRead id = some m →
    exec (.memoryReadComplete id flips) s = .next (settle ((s.readDone m flips).memNext (m.pc / 16)))) ∧
  (s.pcOn pc = true →
    exec (.caParityError pc true) s = .next (settle ((s.pc pc).issued.foldl (fun s m => s.logParity m 3) s)) ∧
    exec (.caParityError pc false) s = .next (settle (s.parityFailed pc))) ∧
  (s.regionOn g = true → (s.region g).rehoming = true →
    exec (.reHomingComplete g) s = .next (settle (s.rehomed g))) ∧
  (∀ t, s.pcOn pc = true → bank < 48 → (s.pc pc).selfRef = false →
    t = s.modPc pc (fun c => { c with banks := tmod {} c.banks bank fun b => { b with debt := min 8 (b.debt + 1), row := none } }) →
    ((tget {} (t.pc pc).banks bank).debt = 8 →
      exec (.refreshInterval pc bank) s = .next (settle ((t.detect (pc / 16) 34 (pc % 16)).idleRefresh pc))) ∧
    ((tget {} (t.pc pc).banks bank).debt ≠ 8 →
      exec (.refreshInterval pc bank) s = .next (settle (t.idleRefresh pc)))) ∧
  (∀ t, s.regionOn g = true →
    t = (List.range 16).foldl (fun s p => s.modPc (16 * g + p) fun c =>
      { c with banks := c.banks.map fun e => (e.1, { e.2 with acts := [] }) }) s →
    exec (.refreshWindowEnd g) s = .next (settle { t with mem := { t.mem with rowprot := t.mem.rowprotNext } })) ∧
  (s.pcOn pc = true → bank < 48 → (tget {} (s.pc pc).banks bank).row.isSome = true →
    exec (.rowIdleTimeout pc bank) s = .next (settle
      ((advanceTo ((tget {} (s.pc pc).banks bank).idleFrom + 1000) s).modPc pc fun c =>
        { c with banks := tmod {} c.banks bank fun b => { b with row := none } }))) ∧
  (s.regionOn g = true → exec (.urgencyRecompute g) s = .next (settle (s.setUrgency g s.urgency))) ∧
  (∀ t u, s.regionOn g = true →
    ((s.waiting g).filter fun m => 3 ≤ m.cls && m.cls ≤ 6 && m.urg = 0).foldl (fun a m => match a with
      | some t => some (min t m.at_)
      | none => some m.at_) none = some t → u = advanceTo (t + 10000) s →
    exec (.unreservedAgeTimeout g) s = .next (settle
      (u.setUrgency g fun m => if 3 ≤ m.cls ∧ m.cls ≤ 6 then max m.urg (u.urgency m) else m.urg))) ∧
  (∀ i, src < 16 → s.inputState src = 1 → i = s.input src →
    exec (.writeBufferOverflow (16 + src)) s = .next (settle
      ((s.dropFrame src).detect (((i.bufs.getD i.writeBuf []).headD 0) / regionSpan) 43 0))) ∧
  (src < 4 → s.audState src = 1 →
    exec (.writeBufferOverflow src) s = .next (settle
      ((s.dropAudio src).detect ((s.aud src).base / regionSpan) 43 0)))

/-- The events of memory training and rate changes complete (R296, R331-R337). -/
def Obligations.MemoryTrainingEventsComplete : Prop :=
  ∀ (s : State) (pc band die : Nat),
  (s.pcOn pc = true → (s.pc pc).stepDue = none → (s.pc pc).stepping = false →
    exec (.retrainStepDue pc) s = .next (settle
      ((s.modPc pc fun c => { c with stepDue := some s.now }).memNext (pc / 16)))) ∧
  (∀ t, s.pcOn pc = true → (s.pc pc).stepDue = some t → (s.pc pc).skips < 3 →
    exec (.retrainStepSkip pc) s = .next (settle
      (((advanceTo (t + 20000) s).modPc pc fun c =>
        { c with skips := c.skips + 1, skipTotal := satInc 32 c.skipTotal,
                 stepDue := if c.skips = 2 then c.stepDue else none }).memNext (pc / 16)))) ∧
  (s.pcOn pc = true → (s.pc pc).stepping = true →
    exec (.retrainStepComplete pc true) s = .next (settle
      ((s.modPc pc fun c => { c with stepping := false }).memNext (pc / 16))) ∧
    exec (.retrainStepComplete pc false) s = .next (settle
      (((s.modPc pc fun c => { c with stepping := false }).retirePc pc).memNext (pc / 16)))) ∧
  (s.pcOn pc = true → (s.pc pc).selfRef = false → (s.pc pc).stepping = false → (s.pc pc).issued = [] →
    (s.pc pc).queued = [] → (s.pc pc).banks.any (0 < ·.2.debt) = false → (s.waiting (pc / 16)).any (·.pc = pc) = false →
    exec (.selfRefreshIdleEntry pc) s = .next (settle
      ((advanceTo ((s.pc pc).idleFrom + 50000) s).modPc pc (·.enterSelfRef)))) ∧
  (band ≤ 10 → (∀ e, tfind s.mem.cache band = some e → e.1 + 600000000000 ≤ s.now) → ∃ v : Nat,
    exec (.trainingCacheWrite band) s = .next (settle { s with
      freeCtr := s.freeCtr + 1
      mem := { s.mem with band, cachePtr := band, cache := tset s.mem.cache band (s.now, v) } })) ∧
  (s.dieState die = 1 → (s.memRate die).target.isSome = true → (s.memRate die).phase = 0 →
    exec (.memoryCoreLocked die) s = .next (settle
      (((List.range 64).foldl (fun s p => s.modPc (64 * die + p) fun c => { c with aborts := 0 })
        (s.modMemRate die fun r => { r with phase := 2 })).tryEntry die))) ∧
  (∀ mbit p, s.dieState die = 1 → (s.memRate die).target = some mbit → (s.memRate die).phase = 1 →
    exec (.rateChangeVerified die none) s = .next (settle (s.rateChanged die mbit)) ∧
    exec (.rateChangeVerified die (some p)) s = .next (settle (s.rateFailed die p)))

/-- The events of the clocks complete (R282, R286, R287, R291, R292, R297, R299-R305). -/
def Obligations.ClockEventsComplete : Prop :=
  ∀ (s : State) (count k h t : Nat) (err : Int),
  (s.clk.refOn = true →
    (700 ≤ count → count ≤ 830 → ∀ u, u = { s with clk := { s.clk with refBad := 0, refGood := s.clk.refGood + 1 } } →
      exec (.refclkWatchdogCount count) s = .next (settle
        (if s.clk.refLost ∧ 4 ≤ s.clk.refGood + 1 then u.refclkBack else u))) ∧
    (count < 700 ∨ 830 < count → ∀ u, u = { s with clk := { s.clk with refGood := 0, refBad := s.clk.refBad + 1 } } →
      exec (.refclkWatchdogCount count) s = .next (settle
        (if !s.clk.refLost ∧ 2 ≤ s.clk.refBad + 1 then u.refclkLost else u)))) ∧
  (∀ u y, k < 140 → s.dieState (synthDie k) = 1 → u = s.modSynth k (fun y => { y with count }) → y = u.synth k →
    (y.src = 3 → y.loadTo ≠ none) →
    (y.near 1024 count 50 1000000 = true →
      exec (.lockWindowEnd k count) s = .next (settle
        (if 4 ≤ y.agree + 1 ∧ !y.lock then (u.setSynth k { y with agree := y.agree + 1, disagree := 0 }).lockDeclared k
         else u.setSynth k { y with agree := y.agree + 1, disagree := 0 }))) ∧
    (y.near 1024 count 50 1000000 = false →
      exec (.lockWindowEnd k count) s = .next (settle
        (if 2 ≤ y.disagree + 1 ∧ y.lock then (u.setSynth k { y with agree := 0, disagree := y.disagree + 1 }).lockLost k
         else u.setSynth k { y with agree := 0, disagree := y.disagree + 1 })))) ∧
  (∀ ok, k < 140 → s.dieState (synthDie k) = 1 → (s.synth k).src = 3 → k < 128 ∨ 136 ≤ k →
    ok = (s.synth k).near 32 count 2 100 →
    exec (.parkedSynthWake k count) s = .next (settle
      (s.setSynth k { s.synth k with fastOk := ok, src := if ok then 0 else 1, lock := false, agree := 0, disagree := 0 }))) ∧
  (k < 140 → (s.synth k).ramp.isSome = true →
    exec (.rampUpdate k) s = .next (settle ((advance 1000 s).rampStep k))) ∧
  (∀ u at_, h < 128 → (s.synth h).lostAt = some at_ →
    u = (advanceTo (at_ + 100000) s).modSynth h (fun y => { y with lostAt := none }) →
    ((u.head h).migration.isSome = true ∨ (u.head h).modeP = none →
      exec (.pixelLockReturnTimeout h) s = .next (settle u)) ∧
    ((u.head h).migration = none → (u.head h).modeP ≠ none →
      exec (.pixelLockReturnTimeout h) s = .next (settle (u.beginMigration h
        ((((u.cluster (h / 4)).plan.lookup h).getD none).filter fun t => u.freeHead t && !u.reserved t))))) ∧
  (k < 140 → s.dieState (synthDie k) = 1 →
    exec (.clockSwitchFault k) s = .next (settle
      ((s.modSynth k fun y => { y with src := 2 }).detect (dieRec (synthDie k) 3) 5 (synthRecord k)))) ∧
  (∀ key p l l' u tl want, l = s.heel key → l.leader ≠ .none → s.leaderValid l.leader l.idx = true →
    s.clk.refLost = false → l.state = 3 → l.cycle % l.d = 0 → l.lastEvent = some p → err.natAbs ≤ 100 →
    l' = { l with periods := (l.periods ++ [t - p]).drop (l.periods.length - 3), lastEvent := some t,
                  cycle := (l.cycle + 1) % l.d, err := err } →
    u = s.setHeel key l' →
    tl = s.leaderPeriod l' → tl ≠ 0 → withinPpm (tl * l'.d, l'.m) (u.nominal key) 5000 = true →
    want = (2 * tl * l'.d + l'.m) / (2 * l'.m) →
    exec (.leaderEvent key t err) s = .next (settle
      ((u.setHeel key { l' with tf := want, applied := (l'.applied ++ [want]).drop (l'.applied.length - 15) }).steer
        key want))) ∧
  (∀ kind, exec (.leaderLost kind k) s = .next (settle (s.leaderLost kind k 0))) ∧
  (∀ g p, g = s.clk.genlock → g.enable = true → g.valid = false → s.clk.refOn = true → g.last = some p →
    offBy (t - p) (2 * g.tg) 200 = false →
    (g.good + 1 = 4 → exec (.genlockEdge (!g.falling) t) s = .next (settle
      (((s.setGenlock { g with last := some t, good := 0, sum := 0, rateCnt := 0, valid := true, state := 1,
                               period := (g.sum + (t - p)) / 4 }).postGenlock 0).leaderBack .genlock 0))) ∧
    (g.good + 1 < 4 → exec (.genlockEdge (!g.falling) t) s = .next (settle
      (s.setGenlock { g with last := some t, good := g.good + 1, sum := g.sum + (t - p) })))) ∧
  (∀ g, g = s.clk.genlock → g.enable = true → g.valid = true → s.clk.refOn = true →
    exec (.genlockEdge (!g.falling) t) s = .next (settle (s.genlockFollow t))) ∧
  (∀ g, g = s.clk.genlock → g.valid = true →
    exec .genlockLost s = .next (settle
      (((s.setGenlock { g with valid := false, state := 3, last := none, good := 0, sum := 0, rateCnt := 0 }).postGenlock
        2).leaderLost .genlock 0 0)))

/-- The events of the output links complete (R222-R226, R232-R235, R245). -/
def Obligations.LinkEventsComplete : Prop :=
  ∀ (s : State) (l phase : Nat) (x : Link) (sink : SinkDesc) (data : List Byte) (topo : Option (List Nat)),
  x = s.link l → s.linkOn l = true →
  (x.enabled = true → x.hpd = false → ∀ t,
    t = (s.modLink l fun x => { x with hpd := true, restarted := false, restartDue := false }).postHotplug l 0 →
    exec (.linkPlug l) s = .next (settle (if x.state = 1 then t.enterWork l 2 else t))) ∧
  (x.enabled = true → x.hpd = true →
    exec (.linkUnplug l) s = .next (settle
      ((((s.modLink l fun x => { x with hpd := false }).postHotplug l 1).dropLink l 1).endAux l 3 []))) ∧
  (x.enabled = true →
    exec (.hpdGlitch l) s = .next (settle (s.modLink l fun x => { x with glitches := satInc 32 x.glitches }))) ∧
  (x.state = 4 → ∀ t, t = s.modLink l (fun x => { x with
      cands := s.recoverCands l, trained := none, retrainAll := false, irqLate := false, retrains := satInc 32 x.retrains }) →
    exec (.linkLockLoss l) s = .next (settle
      ((((t.stopStreams l).enterWork l 5).postU 0x0984 t.scopePkg [l]).linkBit l 2))) ∧
  (x.enabled = true → x.hpd = true → ((s.postHotplug l 2).link l).state = 4 →
    exec (.irqHpd l true topo) s = .next (settle ((s.postHotplug l 2).retopo l topo)) ∧
    exec (.irqHpd l false topo) s = .next (settle (((s.postHotplug l 2).retopo l topo).lockLoss l))) ∧
  (∀ die w k, die < 2 → w = ((List.range 48).map (48 * die + ·)).filter (fun l => (s.link l).waiting) →
    ((w.filter fun l => (s.boundTo l).any fun h => (s.head h).armed) ++ w).head? = some k → s.placesUsed die < 16 →
    exec (.linkTrainingSlotFree die) s = .next (settle (s.modLink k fun x => { x with waiting := false }))) ∧
  (s.auxBusy l = true →
    (x.state = 2 →
      exec (.auxTransactionReply l .ack data) s = .next (settle
        (s.modLink l fun x => { x with auxTries := 0, auxDefers := 0 }))) ∧
    (x.state ≠ 2 →
      exec (.auxTransactionReply l .ack data) s = .next (settle (s.endAux l 0 data)) ∧
      exec (.auxTransactionReply l .nack data) s = .next (settle (s.endAux l 1 data))) ∧
    (x.auxDefers < 7 →
      exec (.auxTransactionReply l .defer data) s = .next (settle
        (s.modLink l fun x => { x with auxDefers := x.auxDefers + 1 }))) ∧
    (7 ≤ x.auxDefers → exec (.auxTransactionReply l .defer data) s = .next (settle (s.auxFailed l 2))) ∧
    (x.auxTries < 3 →
      exec (.auxReplyTimeout l) s = .next (settle (s.modLink l fun x => { x with auxTries := x.auxTries + 1 }))) ∧
    (3 ≤ x.auxTries → exec (.auxReplyTimeout l) s = .next (settle (s.auxFailed l 3)))) ∧
  (x.state = 2 → x.restartDue = true →
    exec (.discoveryRestartTimer l) s = .next (settle
      (s.setLink l { x with restartDue := false, restarted := true, auxTries := 0, auxDefers := 0 }))) ∧
  (x.state = 2 → x.waiting = false → x.restartDue = false → ∀ t,
    t = (s.setLink l { x with sink := some sink }).judgeBinds l →
    exec (.discoveryComplete l sink) s = .next (settle (t.train l (t.candidates l)))) ∧
  (∀ k ks, s.trainingOn l = true → x.cands = k :: ks →
    exec (.trainingAttemptEnd l true phase) s = .next (settle (s.trainingDone l k)) ∧
    (∀ t, t = s.setLink l { x with attempts := satInc 32 x.attempts, cands := ks, irqLate := false } →
      (ks ≠ [] →
        exec (.trainingAttemptEnd l false phase) s = .next (settle t) ∧
        exec (.trainingAttemptTimeout l phase) s = .next (settle t)) ∧
      (ks = [] →
        exec (.trainingAttemptEnd l false phase) s = .next (settle (t.linkFailed l 1 k phase)) ∧
        exec (.trainingAttemptTimeout l phase) s = .next (settle (t.linkFailed l 1 k phase))))) ∧
  (x.state = 6 →
    (x.failedIn = 2 → exec (.linkFailedRetry l) s = .next (settle (s.enterWork l 2))) ∧
    (x.failedIn ≠ 2 → s.candidates l ≠ [] →
      exec (.linkFailedRetry l) s = .next (settle
        ((s.modLink l fun x => { x with cands := s.candidates l }).enterWork l 3))))

/-- The events of the video inputs complete (R246-R248, R251-R259, R267). -/
def Obligations.InputEventsComplete : Prop :=
  ∀ (s : State) (v rate lanes line period : Nat) (i : Input) (px : List Pix) (f : InFrame),
  i = s.input v → s.inputOn v = true →
  (i.hpd = true → i.trained = none → rate ∈ [8100, 10000, 13500] → lanes ∈ [1, 2, 4] →
    exec (.inputSourceTraining v rate lanes) s = .next (settle
      (s.modInput v fun i => { i with trained := some { rate, lanes }, good := 0 }))) ∧
  (i.hpd = true → i.trained = none → rate ∉ [8100, 10000, 13500] →
    exec (.inputSourceTraining v rate lanes) s = .next (settle
      ((s.modInput v fun i => { i with trained := none }).inputCond v 7))) ∧
  (exec (.inputEdidHpdTimer v) s = .next (settle (s.modInput v fun i => { i with hpd := true }))) ∧
  (∀ t, i.lostAt = some t →
    exec (.inputNosignalTimeout v) s = .next (settle ((advanceTo (t + i.timeout * 1000000) s).noSignal v))) ∧
  (exec (.inputAudioStop v) s = .next (settle (s.audioStop (16 + v) 2))) ∧
  (i.trained.isSome = true →
    exec (.inputSymbolLockLoss v) s = .next (settle
      ((s.inputLost v).modInput v fun i => { i with trained := none, irqPulses := satInc 32 i.irqPulses })) ∧
    exec (.inputLineTimeout v) s = .next (settle (s.inputLost v)) ∧
    (line ≠ 0 → i.acquired = true → 100 * (period - i.linePs) ≤ i.linePs → 100 * (i.linePs - period) ≤ i.linePs →
      px.length = i.msa.wa →
      exec (.inputLineEnd v line period px) s = .next (settle
        ((s.captureRow v line px).modInput v fun i => { i with directLine := tset i.directLine line (i.lineComps px) }))) ∧
    (line = 0 → exec (.inputLineEnd v line period px) s = .next (settle (s.lineEnd v 0 period px))) ∧
    (∀ t, t = s.modInput v (fun i => { i with sinceStart := i.sinceStart.map (· + f.framePs) }) →
      (i.acquired = false → exec (.inputFrameEnd v f) s = .next (settle (t.seekFrame v f))) ∧
      (i.acquired = true → i.sameFormat f = false →
        exec (.inputFrameEnd v f) s = .next (settle (t.formatChange v f))) ∧
      (i.acquired = true → i.sameFormat f = true →
        exec (.inputFrameEnd v f) s = .next (settle ((t.rateCheck v f).hold v (i.holdReason f)))))) ∧
  (∀ t, i.writing = true → t = s.setInput v { i with
      capCount := (i.capCount + 1) % 2 ^ 32, stamps := tset i.stamps i.writeBuf ((i.capCount + 1) % 2 ^ 32, i.frameStart)
      newest := some i.writeBuf, writing := false, writeBuf := (i.writeBuf + 1) % max 1 i.bufs.length } →
    ∀ u, u = (match i.capToken with | some k => t.fireToken k 1 | none => t) →
    exec (.captureFrameComplete v) s = .next (settle
      ((u.boundLayers v).foldl (fun s l =>
        let s := if (s.layer l).bindMode = 1 then s.modLayer l fun x => { x with nosignal := false } else s
        if (s.leadHead l).isNone then s.selectRing l none else s) u)))

/-- The events of the audio sources complete (R270-R274, R276, R278). -/
def Obligations.AudioEventsComplete : Prop :=
  ∀ (s : State) (k ticks edges lo hi h ch : Nat) (b1 b2 : List Bool) (a : Audio),
  a = s.aud k → s.audioOn k = true →
  (∀ t, t = s.modAud k (fun a => { a with
      slotErrs := min 0xFFFFFFFF (a.slotErrs + a.slotErr k b1 + a.slotErr k b2) }) →
    (a.acquired = false → exec (.audioWsPeriod k ticks b1 b2) s = .next (settle t)) ∧
    (∀ x y, a.acquired = true → a.isGlitch ticks = false → x = a.sampleOf (a.slotBits k b1) →
      y = a.sampleOf (a.slotBits k b2) →
      exec (.audioWsPeriod k ticks b1 b2) s = .next (settle
        (((t.setAud k { t.aud k with prev := [x, y] }).audioFrame k x y).audioToHeads k x y))) ∧
    (∀ x y, a.acquired = true → a.isGlitch ticks = true → a.prev = [x, y] →
      exec (.audioWsPeriod k ticks b1 b2) s = .next (settle
        (((t.setAud k { t.aud k with glitches := satInc 32 a.glitches }).audioFrame k x y).audioToHeads k x y)))) ∧
  (∃ r : Nat, ((edges - 1) * 25000000000 % max 1 ticks = 0 → r = (edges - 1) * 25000000000 / max 1 ticks) ∧
    (r = (edges - 1) * 25000000000 / max 1 ticks ∨ r = (edges - 1) * 25000000000 / max 1 ticks + 1) ∧
    ∀ u : State, u = { s with freeCtr := s.freeCtr + 1 } →
    (a.acquired = false → windowInRange edges ticks = true → windowSteady edges ticks lo hi = true →
      exec (.audioWindowEnd k edges ticks lo hi) s = .next (settle
        (((u.setAud k { a.report r with acquired := true, state := 1, refEdges := edges - 1, refTicks := ticks }).postU
          0x0B80 u.scopePkg [k, 0, r]).audioResume k))) ∧
    (a.acquired = true → windowInRange edges ticks = false →
      exec (.audioWindowEnd k edges ticks lo hi) s = .next (settle (u.audioStop k 3))) ∧
    (a.acquired = true → windowInRange edges ticks = true → 200 * rateDist r a.rate ≤ a.rate →
      exec (.audioWindowEnd k edges ticks lo hi) s = .next (settle
        (u.setAud k { a with refEdges := edges - 1, refTicks := ticks }))) ∧
    (a.acquired = true → windowInRange edges ticks = true → a.rate < 200 * rateDist r a.rate →
      exec (.audioWindowEnd k edges ticks lo hi) s = .next (settle
        ((u.setAud k { a with refEdges := edges - 1, refTicks := ticks }).audioRate k r)))) ∧
  (exec (.audioWsTimeout k) s = .next (settle (s.audioStop k 2))) ∧
  (∀ t, a.blockAt = some t →
    exec (.audioPartialBlockTimer k) s = .next (settle ((advanceTo (t + 1000000) s).audioPartial k))) ∧
  (∀ kind t u, (s.head h).audioWait.getD ch none = some (kind, t) → u = advanceTo t s →
    (u.head h).audioCh.getD ch 255 = 255 →
    exec (.audioChangeTimeout h ch) s = .next (settle (u.audioEffect h ch kind 1)))

/-- The events of interrupts and faults complete (R464-R468, R470, R473, R475, R478, R490). -/
def Obligations.FaultAndInterruptEventsComplete : Prop :=
  ∀ (s : State) (group die core rec b : Nat) (syn : Word) (holds ok : Bool),
  (exec .irqDelivery s = .next (settle (advance 2 s.irqEvaluate)) ∧
    ((∀ n, n < 512 → s.irq.pend.getLsbD n = true → s.irq.mask.getLsbD n = true) →
      exec .irqDelivery s = .next (settle (advance 2 s.deliverUrgent)))) ∧
  (∀ e, tget 0 s.irq.running group = e + 1 → ∀ t, t = advanceTo e s →
    exec (.holdoffExpiry group) s = .next (settle
      { t with irq := { t.irq with running := tdel t.irq.running group } })) ∧
  (exec (.bureauIrqAck die core) s = .next (settle
    { s with irq := { s.irq with busyCore := dropOf s.irq.busyCore (4 * die + core) } })) ∧
  (b < 64 → rec < 40 → s.recLive rec = true → ∀ t, t = s.detect rec b syn.toNat holds →
    (wasReset s t = true → exec (.faultDetected rec b syn holds) s = .next (settle t)) ∧
    (wasReset s t = false → 8 ≤ rec → exec (.faultDetected rec b syn holds) s = .next (settle t)) ∧
    (wasReset s t = false → rec < 8 → t.clusterState (4 * rec + b % 4) = 1 →
      (8 ≤ b → b ≤ 11 →
        exec (.faultDetected rec b syn holds) s = .next (settle (t.retireCluster (4 * rec + b % 4)))) ∧
      (28 ≤ b → b ≤ 31 →
        exec (.faultDetected rec b syn holds) s = .next (settle (t.trestleError (4 * rec + b % 4)))) ∧
      (b < 8 ∨ 32 ≤ b → exec (.faultDetected rec b syn holds) s = .next (settle t)))) ∧
  (∀ o, (s.frec rec).open_ = some o →
    exec (.blockResetComplete rec ok) s = .next (settle ((s.resetTested rec o.2 ok).faultOver rec o.2)) ∧
    exec (.blockResetComplete rec true) s = .next (settle (s.faultOver rec o.2))) ∧
  (s.faults.errLow = true → ∀ t, t = advanceTo s.faults.barkEnd s →
    exec .barkPulseElapsed s = .next (settle { t with faults := { t.faults with pulseDone := true } }))

/-- The events of the Mantel Engines complete (R136, R179, R184, R216). -/
def Obligations.MantelEventsComplete : Prop :=
  ∀ (s : State) (c : Nat), c < 32 →
  (s.pairState c = 1 → (s.pair c).state = 0 →
    exec (.mantelPairMiscompare c) s = .next (settle
      ((((s.modPair c fun p => { p with tested := 1, firstFail := false }).markTest c).setPairState c 1).clusterFault 3 c
        0 0 true))) ∧
  (s.clusterState c = 1 → (s.pair c).state = 1 →
    ((s.pair c).tested = 1 →
      exec (.mantelPairTestComplete c true) s = .next (settle
        (s.modPair c fun p => { p with tested := 0, firstFail := false })) ∧
      exec (.mantelPairTestComplete c false) s = .next (settle (s.fenceFirst c))) ∧
    ((s.pair c).tested ≠ 1 →
      ((s.pair c).firstFail = false →
        exec (.mantelPairTestComplete c true) s = .next (settle
          (((s.modPair c fun p => { p with transients := p.transients + 1 }).setPairState c 0).endPairTest c)) ∧
        exec (.mantelPairTestComplete c false) s = .next (settle ((s.fenceCopy c 0).endPairTest c))) ∧
      ((s.pair c).firstFail = true →
        exec (.mantelPairTestComplete c true) s = .next (settle ((s.setPairState c 2).endPairTest c)) ∧
        exec (.mantelPairTestComplete c false) s = .next (settle
          (((s.clusterFault 4 c 0 0 true).fenceCopy c 0).endPairTest c))))) ∧
  (∀ a b port tag, s.mantel.newAreas = some (a, b, port, tag) →
    exec .mantelAreaCopyComplete s = .next (settle
      (((s.moveAreas a b).markAreas).finishTag port tag [replyWord stOk false 0]))) ∧
  (∀ port tag n, s.mantel.sealing = some (port, tag) → n = min 65535 (s.mantel.seals + 1) →
    exec .mantelSealComplete s = .next (settle
      (({ s with mantel := { s.mantel with
          store := s.mantel.staging, staging := none, storeHigh := 0, sealing := none, seals := n } }).finishTag port tag
        [replyWord stOk false 0, n]))) ∧
  (∀ a m r t, (s.head (4 * c)).lutBusy = some (a, m) → r = s.read a 287496 ⟨6, m, 0⟩ → r.1 = .ok →
    t = (r.2.2.modHead (4 * c) fun d => { d with lutBusy := none }).modHead (4 * c)
      (fun d => if d.running then { d with staged := some (lutOf r.2.1) } else { d with lut := lutOf r.2.1 }) →
    (t.head (4 * c + 1)).lutBusy = none → (t.head (4 * c + 2)).lutBusy = none → (t.head (4 * c + 3)).lutBusy = none →
    exec (.lutImageReadComplete c) s = .next (settle t))

/-- The events of the DMA channels complete (R446, R448-R454). -/
def Obligations.DmaChannelEventsComplete : Prop :=
  ∀ (s : State) (ch : Nat) (c : Chan) (d : Desc) (host sh dh : List Byte) (resp : DmaResp) (link : DWord),
  c = s.chan ch → ch < 32 →
  (s.chanGoes ch c.curHost = true → c.state = 1 → c.fetching = true →
    (c.curHost = true → s.hostOk ch = true →
      exec (.dmaDescriptorFetched ch host) s = .next (settle (s.startDesc ch (descOf (hostBytes host 32))))) ∧
    (c.curHost = true → s.hostOk ch = false →
      exec (.dmaDescriptorFetched ch host) s = .next (settle (s.chanHalt ch 6 1))) ∧
    (∀ r, c.curHost = false → r = s.read c.cur 32 c.req →
      (r.1 = .ok → exec (.dmaDescriptorFetched ch host) s = .next (settle (r.2.2.startDesc ch (descOf r.2.1)))) ∧
      (r.1 ≠ .ok → exec (.dmaDescriptorFetched ch host) s = .next (settle (r.2.2.chanError ch r.1))))) ∧
  (s.chanGoes ch true = true → c.state = 1 → c.fetching = true → resp ≠ .ok →
    exec (.dmaRequestResponse ch resp sh dh) s = .next (settle (s.chanError ch resp))) ∧
  (∀ r, s.chanGoes ch false = true → c.state = 1 ∨ c.state = 2 → c.fetching = false → c.reread = false →
    c.desc = some d → d.bad = false → d.srcHost = false → d.dstHost = false → c.storeDue d = false → c.remain ≠ 0 →
    d.op = 0 ∨ d.op = 3 → d.flag 7 = false → r = s.read c.src (c.reqBytes d) c.req →
    (r.1 = .ok → resp = .ok →
      exec (.dmaRequestResponse ch resp sh dh) s = .next (settle (r.2.2.dmaMove ch d (c.reqBytes d) r.2.1 []))) ∧
    (r.1 = .ok → resp ≠ .ok →
      exec (.dmaRequestResponse ch resp sh dh) s = .next (settle (r.2.2.chanError ch resp))) ∧
    (r.1 ≠ .ok → exec (.dmaRequestResponse ch resp sh dh) s = .next (settle (r.2.2.chanError ch r.1)))) ∧
  (exec (.dmaRetryTimer ch) s = .next (settle (s.modChan ch fun c => { c with retryWait := false }))) ∧
  (s.chanGoes ch true = true → c.state = 1 ∨ c.state = 2 → c.fetching = false → c.desc = some d → c.remain = 0 →
    c.storeDue d = false →
    (d.bad = false → exec (.dmaDescriptorComplete ch) s = .next (settle (s.chanComplete ch d))) ∧
    (d.bad = true → exec (.dmaDescriptorComplete ch) s = .next (settle (s.chanHalt ch 5 2)))) ∧
  (s.chanGoes ch true = true → c.curHost = true → c.reread = true → c.state = 1 ∨ c.state = 4 → s.hostOk ch = true →
    (link.toNat ≠ 0 → exec (.dmaLinkRereadResult ch link) s = .next (settle
      (s.setChan ch (c.fetch (link.toNat / 32 * 32) (bit link.toNat 0) 1)))) ∧
    (link.toNat = 0 → c.append = true → exec (.dmaLinkRereadResult ch link) s = .next (settle
      (s.setChan ch { c with append := false }))) ∧
    (link.toNat = 0 → c.append = false → exec (.dmaLinkRereadResult ch link) s = .next (settle
      (s.setChan ch { c with state := 4, reread := false })))) ∧
  (c.state = 2 → c.stopping = false →
    exec (.dmaDrainComplete ch) s = .next (settle (s.setChan ch { c with state := if c.pause then 3 else 1 }))) ∧
  (c.stopping = true → ∀ k, k = (s.freeUnit ch).chan ch →
    exec (.dmaOwnerStopComplete ch) s = .next (settle ((s.freeUnit ch).setChan ch
      { owner := if 1 < k.owner ∧ k.owner ≤ 16 then 1 else k.owner, pause := k.pause, maxRetries := k.maxRetries
        unit := k.unit, cur := k.cur, src := k.src, dst := k.dst, remain := k.remain, cmpOff := k.cmpOff
        cmpCnt := k.cmpCnt, master := k.master })))

/-- The events of self-repair complete (R481, R483-R488, R492, R494). -/
def Obligations.RepairEventsComplete : Prop :=
  ∀ (s : State) (c k o us h die p : Nat),
  (∀ t, c < 32 → t = s.modCluster c (fun r => { r with lastRot := s.now, heldRot := false }) →
    t.kennelSlot c = some k → t.clusterState c = 1 → t.repairWork c = false → (t.slot (9 * c + k)).role ≠ some 2 →
    exec (.kennelRotationDue c) s = .next (settle
      (t.modCluster c fun r => { r with hand := some (t.slotAfter c k, k), kennel := some k, heldRot := false }))) ∧
  (c < 32 → (s.cluster c).hand = some (o, k) → (s.slot (9 * c + k)).role ≠ some 2 →
    exec (.handoverCompareResult c true) s = .next (settle
      (((s.modCluster c fun r => { (r.handOver o k) with hand := none, kennel := some o }).setRole c k 0).setRole c o 2)) ∧
    exec (.handoverCompareResult c false) s = .next (settle (s.setRole c k 2))) ∧
  (∀ t u, c < 32 → k < 9 → s.slotState (9 * c + k) = 1 → s.kennelSlot c ≠ some k → (s.slot (9 * c + k)).faulty = false →
    t = (s.modSlot (9 * c + k) fun x => { x with faulty := true }).withhold c k →
    ((t.cluster c).takeover = none → t.kennelSlot c = some o →
      u = (t.modCluster c fun r => { r with hand := none, takeover := some (k, o) }).setRole c o 1 →
      (rReset (s.react (leSource c)) = 1 →
        exec (.leFaultDetected c k) s = .next (settle (u.clusterFault 0 c k 0 true))) ∧
      (rReset (s.react (leSource c)) ≠ 1 →
        exec (.leFaultDetected c k) s = .next (settle ((u.retireFaulty c k).clusterFault 0 c k 0 false)))) ∧
    ((t.cluster c).takeover ≠ none ∨ t.kennelSlot c = none → u = t.modCluster c (fun r => { r with hand := none }) →
      (rReset (s.react (leSource c)) = 1 →
        exec (.leFaultDetected c k) s = .next (settle ((u.redistribute c).clusterFault 0 c k 0 true))) ∧
      (rReset (s.react (leSource c)) ≠ 1 →
        exec (.leFaultDetected c k) s = .next (settle ((u.retireFaulty c k).clusterFault 0 c k 0 false))))) ∧
  (∀ t u, c < 32 → (s.cluster c).takeover = some (k, o) →
    t = ((s.modCluster c fun r => { (r.handOver k o) with takeover := none }).unwithhold c k).setRole c o 0 →
    u = (if t.slotState (9 * c + k) = 1 then (t.modCluster c fun r => { r with kennel := some k }).setRole c k 2 else t) →
    exec (.kennelTakeoverComplete c us) s = .next (settle ((u.repairAction 0x30 (9 * c + k) 0 us).heldRotation c))) ∧
  (c < 32 → k < 9 → (s.slot (9 * c + k)).faulty = true →
    ((s.slot (9 * c + k)).transients.any (s.now < · + dayNs) = false →
      exec (.leShortTestComplete c k true) s = .next (settle
        (((s.slotReturns c k).faultOver (c / 4) (clusterBit 0 c)).heldRotation c))) ∧
    ((s.slot (9 * c + k)).transients.any (s.now < · + dayNs) = true →
      exec (.leShortTestComplete c k true) s = .next (settle
        (((s.retireFaulty c k).faultOver (c / 4) (clusterBit 0 c)).heldRotation c))) ∧
    exec (.leShortTestComplete c k false) s = .next (settle
      (((s.retireFaulty c k).faultOver (c / 4) (clusterBit 0 c)).heldRotation c))) ∧
  (c < 32 → s.kennelSlot c = some k →
    exec (.kennelLogicTestComplete c false) s = .next (settle
      (((((s.modSlot (9 * c + k) fun x => { x with testOk := false }).retireSlot c k).clusterFault 1 c k 0 true).faultOver
        (c / 4) (clusterBit 1 c)))) ∧
    (∀ t, t = s.modSlot (9 * c + k) (fun x => { x with testOk := true, role := some 1 }) → (t.cluster c).hand = none →
      exec (.kennelLogicTestComplete c true) s = .next (settle (t.heldRotation c)))) ∧
  (∀ m t, (s.head h).migration = some m → m.target = some t →
    exec (.migrationSynthLocked h) s = .next (settle
      ((s.modHead h fun x => { x with migration := some { m with locked := true } }).modSynth t fun y =>
        { y with lock := true, fastOk := true, src := 0, loadTo := none })) ∧
    (m.locked = true →
      exec (.migrationLinkSwitch h) s = .next (settle ((s.endMigration h).heldRotation (t / 4))))) ∧
  (exec .ledgerWriteComplete s = .next (settle { s with repair := { s.repair with
    ledger := s.repair.unwritten.foldl ledgerPut s.repair.ledger, unwritten := [] } })) ∧
  (s.dieState die = 1 → (s.bureau die).failedPair = none → 
    (s.bureau die).retired.contains (1 - (s.bureau die).active) = false → ∃ t : State, ∃ b,
      b = s.bureau die ∧ t.freeCtr = s.freeCtr + 1 ∧
      (t = { s with freeCtr := s.freeCtr + 1 } ∨
        t = { s.noteBit (dieRec die 0) 0 b.active with freeCtr := s.freeCtr + 1 }) ∧
      exec (.bureauFailover die) s = .next (settle
        ((t.setBureau die { b with active := 1 - b.active, failedPair := some b.active }).detect (dieRec die 0) 1 b.active
          true))) ∧
  (die < 2 → (s.bureau die).failedPair = some p →
    (∀ t, t = (s.modBureau die fun b => { b with failedPair := none }).repaired 0x15 false die p (2 * die + p) →
      exec (.bureauPairSelftestComplete die true) s = .next (settle
        (((List.range 16).map (16 * die + ·)).foldl State.heldRotation (t.faultOver (dieRec die 0) 1)))) ∧
    (∀ t, t = ((s.modBureau die fun b => { b with failedPair := none, retired := addTo b.retired p }).repaired 0x14 true
        die p (2 * die + p)).noteBit (dieRec die 0) 2 p →
      exec (.bureauPairSelftestComplete die false) s = .next (settle
        (((List.range 16).map (16 * die + ·)).foldl State.heldRotation (t.faultOver (dieRec die 0) 1)))))

/-- The events of background work complete (R496-R503, R569). -/
def Obligations.BackgroundEventsComplete : Prop :=
  ∀ (s : State) (addr h idx : Nat) (val : Int) (flips : List (Nat × BitVec 72)) (errs : List (Nat × Nat)),
  (∀ r t, r = (s.upset (addr / 64 * 64) flips).readBlock (addr / 64 * 64) 64 ⟨7, 56, 0⟩ →
    t = r.2.2.scrubPass (addr / 64 * 64 / regionSpan) (addr / 64 * 64 % regionSpan) →
    exec (.houndScrubRead addr flips) s = .next (settle
      (if r.1 = .uncorrectable ∨ r.1 = .poisoned then t.scrubBad (addr / 64 * 64) r.1 else t))) ∧
  (∀ bad t, bad = (List.range 64).filter (fun n => s.dieState (n / 32) = 1 && s.telem.astray n) →
    t = { s with telem := { s.telem with failed := bad.foldl addTo s.telem.failed } } →
    exec (.calibrationTick [] errs) s = .next (settle
      ((errs.filter fun e => t.linkState e.1 = 1 && (t.link e.1).state = 4).foldl (fun s e =>
        s.modLink e.1 fun l => { l with symErrs := e.2 % 2 ^ 32 }) t))) ∧
  (exec .wearUpdateTick s = .next (settle (s.heads.foldl (fun s (e : Nat × Head) =>
    if e.2.running then
      { (s.setHead e.1 ((List.range e.2.blocks).foldl (fun h b => h.wearBlock s.freeCtr b) e.2)) with
        freeCtr := s.freeCtr + e.2.blocks }
    else s) s))) ∧
  (h < 128 → s.orbits h = true →
    exec (.wearOrbitStep h) s = .next (settle
      (((s.orbitWith h).filter s.orbits).foldl (fun s j => s.modHead j fun x => { x with orbitStep := true }) s))) ∧
  (s.telem.period ≠ 0 → ∀ t, t = (bitsOf 6 s.telem.sets).foldl (fun s set =>
      ((List.range (setIndices set)).filter fun i => s.telemUnit set i = 1).foldl (fun s i => s.pushOne set i) s) s →
    exec .telemPushPeriod s = .next (settle
      (t.write t.telem.ringBase (([t.telem.ringOff, t.telem.ringN] ++ List.replicate 14 0).flatMap (leBytes 4))
        ⟨6, t.telem.pushMaster, 0⟩).2)) ∧
  (∀ l v t, s.regionState idx = 1 → l = tget [] s.telem.rails idx →
    v = (if l.isEmpty then [val.toNat, val.toNat, val.toNat]
      else [val.toNat, min val.toNat (l.getD 1 val.toNat), max val.toNat (l.getD 2 val.toNat)]) →
    t = { s with telem := { s.telem with rails := tset s.telem.rails idx v } } →
    exec (.telemSensorReading true idx val) s = .next (settle (t.judgeReading (64 + idx) val))) ∧
  (idx < 64 → s.dieState (idx / 32) = 1 → s.telem.failed.contains idx = false →
    exec (.telemSensorReading false idx val) s = .next (settle
      (((({ s with telem := s.telem.read idx val }).judgeReading idx val).junction (idx / 32) 2 100 val).junction
        (idx / 32) 1 105 val)))

/-- The events of power, supplies and resets complete (R510, R512, R513, R555-R557, R569). -/
def Obligations.PowerAndSupplyEventsComplete : Prop :=
  ∀ (s : State) (b ns rail : Nat),
  (∀ t, s.pwr.target = some t → s.mayMove t = true →
    exec .powerTransitionComplete s = .next (settle (s.moveTo t))) ∧
  (b < 6 → bit s.pwr.wakeMask b = true → s.pwr.state = .standby ∨ s.pwr.state = .retain →
    exec (.wakeEvent b) s = .next (settle (s.beginWake b))) ∧
  (b < 6 → bit s.pwr.wakeMask b = false → exec (.wakeEvent b) s = .next (settle s)) ∧
  (s.pwr.aoIoGood = false →
    exec .aoIoRailsGood s = .next (settle
      { s with pwr := { s.pwr with aoIoGood := true, supEn := true, step := .supplies } })) ∧
  (exec .aoIoRailLoss s = .next (settle ({ s with pwr := { s.pwr with aoIoGood := false } }).powerOff)) ∧
  (s.pwr.aoIoGood = true → s.pwr.supEn = true → s.pwr.step = .supplies →
    (s.pwr.por = true → exec .lastSupplyInRegulation s = .next (settle
      { s with pwr := { s.pwr with switchedGood := true, start := { origin := s.now } } })) ∧
    (s.pwr.por = false → exec .lastSupplyInRegulation s = .next (settle
      { s with pwr := { s.pwr with switchedGood := true, step := .reference } }))) ∧
  (s.pwr.state = .standby →
    exec .supEnDrop s = .next (settle { s with pwr := { s.pwr with supEn := false, switchedGood := false } })) ∧
  (s.pwr.step = .supplies → s.pwr.por = false → s.pwr.switchedGood = false →
    exec .switchedRailTimeout s = .next (settle
      (({ s with pwr := { s.pwr with state := .standby, step := .done, supEn := false } }).noteBit (dieRec 0 11) 0 0))) ∧
  (s.pwr.por = false →
    (s.pwr.state = .retain → exec (.railOutOfRange rail) s = .next (settle s.powerOff)) ∧
    (s.pwr.state ∉ [.off, .standby, .retain] → s.pwr.step ≠ .supplies →
      exec (.railOutOfRange rail) s = .next (settle (s.detect (dieRec 0 11) 0 (rail % 256))))) ∧
  (s.pwr.por = false →
    (10000 ≤ ns → exec (.resetNPulse ns) s = .next (settle (s.chipReset 0 1 0))) ∧
    (ns < 1000 → exec (.resetNPulse ns) s = .next (settle s)) ∧
    (∃ syn : Nat, ∀ r, r = s.chipReset 1 2 syn →
      exec .thermalTrip s = .next (settle { r with pwr := { r.pwr with trip := true } }))) ∧
  (exec .thermalTripRelease s = .next (settle { s with pwr := { s.pwr with trip := false } }))

/-- The steps of a start complete (R515-R520). -/
def Obligations.StartStepsComplete : Prop :=
  ∀ (s : State) (full : Bool),
  (s.pwr.por = true → s.pwr.aoIoGood = true → s.pwr.switchedGood = true → s.pwr.step = .supplies → ∀ t : State,
    t = { s with faults := { s.faults with errLow := s.pwr.errHeld, pulseDone := s.pwr.errHeld }
                 pwr := { s.pwr with por := false, state := .ready } } →
    exec .porRelease s = .next (settle ((t.sampleStraps.toStep .aoBoot).stamp 0))) ∧
  (s.pwr.step = .aoBoot → s.pwr.trip = false →
    exec (.aoBootDone true) s = .next (settle ((s.sampleStraps.loadLedger.toStep .reference).stamp 1)) ∧
    (∀ t u : State, t = s.sampleStraps →
      u = { t with repair := { t.repair with ledger := t.repair.ledger.filter fun e => entryKind e < 0x10 } } →
      exec (.aoBootDone false) s = .next (settle
        (((u.detect (dieRec 0 12) 2 0).loadLedger.toStep .reference).stamp 1)))) ∧
  (s.pwr.step = .reference →
    ∀ t : State, t = (if s.pwr.start.kind = 1 then s.loadLedger else s).startSynths →
    (t.pwr.start.kind ≠ 2 → exec .referenceLockDone s = .next (settle ((t.toStep .bureau).stamp 2))) ∧
    (t.pwr.start.kind = 2 → exec .referenceLockDone s = .next (settle ((t.toStep .resume).stamp 2)))) ∧
  (s.pwr.step = .bureau → ∀ t u : State, t = { s with pwr := { s.pwr with lanesIdle := false } } →
    u = t.autoBindings →
    exec (.bureauBootDone true) s = .next (settle
      (((u.bootLinks.foldl (fun s l => if (s.link l).state = 1 then s.enterWork l 2 else s) u).toStep .hbm).stamp 3))) ∧
  (s.pwr.step = .hbm → ∀ t : State, t = s.repairRows true →
    exec (.hbmInitDone full []) s = .next (settle
      ((({ t with pwr := { t.pwr with start := { t.pwr.start with fullTrain := full } } }).toStep .mantel).stamp 4))) ∧
  (s.pwr.step = .mantel → exec .mantelLoadDone s = .next (settle ((s.mantelLoad.stamp 5).endStart))) ∧
  (s.pwr.step = .resume → exec .warmStartStepDone s = .next (settle ((s.toStep .warmHbm).stamp 3))) ∧
  (s.pwr.step = .warmHbm → ∀ t : State, t = s.repairRows false →
    exec .warmStartStepDone s = .next (settle
      ((({ t with mem := { t.mem with pcs := t.mem.pcs.map fun (e : Nat × Pc) => (e.1, { e.2 with selfRef := false }) } }).toStep
        .warmMantel).stamp 4))) ∧
  (s.pwr.step = .warmMantel → exec .warmStartStepDone s = .next (settle s.endWarm))

/-- The events of the Birton links complete (R523-R532). -/
def Obligations.BirtonLinkEventsComplete : Prop :=
  ∀ (s : State) (b seq halfNs : Nat) (l : BLink) (id : Ident) (words : List (BitVec 72)),
  l = s.birton b → s.linkLive b = true →
  (l.state = 0 →
    exec (.birtonPartnerPatterns b) s = .next (settle
      (s.modBirton b fun l => { l with signal := true, state := 1, cand := 0 })) ∧
    (l.signal = true → exec (.birtonDownRetry b) s = .next (settle
      (s.modBirton b fun l => { l with state := 1, cand := 0 })))) ∧
  (l.state = 1 →
    exec (.birtonCandidateEnd b true) s = .next (settle (s.birtonTrained b)) ∧
    (l.cand < 11 → exec (.birtonCandidateEnd b false) s = .next (settle
      (s.setBirton b { l with cand := l.cand + 1 }))) ∧
    (11 ≤ l.cand → exec (.birtonCandidateEnd b false) s = .next (settle
      (s.setBirton b { l with state := 0, cand := 0 })))) ∧
  (exec (.birtonLockLoss b) s = .next (settle ((s.linkStops b).modBirton b fun l => { l with signal := false }))) ∧
  (l.state = 5 ∨ l.state = 6 → exec (.birtonConflictTimeout b) s = .next (settle (s.linkStops b))) ∧
  (l.state = 3 ∨ l.state = 4 → exec (.cableDelayEcho b halfNs) s = .next (settle
    (s.modBirton b fun l => { l with delay := halfNs }))) ∧
  (∀ t, l.state = 2 ∨ l.state = 3 → id.pkg ≠ s.cfg.pkgId → (s.cfg.cascMaster = false ∨ id.strapMaster = false) →
    t = s.modBirton b (fun l => { l with partner := some id, rxSeq := (l.rxSeq + 1) % 65536 }) →
    (List.range 8).find? (fun n => n ≠ b && t.birtonUp n && (t.birton n).partner.map (·.pkg) = some id.pkg) = none →
    (t.isMaster = true → exec (.birtonIdentFrame b id) s = .next (settle (t.masterMeets b id))) ∧
    (t.isMaster = false → exec (.birtonIdentFrame b id) s = .next (settle (t.otherMeets b id)))) ∧
  (2 ≤ l.state → l.state ≤ 4 →
    (∀ ws, frameWords words = some ws → frameCrcOk ws = true →
      (ws.headD 0 / 2 ^ 16 % 65536 = l.rxSeq →
        exec (.birtonFrameReceived b words) s = .next (settle (s.goodFrame b ws))) ∧
      (ws.headD 0 / 2 ^ 16 % 65536 ≠ l.rxSeq →
        exec (.birtonFrameReceived b words) s = .next (settle (s.sendNak b)))) ∧
    (∀ ws, frameWords words = some ws → frameCrcOk ws = false →
      exec (.birtonFrameReceived b words) s = .next (settle (s.badFrame b ws.head?))) ∧
    (frameWords words = none →
      exec (.birtonFrameReceived b words) s = .next (settle (s.badFrame b (words.head?.bind protectedWord)))) ∧
    (∀ t n, t = s.acked b (seq % 65536) →
      n = (if (t.birton b).nakFrom = some (seq % 65536) then (t.birton b).fails + 1 else 1) →
      (3 ≤ n → exec (.birtonNakReceived b seq) s = .next (settle (t.linkFails b))) ∧
      (n < 3 → exec (.birtonNakReceived b seq) s = .next (settle
        (t.setBirton b { t.birton b with
          fails := n, nakFrom := some (seq % 65536), out := (t.birton b).out ++ (t.birton b).unacked.map (·.2) })))))

/-- The events of the system of packages complete (R534-R538, R541, R543-R548). -/
def Obligations.CascadeEventsComplete : Prop :=
  ∀ (s : State) (b group count halfNs pkg addr layer h line first : Nat) (data : List Byte) (ws : List DWord) (no : Bool),
  (∀ t, s.isMaster = true →
    (group < 32 → t = s.modGrp group (fun g => { g with event := (g.event + 1) % 2 ^ 64 }) →
      exec (.timingFrameSend group) s = .next (settle ((List.range 8).foldl (fun s b =>
        if s.birtonUp b then s.frameOut b 0 0 true group [(t.grp group).event, 2 * s.refNs % 2 ^ 64] else s) t))) ∧
    (group = 32 → t = { s with casc := { s.casc with sysEvent := (s.casc.sysEvent + 1) % 2 ^ 64 } } →
      exec (.timingFrameSend group) s = .next (settle ((List.range 8).foldl (fun s b =>
        if s.birtonUp b then s.frameOut b 0 0 true 32 [t.casc.sysEvent, 2 * s.refNs % 2 ^ 64] else s) t)))) ∧
  (s.linkLive b = true →
    exec (.timingFrameReceived b group count halfNs) s = .next (settle (s.timingIn b group count halfNs))) ∧
  (s.isMaster = false → s.role ≠ 0 → s.casc.timingLost = false → s.casc.lastTiming ≠ 0 → ∀ t,
    t = advanceTo (s.casc.lastTiming + 1000000) s →
    exec .timingClassLost s = .next (settle
      ((({ t with casc := { t.casc with timingLost := true } }).leaderLost .master 0 0).groupsCoast))) ∧
  (s.isMaster = true → s.isMember pkg = true → s.routeUp pkg = false →
    exec (.followerLeft pkg) s = .next (settle (s.leave pkg))) ∧
  (∀ m u t, s.casc.master = some m → s.casc.upstream = some u → s.role = 2 → s.birtonUp u = false →
    (s.birton u).downAt = some t →
    exec .masterLost s = .next (settle ((advanceTo (t + 10000000) s).loseMaster m))) ∧
  (∀ m u, s.casc.master = some m → s.casc.upstream = some u → s.role = 2 → s.birtonUp u = true → s.casc.timingLost = true →
    exec .masterLost s = .next (settle ((advanceTo (s.casc.lastTiming + 10000000) s).loseMaster m))) ∧
  (∀ t u v : State, ∀ k, s.casc.lostMaster = some k → s.role = 2 → s.casc.master = none →
    s.casc.deputy = s.cfg.pkgId → t = advanceTo (k + 100000000) s →
    u = { t with casc := { t.casc with
      role := some 3, master := some t.cfg.pkgId, hops := 0, upstream := none, lostMaster := none, members := [],
      edges := [], left := [], fwdSeq := [], handback := false } } →
    v = u.postPartner 0 u.cfg.pkgId 6 →
    exec .deputyTakeover s = .next (settle (v.sendIdents 3))) ∧
  (s.role = 4 → exec .mastershipHandback s = .next (settle s.stepUp)) ∧
  (s.role = 3 → s.casc.handback = true → exec .mastershipHandback s = .next (settle s.stepDown)) ∧
  (s.linkLive b = true → s.birtonUp b = true → s.hbmStep = false →
    exec (.mirrorWriteReceived b addr data) s = .next (settle (s.mirrorIn b addr data))) ∧
  (exec (.mirrorAckReceived pkg layer no) s = .next (settle (s.mirrorAck pkg layer no))) ∧
  (∀ g a pl q l, s.isMaster = true → s.casc.members ≠ [] → (layer, l) ∈ s.layers → pkg ∈ l.holders →
    a % 8 = 0 → data.length % 8 = 0 → (∃ r ∈ l.mirrorSet, r.1 < a + data.length ∧ a < r.1 + r.2) →
    Out.write pkg layer a data ∈ (s.storeBlock g a data pl q).2.casc.outQ) ∧
  (h < 128 →
    exec (.lineStreamFrame h line first ws) s = .next (settle (s.lineIn h line first (ws.map (·.toNat)))) ∧
    exec (.compositeLineMissing h line) s = .next (settle
      (s.modHead h fun d => { d with composite := tdel d.composite line })))

/-- A step takes the command at the front of the queue and runs it on the state with the queue's rest (log
entry 8: the queue is the model's own). -/
def Obligations.FrontCommandRuns : Prop :=
  ∀ (c : Instr) (rest : List Instr) (s : State), step { s with pending := c :: rest } = exec c { s with pending := rest }

/-- On an empty queue the block idles for one fabric cycle, which is the model's choice (log entry 5). -/
def Obligations.EmptyQueueIdles : Prop :=
  ∀ s : State, s.pending = [] → ∃ t, step s = .next t ∧ t.now = s.now + 2 ∧ t.layers = s.layers ∧ t.heads = s.heads ∧
    t.mem = s.mem ∧ t.links = s.links ∧ t.inputs = s.inputs ∧ t.clk = s.clk ∧ t.faults = s.faults ∧ t.ports = s.ports ∧
    t.regs = s.regs ∧ t.acc = s.acc ∧ t.mantel = s.mantel ∧ t.pending = []

/-- What reset leaves, by the values that the spec states (R48, R55, R144, R156, R195, R352, R358, R368, R414). -/
def Obligations.ResetValues : Prop :=
  (∀ p, (State.reset.port p).rxSeq = 0 ∧ (State.reset.port p).txSeq = 0 ∧ (State.reset.port p).tags = [] ∧
    (State.reset.port p).out = []) ∧
  State.reset.subs 16 = 0x7FFFFE ∧ State.reset.subs 0 = 0x7F8FFE ∧ State.reset.casc.ceiling = 2 ∧
  (∀ k i, admits (State.reset.objTab k i).rmask 16 = true ∧ admits (State.reset.objTab k i).wmask 16 = true) ∧
  (∀ i, (State.reset.layer i).requested = none ∧ (State.reset.layer i).queue = []) ∧
  (∀ h, (State.reset.head h).commit = 4 ∧ (State.reset.head h).modeP = none ∧ (State.reset.head h).armed = false ∧
    (State.reset.head h).orient = 0) ∧
  (∀ k, tget 0 State.reset.tokens k = 0) ∧ State.reset.mantel.version = 0 ∧ State.reset.coefSets = [] ∧
  State.reset.pending = []

/-- For every packet row: the bytes of its packet on the S-port are the row's command (R347, R350, R351, R363, R377). -/
def Obligations.SerialBytesSpellTheCommand : Prop :=
  ∀ r ∈ packetRows, ∀ (p : Pkt) (s : State), p.wf = true → p.port = 16 → p.link = 0 → p.claimed = 0 →
    s.sOn = true → s.asleep = false →
    exec (.send (pktBytes p r.2.code)) s = exec (r.1 p) s ∧ exec (.sendQuad (pktBytes p r.2.code)) s = exec (r.1 p) s

/-- The checks 1 to 5 of a packet, in order (R351, R353, R355, R377). -/
def Obligations.TurnedAwayPacketsChangeNothing : Prop :=
  ∀ (p : Pkt) (s : State) (bytes : List Byte), s.accepts p.port p.link = true → (s.port p.port).room = true →
  (s.port p.port).rx = [] →
  (∀ r ∈ packetRows,
    (sequenced p = true → p.seq ≠ (s.port p.port).rxSeq →
      exec (r.1 p) s = .next (settle (s.turnAway p.port r.2.code p.tag (s.classOf p.port p.claimed) p.scope.toNat stBadSeq
        (s.port p.port).rxSeq))) ∧
    ((sequenced p = true → p.seq = (s.port p.port).rxSeq) → p.tag ∈ (s.port p.port).tags →
      exec (r.1 p) s = .next (settle ((s.noteSeq p).turnAway p.port r.2.code p.tag (s.classOf p.port p.claimed)
        p.scope.toNat stTagBusy 0))) ∧
    ((sequenced p = true → p.seq = (s.port p.port).rxSeq) → p.tag ∉ (s.port p.port).tags →
      s.permits r.2 p.port (s.cmdOf r.2.code p) = false →
      exec (r.1 p) s = .next (settle (((s.noteSeq p).noteTag p).replyErr p.port (s.cmdOf r.2.code p) stNotPermitted)))) ∧
  (p.port = 16 → s.sOn = true → s.asleep = false →
    (framedOk 16 bytes = false → exec (.send bytes) s = .next (settle (s.framingError 16))) ∧
    (framedOk 16 bytes = true → trailerOk bytes = false →
      exec (.send bytes) s = .next (settle (s.turnAway 16 (headerWord bytes 0 % 65536) (headerWord bytes 1 % 4096)
        clsS (headerWord bytes 2 % 2 ^ 32) stBadCrc (s.port 16).rxSeq))) ∧
    (framedOk 16 bytes = true → trailerOk bytes = true → p = pktOf 16 0 0 bytes →
      headerWord bytes 0 % 65536 ∉ packetRows.map (·.2.code) → p.seq = (s.port 16).rxSeq → p.tag ∉ (s.port 16).tags →
      exec (.send bytes) s = .next (settle
        (((s.noteSeq p).noteTag p).replyErr 16 (s.cmdOf (headerWord bytes 0 % 65536) p) stNotPermitted))))

/-- Queueing a packet on a port (R358). -/
def Obligations.FullEventQueueKeepsReplies : Prop :=
  ∀ (q : Port) (o : OutPkt),
  ((q.enqueue o).out.filter (!·.discardable) = q.out.filter (!·.discardable) ++ [o].filter (!·.discardable)) ∧
  (o.discardable = false ∨ q.out.length < 256 → (q.enqueue o).out = q.out ++ [o] ∧ (q.enqueue o).lostN = q.lostN) ∧
  (o.discardable = true → 256 ≤ q.out.length →
    (q.enqueue o).out.length = q.out.length ∧ (q.enqueue o).lostN = min (q.lostN + 1) (2 ^ 32 - 1) ∧
    ∃ x, x.discardable = true ∧ (x ∈ q.out ∨ x = o) ∧ (q.enqueue o).lostMask = q.lostMask ||| 2 ^ (x.opcode / 256 % 32)) ∧
  (q.enqueue o).tags = q.tags ∧ (q.enqueue o).running = q.running ∧ (q.enqueue o).held = q.held

/-- The class of a C-port command (R345, R368, R371). -/
def Obligations.CPortClassIsTheLower : Prop :=
  ∀ r ∈ packetRows, ∀ (p : Pkt) (s : State), p.port = 18 → s.casc.ceiling ≤ 3 →
  classRank (s.cmdOf r.2.code p).cls = min (classRank p.claimed) s.casc.ceiling ∧
  (s.casc.ceiling = 0 → s.permits r.2 18 (s.cmdOf r.2.code p) = false) ∧
  (s.casc.ceiling < 3 → (∀ k ∈ r.2.cls, k = clsS ∨ k = clsV) → s.permits r.2 18 (s.cmdOf r.2.code p) = false)

/-- Writing and reading package memory (R313, R314). -/
def Obligations.MemoryReadsWhatWasWritten : Prop :=
  ∀ (m : Memory) (a : Nat) (d : List Byte),
  ((∀ w ∈ wordsOf a d.length, (8 * w < a ∨ a + d.length < 8 * w + 8) → (m.judge w).kind < 2) →
    (m.write a d).2 = false ∧ (m.write a d).1.read a d.length = d ∧
    (∀ w, w ∉ wordsOf a d.length → (m.write a d).1.readWord w = m.readWord w ∧ (m.write a d).1.judge w = m.judge w) ∧
    (∀ w ∈ wordsOf a d.length, ∀ i < 8, (8 * w + i < a ∨ a + d.length ≤ 8 * w + i) →
      ((m.write a d).1.readWord w).getD i 0 = (m.readWord w).getD i 0)) ∧
  (∀ w ∈ wordsOf a d.length, (8 * w < a ∨ a + d.length < 8 * w + 8) → 2 ≤ (m.judge w).kind →
    (m.write a d).2 = true ∧ tget 0 (m.write a d).1.err w = poisonPat)

/-- The code of R313: what it makes of one and of two wrong bits. -/
def Obligations.ErrorCodeCorrectsOneFindsTwo : Prop :=
  eccJudge 0 = ⟨0, 0, 0⟩ ∧ (eccJudge poisonPat).kind = 3 ∧ eccCols.length = 72 ∧ eccCols.Nodup ∧
  (∀ c ∈ eccCols, weight8 c % 2 = 1) ∧
  (∀ i < 72, (eccJudge (BitVec.ofNat 72 (2 ^ i))).kind = 1 ∧ (eccJudge (BitVec.ofNat 72 (2 ^ i))).bit = i) ∧
  (∀ i < 72, ∀ j < 72, i ≠ j → 2 ≤ (eccJudge (BitVec.ofNat 72 (2 ^ i + 2 ^ j))).kind) ∧
  (∀ (m : Memory) (w i : Nat), i < 72 → tget 0 m.err w = BitVec.ofNat 72 (2 ^ i) → m.rawWord w = none →
    m.readWord w = m.bytes (8 * w) 8)

/-- Bit replication (R84). -/
def Obligations.BitReplicationRule : Prop :=
  (∀ n c j, 1 ≤ n → n ≤ 16 → c < 2 ^ n → j < 16 → (widen n c).testBit (15 - j) = c.testBit (n - 1 - j % n)) ∧
  (∀ n c, 1 ≤ n → n ≤ 16 → c < 2 ^ n → widen n c < 65536) ∧
  (∀ c, c < 1024 → widen 10 c = (c <<< 6) ||| (c >>> 4)) ∧ (∀ c, c < 4 → widen 2 c = c * 0x5555) ∧
  (∀ v pal fill, (unpackPixel 2 v pal fill).a = 65535) ∧
  (∀ (s : State) (f : FrozenLayer) (src : Source) x y t, src.format = 5 ∨ src.format = 6 ∨ src.format = 7 →
    (s.bufferSampler f src).own x y = some t → t.a = 65535)

/-- The gamut stage (R126). -/
def Obligations.GamutMatrixRule : Prop :=
  ∀ (k : Colour) (head i : Nat) (p m : List Int), i < 3 → m = gamutOf k head →
  cmp (stage7 k head p) i = clampI 0 134217727
    ((m.getD (3 * i) 0 * cmp p 0 + m.getD (3 * i + 1) 0 * cmp p 1 + m.getD (3 * i + 2) 0 * cmp p 2 + 8192) / 16384) ∧
  0 ≤ cmp (stage7 k head p) i ∧ cmp (stage7 k head p) i ≤ 134217727 ∧
  (m = [16384, 0, 0, 0, 16384, 0, 0, 0, 16384] → cmp p i ≤ 134217727 → cmp (stage7 k head p) i = max 0 (cmp p i)) ∧
  (k.primaries < 3 → k.primaries = head → m = [16384, 0, 0, 0, 16384, 0, 0, 0, 16384])

/-- The adjustment of a phase (R99). -/
def Obligations.PhaseSumRestored : Prop :=
  ∀ (phase : Nat) (first : Int) (k c : List Int) (rest : Int) (i : Nat), phase < 64 →
  (k.length = 8 ∧ first = -3) ∨ (k.length = 6 ∧ first = -2) ∨ (k.length = 4 ∧ first = -1) ∨ (k.length = 2 ∧ first = 0) →
  c = k.map (clampI (-2048) 2047) → rest = 1024 - c.foldl (· + ·) 0 → i = ((if phase < 32 then 0 else 1) - first).toNat →
  (fixPhase phase first k).length = k.length ∧ (fixPhase phase first k).foldl (· + ·) 0 = 1024 ∧
  (∀ v ∈ fixPhase phase first k, -2048 ≤ v ∧ v ≤ 2047) ∧
  (-2048 ≤ c.getD i 0 + rest → c.getD i 0 + rest ≤ 2047 → fixPhase phase first k = c.set i (c.getD i 0 + rest))

/-- A quiet state stays as it is (R149, R195, R353, R361, R574). -/
def Obligations.QuietStatesStay : Prop := ∀ s : State, Quiet s → settle s = s

/-- The frame of the read rows (R353, R376, R414). -/
def Obligations.ReadsChangeTheirPortOnly : Prop :=
  ∀ r ∈ readRows, ∀ (p : Pkt) (s : State), p.port = 16 → Quiet s → Ready r.2 p s →
    (∀ k i, s.mayRead k i 16 = true) →
    ∃ q : Port, exec (r.1 p) s = .next { s with ports := tset s.ports 16 q } ∧ q.running = [] ∧ q.held = [] ∧ q.rx = []

/-- The frame of the layer settings (R60, R388). -/
def Obligations.LayerSettingsFrame : Prop :=
  ∀ r ∈ [((.layerColour : Pkt → Instr), opLayerColour), (.layerFill, opLayerFill), (.layerPolicy, opLayerPolicy)],
  ∀ (p : Pkt) (s : State) (c : Cmd), p.port = 16 → Quiet s → Ready r.2 p s → c = s.cmdOf r.2.code p →
    s.mayWrite 1 (c.p 0) 16 = true →
    ∃ (q : Port) (ls : Tab Layer), exec (r.1 p) s = .next { s with ports := tset s.ports 16 q, layers := ls } ∧
      (∀ i, i ≠ c.p 0 → tget {} ls i = s.layer i) ∧
      (∃ x : Layer, tget {} ls (c.p 0) = { s.layer (c.p 0) with
        colour := x.colour, fill := x.fill, policy := x.policy, dyn := x.dyn })

/-- The latch of 64-bit registers (R443). -/
def Obligations.TimeRegistersReadConsistently : Prop :=
  ∀ (s : State) (path : Nat), Quiet s →
  (∀ die, ReadsReg s path die 0x08 ⟨die, 0, 0x08⟩ →
    ∃ t, exec (.devTimeLoRead path die) s = .next t ∧ tget 0 t.lastRead path = s.ticks % 2 ^ 32 ∧
      (∀ j, j ≠ path → tget [] t.regs.latches j = tget [] s.regs.latches j) ∧
      ∀ u, Quiet u → u.regs.latches = t.regs.latches → ReadsReg u path 0 0x0C ⟨0, 0, 0x0C⟩ →
        ∃ v, exec (.latchedHighRead path .devTime) u = .next v ∧
          tget 0 v.lastRead path = s.ticks / 2 ^ 32 % 2 ^ 32 ∧
          (tget [] v.regs.latches path).find? (·.src = .devTime) = none) ∧
  (∀ rec r, rec < 40 → s.recLive rec = true → ReadsReg s path (recReg rec 0).1 (recReg rec 0x1C).2 r →
    r = ⟨(recReg rec 0).1, (recReg rec 0x1C).2 / 65536, (recReg rec 0x1C).2 % 65536⟩ →
    ∃ t, exec (.fcFirstTimeLoRead path rec) s = .next t ∧ tget 0 t.lastRead path = (s.frec rec).firstTime % 2 ^ 32 ∧
      (∀ j, j ≠ path → tget [] t.regs.latches j = tget [] s.regs.latches j) ∧
      ∀ u r', Quiet u → u.regs.latches = t.regs.latches → u.recLive rec = true →
        ReadsReg u path (recReg rec 0).1 (recReg rec 0x20).2 r' →
        r' = ⟨(recReg rec 0).1, (recReg rec 0x20).2 / 65536, (recReg rec 0x20).2 % 65536⟩ →
        ∃ v, exec (.latchedHighRead path (.fcFirst rec)) u = .next v ∧
          tget 0 v.lastRead path = (s.frec rec).firstTime / 2 ^ 32 % 2 ^ 32 ∧
          (tget [] v.regs.latches path).find? (·.src = .fcFirst rec) = none) ∧
  ((tget [] s.regs.latches path).find? (·.src = .devTime) = none → ReadsReg s path 0 0x0C ⟨0, 0, 0x0C⟩ →
    ∃ t, exec (.latchedHighRead path .devTime) s = .next t ∧ tget 0 t.lastRead path = s.ticks / 2 ^ 32 % 2 ^ 32) ∧
  (∀ rec r, rec < 40 → s.recLive rec = true → ReadsReg s path (recReg rec 0).1 (recReg rec 0x20).2 r →
    r = ⟨(recReg rec 0).1, (recReg rec 0x20).2 / 65536, (recReg rec 0x20).2 % 65536⟩ →
    (tget [] s.regs.latches path).find? (·.src = .fcFirst rec) = none →
    ∃ t, exec (.latchedHighRead path (.fcFirst rec)) s = .next t ∧
      tget 0 t.lastRead path = (s.frec rec).firstTime / 2 ^ 32 % 2 ^ 32)
end

