-- ==== Sys2Proof/Laws/Bytes.lean ====
section
/-! SUPPORT. The bytes of a packet: what its sender sends is what the port reads, and each packet row fits its command. -/

namespace Sys2Proof.Machine

/-- Length of the bytes of a number. -/
theorem leBytes_length (n v : Nat) : (leBytes n v).length = n := by simp [leBytes]

/-- A word is read back from its bytes. -/
theorem ofLe_leBytes (v : Nat) (h : v < 2 ^ 32) : ofLe (leBytes 4 v) = v := by
  have e : leBytes 4 v = [BitVec.ofNat 8 v, BitVec.ofNat 8 (v / 256), BitVec.ofNat 8 (v / 65536), BitVec.ofNat 8 (v / 16777216)] := by
    simp [leBytes, List.range_succ]
  rw [e]; simp only [ofLe, BitVec.toNat_ofNat]; omega

/-- A word of a list of words written as bytes. -/
theorem headerWord_words (w : List Nat) (z : List Byte) (i : Nat) (h : i < w.length) (hb : ∀ x ∈ w, x < 2 ^ 32) :
    headerWord (w.flatMap (leBytes 4) ++ z) i = w[i] := by
  unfold headerWord
  induction w generalizing i with
  | nil => simp at h
  | cons a t ih =>
    rw [List.flatMap_cons, List.append_assoc]
    cases i with
    | zero => simp [leBytes_length]; exact ofLe_leBytes a (hb a (by simp))
    | succ j =>
      rw [show 4 * (j + 1) = (leBytes 4 a).length + 4 * j by rw [leBytes_length]; omega, List.drop_append, List.drop_of_length_le (by omega), List.nil_append, Nat.add_sub_cancel_left]
      simpa using ih j (by simpa using h) (fun x hx => hb x (by simp [hx]))

/-- Header and parameter words of a packet (R347). -/
def pktWordsOf (p : Pkt) (op : Nat) : List Nat :=
  [op % 65536 + 65536 * p.params.length + 2 ^ 28 * b2n p.seqChk, p.tag + 65536 * p.seq, p.scope.toNat, 0] ++ p.params.map (·.toNat)

/-- A packet as sent is its words and the trailer (R347, R350). -/
theorem pktBytes_words (p : Pkt) (op : Nat) : pktBytes p op =
    (pktWordsOf p op).flatMap (leBytes 4) ++ leBytes 4 (trailer p.seq ((pktWordsOf p op).flatMap (leBytes 4))) := by
  have : (pktWordsOf p op).flatMap (leBytes 4) = leBytes 4 (op % 65536 + 65536 * p.params.length + 2 ^ 28 * b2n p.seqChk) ++
    leBytes 4 (p.tag + 65536 * p.seq) ++ leBytes 4 p.scope.toNat ++ leBytes 4 0 ++
    p.params.flatMap fun w => leBytes 4 w.toNat := by
    simp [pktWordsOf, List.flatMap_map]
  rw [this]; rfl

/-- The check register stays 32 bits wide. -/
theorem crcShift_lt (r : Nat) (hr : r < 2 ^ 32) : ∀ n c, c < 2 ^ 32 → crcShift r n c < 2 ^ 32
  | 0, c, h => h
  | n + 1, c, h => by
    unfold crcShift; apply crcShift_lt r hr n
    split
    · exact Nat.xor_lt_two_pow (by omega) hr
    · omega

/-- Feeding a byte keeps 32 bits. -/
theorem feed_lt {c b : Nat} (h : c < 2 ^ 32) : feed c b < 2 ^ 32 :=
  crcShift_lt _ (by decide) _ _ (Nat.xor_lt_two_pow h (Nat.lt_of_lt_of_le (Nat.mod_lt _ (by decide)) (by decide)))

/-- A trailer has 32 bits. -/
theorem trailer_lt (q : Nat) (b : List Byte) : trailer q b < 2 ^ 32 := by
  unfold trailer
  refine Nat.xor_lt_two_pow ?_ (by decide)
  have : ∀ (l : List Byte) (c : Nat), c < 2 ^ 32 → l.foldl (fun c b => feed c b.toNat) c < 2 ^ 32 := by
    intro l; induction l with
    | nil => intro c h; exact h
    | cons a t ih => intro c h; exact ih _ (feed_lt h)
  exact this b _ (feed_lt (feed_lt (by decide)))

/-- Length of words written as bytes. -/
theorem leBytes_flat_length (w : List Nat) : (w.flatMap (leBytes 4)).length = 4 * w.length := by
  induction w with
  | nil => rfl
  | cons a t ih => rw [List.flatMap_cons, List.length_append, ih, leBytes_length, List.length_cons]; omega

/-- The bytes of a well-formed S-port packet pass framing and trailer, and spell that packet (R347, R350, R351). -/
theorem runBytes_pktBytes {p : Pkt} {op : Nat} {s : State} (hw : p.wf = true) (hp : p.port = 16) (hl : p.link = 0) (hc : p.claimed = 0)
    (ho : op < 65536) : s.runBytes 16 0 0 (pktBytes p op) = s.runPkt op (opOf op) p := by
  simp only [Pkt.wf, Bool.and_eq_true, decide_eq_true_eq] at hw
  obtain ⟨⟨⟨⟨⟨_, ht⟩, hs⟩, hn⟩, _⟩, _⟩ := hw
  have hb : ∀ x ∈ pktWordsOf p op, x < 2 ^ 32 := by
    intro x hx
    simp only [pktWordsOf, List.cons_append, List.nil_append, List.mem_cons, List.mem_map] at hx
    rcases hx with rfl | rfl | rfl | rfl | ⟨w, _, rfl⟩
    · cases p.seqChk <;> simp [b2n] <;> omega
    · omega
    · exact p.scope.isLt
    · decide
    · exact w.isLt
  have hlen : (pktWordsOf p op).length = 4 + p.params.length := by simp [pktWordsOf]; omega
  have w0 : headerWord (pktBytes p op) 0 = op % 65536 + 65536 * p.params.length + 2 ^ 28 * b2n p.seqChk := by
    rw [pktBytes_words, headerWord_words _ _ 0 (by omega) hb]; rfl
  have w1 : headerWord (pktBytes p op) 1 = p.tag + 65536 * p.seq := by
    rw [pktBytes_words, headerWord_words _ _ 1 (by omega) hb]; rfl
  have w2 : headerWord (pktBytes p op) 2 = p.scope.toNat := by
    rw [pktBytes_words, headerWord_words _ _ 2 (by omega) hb]; rfl
  have wp : ∀ i, (h : i < p.params.length) → headerWord (pktBytes p op) (4 + i) = p.params[i].toNat := by
    intro i h
    rw [pktBytes_words, headerWord_words _ _ (4 + i) (by omega) hb]
    unfold pktWordsOf; rw [List.getElem_append_right (by simp)]; simp
  have hlb : (pktBytes p op).length = 20 + 4 * p.params.length := by
    rw [pktBytes_words, List.length_append, leBytes_flat_length, leBytes_length, hlen]; omega
  have hL : headerLength (pktBytes p op) = p.params.length := by
    have : headerLength (pktBytes p op) = headerWord (pktBytes p op) 0 / 65536 % 4096 := by simp [headerLength, headerWord]
    rw [this, w0]; cases p.seqChk <;> simp [b2n] <;> omega
  have wt : headerWord (pktBytes p op) (4 + p.params.length) = trailer p.seq ((pktWordsOf p op).flatMap (leBytes 4)) := by
    unfold headerWord
    rw [pktBytes_words, show 4 * (4 + p.params.length) = ((pktWordsOf p op).flatMap (leBytes 4)).length by rw [leBytes_flat_length, hlen]]
    rw [List.drop_left, List.take_of_length_le (by simp [leBytes_length])]
    exact ofLe_leBytes _ (trailer_lt _ _)
  have hf : framedOk 16 (pktBytes p op) = true := by
    simp only [framedOk, hL, hlb]; simp; omega
  have htr : trailerOk (pktBytes p op) = true := by
    simp only [trailerOk, hL, wt, w1, decide_eq_true_eq]
    rw [show (p.tag + 65536 * p.seq) / 65536 = p.seq by omega]
    congr 1
    rw [pktBytes_words, show 16 + 4 * p.params.length = ((pktWordsOf p op).flatMap (leBytes 4)).length by rw [leBytes_flat_length, hlen]; omega, List.take_left]
  have hpk : pktOf 16 0 0 (pktBytes p op) = p := by
    unfold pktOf
    simp only [hL, w0, w1, w2]
    cases p with
    | mk port tag seq chk scope params link claimed =>
    subst hp; subst hl; subst hc
    simp only [Pkt.mk.injEq, true_and]
    simp only at ht hs hn wp
    refine ⟨by omega, by omega, ?_, by simp, ?_, trivial⟩
    · simp only [bit, Nat.testBit_eq_decide_div_mod_eq]
      cases chk <;> simp [b2n] <;> omega
    · apply List.ext_getElem (by simp)
      intro i h1 h2
      simp only [List.getElem_map, List.getElem_range, wp i h2, BitVec.ofNat_toNat, BitVec.setWidth_eq]
  unfold State.runBytes
  rw [hf, htr, hpk, w0]
  have : (op % 65536 + 65536 * p.params.length + 2 ^ 28 * b2n p.seqChk) % 65536 = op := by
    cases p.seqChk <;> simp [b2n] <;> omega
  simp only [Bool.not_true, Bool.false_eq_true, if_false, this]

/-- A packet row fits its command. -/
def RowOk (r : (Pkt → Instr) × OpSpec) : Prop :=
  (∀ p s, exec (r.1 p) s = packet r.2 p s) ∧ r.2.code < 65536 ∧ opOf r.2.code = some r.2

theorem packetRows0_ok : ∀ r ∈ packetRows0, RowOk r := by
  simp only [packetRows0, List.forall_mem_cons]
  repeat' apply And.intro
  all_goals first | exact fun _ _ => rfl | exact (fun _ h => nomatch h) | rfl | decide

theorem packetRows1_ok : ∀ r ∈ packetRows1, RowOk r := by
  simp only [packetRows1, List.forall_mem_cons]
  repeat' apply And.intro
  all_goals first | exact fun _ _ => rfl | exact (fun _ h => nomatch h) | rfl | decide

theorem packetRows2_ok : ∀ r ∈ packetRows2, RowOk r := by
  simp only [packetRows2, List.forall_mem_cons]
  repeat' apply And.intro
  all_goals first | exact fun _ _ => rfl | exact (fun _ h => nomatch h) | rfl | decide

theorem packetRows3_ok : ∀ r ∈ packetRows3, RowOk r := by
  simp only [packetRows3, List.forall_mem_cons]
  repeat' apply And.intro
  all_goals first | exact fun _ _ => rfl | exact (fun _ h => nomatch h) | rfl | decide

/-- Every packet row: its command runs the row, and its code names the row. -/
theorem packetRows_ok : ∀ r ∈ packetRows, RowOk r := by
  intro r h
  simp only [packetRows, List.mem_append] at h
  rcases h with ((h | h) | h) | h
  · exact packetRows0_ok r h
  · exact packetRows1_ok r h
  · exact packetRows2_ok r h
  · exact packetRows3_ok r h

end Sys2Proof.Machine
end

