-- ==== Sys2Proof/Laws/Memory.lean ====
section
/-! SUPPORT. The canonical form of package memory, and that every memory operation keeps it. -/

namespace Sys2Proof.Machine

/-! ## Tables -/

theorem rising_iff {α : Type} : ∀ l : List (Nat × α), rising l = true ↔ l.Pairwise fun a b => a.1 < b.1
  | [] => by simp [rising]
  | [_] => by simp [rising]
  | a :: b :: t => by
    have ih := rising_iff (b :: t)
    simp only [rising, Bool.and_eq_true, decide_eq_true_eq, ih, List.pairwise_cons, List.mem_cons]
    constructor
    · rintro ⟨h, k, p⟩
      refine ⟨?_, k, p⟩
      rintro x (rfl | hx)
      · exact h
      · exact Nat.lt_trans h (k x hx)
    · rintro ⟨h, k, p⟩
      exact ⟨h b (.inl rfl), k, p⟩

theorem rising_filter {α : Type} {l : List (Nat × α)} (f : Nat × α → Bool) (h : rising l = true) :
    rising (l.filter f) = true := by
  rw [rising_iff] at h ⊢; exact h.filter f

theorem mem_tset {α : Type} {t : Tab α} {i : Nat} {v : α} {e : Nat × α} (h : e ∈ tset t i v) : e = (i, v) ∨ e ∈ t := by
  induction t with
  | nil => simpa [tset] using h
  | cons a t ih =>
    obtain ⟨k, w⟩ := a
    simp only [tset] at h
    split at h
    · rcases List.mem_cons.1 h with h | h
      · exact .inl h
      · exact .inr (List.mem_cons_of_mem _ h)
    · split at h
      · rcases List.mem_cons.1 h with h | h
        · exact .inl h
        · exact .inr h
      · rcases List.mem_cons.1 h with h | h
        · exact .inr (by simp [h])
        · rcases ih h with h | h
          · exact .inl h
          · exact .inr (List.mem_cons_of_mem _ h)

theorem rising_tset {α : Type} {t : Tab α} (i : Nat) (v : α) (h : rising t = true) : rising (tset t i v) = true := by
  rw [rising_iff] at h ⊢
  induction t with
  | nil => simp [tset]
  | cons a t ih =>
    obtain ⟨k, w⟩ := a
    obtain ⟨h1, h2⟩ := List.pairwise_cons.1 h
    simp only [tset]
    split
    · rename_i e; subst e; exact List.pairwise_cons.2 ⟨h1, h2⟩
    · split
      · rename_i _ e
        refine List.pairwise_cons.2 ⟨?_, h⟩
        intro x hx
        rcases List.mem_cons.1 hx with hx | hx
        · subst hx; exact e
        · exact Nat.lt_trans e (h1 x hx)
      · rename_i e1 e2
        refine List.pairwise_cons.2 ⟨?_, ih h2⟩
        intro x hx
        rcases mem_tset hx with hx | hx
        · subst hx; show k < i; omega
        · exact h1 x hx

theorem tfind_tset_if {α : Type} (t : Tab α) (i j : Nat) (v : α) :
    tfind (tset t i v) j = if i = j then some v else tfind t j := by
  induction t with
  | nil => simp [tset, tfind]
  | cons a t ih =>
    obtain ⟨k, w⟩ := a
    simp only [tset]
    split
    · rename_i e; subst e; simp only [tfind]; split <;> rfl
    · split
      · rfl
      · rename_i e _
        simp only [tfind, ih]
        split
        · rename_i e2; subst e2; rw [if_neg (fun x => e x.symm)]
        · rfl

theorem tfind_tdel {α : Type} (t : Tab α) (i j : Nat) : tfind (tdel t i) j = if i = j then none else tfind t j := by
  induction t with
  | nil => simp [tdel, tfind]
  | cons a t ih =>
    obtain ⟨k, w⟩ := a
    unfold tdel at ih ⊢
    rw [List.filter_cons]
    by_cases hk : k = i
    · subst hk
      simp only [ne_eq, not_true_eq_false, decide_false, Bool.false_eq_true, if_false, ih, tfind]
      split <;> rfl
    · simp only [ne_eq, hk, not_false_eq_true, decide_true, if_true, tfind, ih]
      split
      · rename_i e; subst e; rw [if_neg (fun x => hk x.symm)]
      · rfl

/-! ## Ranges of undefined content -/

theorem apart_iff : ∀ l : List (Nat × Nat × Nat),
    apart l = true ↔ (∀ r ∈ l, r.1 ≤ r.2.1) ∧ l.Pairwise fun r q => r.2.1 < q.1
  | [] => by simp [apart]
  | [r] => by simp [apart]
  | r :: q :: t => by
    have ih := apart_iff (q :: t)
    simp only [apart, Bool.and_eq_true, decide_eq_true_eq, ih, List.pairwise_cons, List.mem_cons, forall_eq_or_imp]
    constructor
    · rintro ⟨⟨h, k⟩, ⟨a, b⟩, c, d⟩
      refine ⟨⟨h, a, b⟩, ⟨k, fun x hx => ?_⟩, c, d⟩
      have := c x hx; omega
    · rintro ⟨⟨h, a, b⟩, ⟨k, _⟩, c, d⟩
      exact ⟨⟨h, k⟩, ⟨a, b⟩, c, d⟩

theorem undefAt_isSome (m : Memory) (a : Nat) : (m.undefAt a).isSome = true ↔ ∃ r ∈ m.undef, r.1 ≤ a ∧ a ≤ r.2.1 := by
  simp [Memory.undefAt, List.find?_isSome]

theorem mem_cutRange {lo hi : Nat} {l : List (Nat × Nat × Nat)} {p : Nat × Nat × Nat} (h : p ∈ cutRange lo hi l) :
    ∃ r ∈ l, r.1 ≤ p.1 ∧ p.2.1 ≤ r.2.1 ∧ (p.1 < lo ∧ p.2.1 < lo ∧ p.1 = r.1 ∨ hi < p.1 ∧ p.2.1 = r.2.1) := by
  obtain ⟨r, hr, h⟩ := List.mem_flatMap.1 h
  refine ⟨r, hr, ?_⟩
  rcases List.mem_append.1 h with h | h
  · split at h
    · rw [List.mem_singleton.1 h]; refine ⟨?_, ?_, .inl ⟨?_, ?_, ?_⟩⟩ <;> dsimp only <;> omega
    · simp at h
  · split at h
    · rw [List.mem_singleton.1 h]; refine ⟨?_, ?_, .inr ⟨?_, ?_⟩⟩ <;> dsimp only <;> omega
    · simp at h

theorem cutRange_apart {lo hi : Nat} {l : List (Nat × Nat × Nat)} (hl : lo ≤ hi) (h : apart l = true) :
    apart (cutRange lo hi l) = true := by
  rw [apart_iff] at h ⊢
  obtain ⟨h1, h2⟩ := h
  constructor
  · intro p hp
    obtain ⟨r, hr, h⟩ := List.mem_flatMap.1 hp
    have := h1 r hr
    rcases List.mem_append.1 h with h | h
    · split at h
      · rw [List.mem_singleton.1 h]; dsimp only; omega
      · simp at h
    · split at h
      · rw [List.mem_singleton.1 h]; dsimp only; omega
      · simp at h
  · unfold cutRange
    rw [List.pairwise_flatMap]
    constructor
    · intro r hr
      have := h1 r hr
      split <;> split <;> simp <;> omega
    · refine h2.imp ?_
      intro r q hrq p hp x hx
      have e1 : p.2.1 ≤ r.2.1 := by
        rcases List.mem_append.1 hp with h | h <;> split at h <;> simp at h <;> subst h <;> dsimp only <;> omega
      have e2 : q.1 ≤ x.1 := by
        rcases List.mem_append.1 hx with h | h <;> split at h <;> simp at h <;> subst h <;> dsimp only <;> omega
      omega

theorem addRange_apart {lo hi g : Nat} {l : List (Nat × Nat × Nat)} (hl : lo ≤ hi) (h : apart l = true) :
    apart (addRange (lo, hi, g) (cutRange lo hi l)) = true := by
  have hc := cutRange_apart hl h
  rw [apart_iff] at hc ⊢
  obtain ⟨c1, c2⟩ := hc
  have side : ∀ p ∈ cutRange lo hi l, p.2.1 < lo ∨ hi < p.1 := by
    intro p hp
    obtain ⟨r, _, _, _, h | h⟩ := mem_cutRange hp
    · exact .inl h.2.1
    · exact .inr h.1
  unfold addRange
  constructor
  · intro p hp
    rcases List.mem_append.1 hp with hp | hp
    · exact c1 p (List.mem_filter.1 hp).1
    · rcases List.mem_cons.1 hp with hp | hp
      · subst hp; exact hl
      · exact c1 p (List.mem_filter.1 hp).1
  · refine List.pairwise_append.2 ⟨c2.filter _, List.pairwise_cons.2 ⟨?_, c2.filter _⟩, ?_⟩
    · intro p hp
      obtain ⟨hp, hlt⟩ := List.mem_filter.1 hp
      have := of_decide_eq_true hlt
      have := c1 p hp
      rcases side p hp with h | h <;> dsimp only at * <;> omega
    · intro p hp q hq
      obtain ⟨hp, hlt⟩ := List.mem_filter.1 hp
      have := of_decide_eq_true hlt
      have hp2 : p.2.1 < lo := by rcases side p hp with h | h <;> dsimp only at * <;> omega
      rcases List.mem_cons.1 hq with hq | hq
      · subst hq; exact hp2
      · obtain ⟨hq, hlt⟩ := List.mem_filter.1 hq
        have := of_decide_eq_true hlt
        dsimp only at this; omega

/-! ## The canonical form -/

/-- The parts of the canonical form. -/
structure Memory.Canonical (m : Memory) : Prop where
  cells : rising m.cells = true
  listed : ∀ c ∈ m.cells, (m.undefAt c.1).isSome = true ∨ c.2 ≠ resetByte c.1
  ranges : apart m.undef = true
  errs : rising m.err = true
  dirty : ∀ e ∈ m.err, e.2 ≠ 0

theorem wf_iff (m : Memory) : m.wf = true ↔ m.Canonical := by
  unfold Memory.wf
  simp only [Bool.and_eq_true, List.all_eq_true, Bool.or_eq_true, decide_eq_true_eq]
  exact ⟨fun ⟨⟨⟨⟨a, b⟩, c⟩, d⟩, e⟩ => ⟨a, b, c, d, e⟩, fun h => ⟨⟨⟨⟨h.cells, h.listed⟩, h.ranges⟩, h.errs⟩, h.dirty⟩⟩

@[simp] theorem put_undefAt (m : Memory) (a : Nat) (b : Byte) (x : Nat) : (m.put a b).undefAt x = m.undefAt x := by
  unfold Memory.put; split <;> rfl
@[simp] theorem put_err (m : Memory) (a : Nat) (b : Byte) : (m.put a b).err = m.err := by
  unfold Memory.put; split <;> rfl
@[simp] theorem put_undef (m : Memory) (a : Nat) (b : Byte) : (m.put a b).undef = m.undef := by
  unfold Memory.put; split <;> rfl

theorem put_wf {m : Memory} (a : Nat) (b : Byte) (h : m.wf = true) : (m.put a b).wf = true := by
  rw [wf_iff] at h ⊢
  refine ⟨?_, ?_, by simpa using h.ranges, by simpa using h.errs, by simpa using h.dirty⟩
  · unfold Memory.put; split
    · exact rising_filter _ h.cells
    · exact rising_tset a b h.cells
  · simp only [put_undefAt]
    unfold Memory.put; split
    · intro c hc; exact h.listed c (List.mem_filter.1 hc).1
    · rename_i hn
      intro c hc
      rcases mem_tset hc with hc | hc
      · subst hc
        by_cases hu : (m.undefAt a).isSome = true
        · exact .inl hu
        · refine .inr fun e => hn ⟨?_, e⟩
          simpa using hu
      · exact h.listed c hc

theorem foldl_wf {α : Type} {f : Memory → α → Memory} (hf : ∀ m x, m.wf = true → (f m x).wf = true) :
    ∀ (l : List α) {m : Memory}, m.wf = true → (l.foldl f m).wf = true
  | [], _, h => h
  | x :: t, m, h => foldl_wf hf t (hf m x h)

theorem putBytes_wf : ∀ (l : List Byte) {m : Memory} (a : Nat), m.wf = true → (m.putBytes a l).wf = true
  | [], _, _, h => h
  | b :: t, _, a, h => putBytes_wf t (a + 1) (put_wf a b h)

theorem setErr_wf {m : Memory} (w : Nat) (p : BitVec 72) (h : m.wf = true) : (m.setErr w p).wf = true := by
  rw [wf_iff] at h ⊢
  refine ⟨h.cells, h.listed, h.ranges, ?_, ?_⟩ <;> unfold Memory.setErr <;> dsimp only <;> split
  · exact rising_filter _ h.errs
  · exact rising_tset w p h.errs
  · intro e he; exact h.dirty e (List.mem_filter.1 he).1
  · rename_i hp
    intro e he
    rcases mem_tset he with he | he
    · subst he; exact hp
    · exact h.dirty e he

theorem writeWord_wf {m : Memory} (w : Nat) (new : List (Option Byte)) (h : m.wf = true) : (m.writeWord w new).1.wf = true := by
  unfold Memory.writeWord; split
  · exact setErr_wf _ _ (putBytes_wf _ _ h)
  · exact setErr_wf _ _ (putBytes_wf _ _ h)

theorem write_wf {m : Memory} (a : Nat) (d : List Byte) (h : m.wf = true) : (m.write a d).1.wf = true := by
  unfold Memory.write
  generalize wordsOf a d.length = l
  have : ∀ (l : List Nat) (acc : Memory × Bool), acc.1.wf = true →
      (l.foldl (fun acc w =>
        let r := acc.1.writeWord w ((List.range 8).map fun i => if a ≤ 8 * w + i then d[8 * w + i - a]? else none)
        (r.1, acc.2 || r.2)) acc).1.wf = true := by
    intro l
    induction l with
    | nil => intro acc h; exact h
    | cons x t ih => intro acc h; exact ih _ (writeWord_wf _ _ h)
  exact this l (m, false) h

theorem cutRange_keeps {lo hi a : Nat} {l : List (Nat × Nat × Nat)} (ha : a < lo ∨ hi < a) {r : Nat × Nat × Nat}
    (hr : r ∈ l) (h1 : r.1 ≤ a) (h2 : a ≤ r.2.1) : ∃ p ∈ cutRange lo hi l, p.1 ≤ a ∧ a ≤ p.2.1 := by
  rcases ha with ha | ha
  · refine ⟨(r.1, min r.2.1 (lo - 1), r.2.2), List.mem_flatMap.2 ⟨r, hr, List.mem_append.2 (.inl ?_)⟩, h1, by dsimp only; omega⟩
    rw [if_pos (by omega)]; simp
  · refine ⟨(max r.1 (hi + 1), r.2.1, r.2.2), List.mem_flatMap.2 ⟨r, hr, List.mem_append.2 (.inr ?_)⟩, by dsimp only; omega, h2⟩
    rw [if_pos (by omega)]; simp

theorem outside {α : Type} {lo hi : Nat} {l : List (Nat × α)} {c : Nat × α}
    (h : c ∈ l.filter fun c => decide (c.1 < lo) || decide (hi < c.1)) : c ∈ l ∧ (c.1 < lo ∨ hi < c.1) := by
  obtain ⟨h1, h2⟩ := List.mem_filter.1 h
  exact ⟨h1, by simpa using h2⟩

theorem clear_wf {m : Memory} (lo hi : Nat) (h : m.wf = true) : (m.clear lo hi).wf = true := by
  unfold Memory.clear; split
  · exact h
  rename_i hl
  rw [wf_iff] at h ⊢
  refine ⟨rising_filter _ h.cells, ?_, cutRange_apart (by omega) h.ranges, rising_filter _ h.errs,
    fun e he => h.dirty e (List.mem_filter.1 he).1⟩
  intro c hc
  obtain ⟨h1, h2⟩ := outside hc
  rcases h.listed c h1 with h3 | h3
  · left
    obtain ⟨r, hr, h4, h5⟩ := (undefAt_isSome m c.1).1 h3
    exact (undefAt_isSome _ c.1).2 (cutRange_keeps h2 hr h4 h5)
  · exact .inr h3

theorem forget_wf {m : Memory} (lo hi g : Nat) (h : m.wf = true) : (m.forget lo hi g).wf = true := by
  have hc := clear_wf lo hi h
  unfold Memory.forget; split
  · exact h
  rename_i hl
  have hr := ((wf_iff m).1 h).ranges
  rw [wf_iff] at hc ⊢
  refine ⟨hc.cells, ?_, addRange_apart (by omega) hr, hc.errs, hc.dirty⟩
  intro c hm
  have he : (m.clear lo hi).undef = cutRange lo hi m.undef := by unfold Memory.clear; rw [if_neg hl]
  rcases hc.listed c hm with h3 | h3
  · left
    obtain ⟨r, hr, h4, h5⟩ := (undefAt_isSome _ c.1).1 h3
    rw [he] at hr
    refine (undefAt_isSome _ c.1).2 ⟨r, ?_, h4, h5⟩
    obtain ⟨_, _, _, _, h | h⟩ := mem_cutRange hr
    · exact List.mem_append.2 (.inl (List.mem_filter.2 ⟨hr, decide_eq_true h.1⟩))
    · exact List.mem_append.2 (.inr (List.mem_cons_of_mem _ (List.mem_filter.2 ⟨hr, decide_eq_true (by dsimp only; omega)⟩)))
  · exact .inr h3

theorem copyFrom_wf {m old : Memory} (src dst n g : Nat) (h : m.wf = true) : (m.copyFrom old src dst n g).wf = true := by
  unfold Memory.copyFrom; split
  · exact h
  refine foldl_wf (fun m x h => ?_) _ (foldl_wf (fun m x h => put_wf _ _ h) _ (foldl_wf (fun m x h => forget_wf _ _ _ h) _ (clear_wf _ _ h)))
  split
  · exact h
  · exact put_wf _ _ h

theorem mirrorPart_wf {m : Memory} (areas : List Nat) (src dst n g : Nat) (h : m.wf = true) :
    (m.mirrorPart areas src dst n g).wf = true := foldl_wf (fun _ _ h => copyFrom_wf _ _ _ _ h) _ h

/-- Memory right after reset is in canonical form. -/
theorem reset_wf : State.reset.mem.memory.wf = true := rfl

/-! ## Reading back -/

/-- A byte reads as it was stored. -/
theorem put_byte (m : Memory) (a : Nat) (b : Byte) : (m.put a b).byte a = b := by
  unfold Memory.put Memory.byte
  split
  · rename_i h
    have hb : Memory.blank { m with cells := tdel m.cells a } a = b := by
      unfold Memory.blank
      have hu : Memory.undefAt { m with cells := tdel m.cells a } a = none := by
        have h1 := h.1
        simp only [Option.isNone_iff_eq_none] at h1
        exact h1
      rw [hu, h.2]
    rw [tfind_tdel, if_pos rfl, Option.getD_none, hb]
  · rw [tfind_tset_if, if_pos rfl, Option.getD_some]

/-- Storing a byte leaves every other byte. -/
theorem put_byte_other (m : Memory) {a x : Nat} (b : Byte) (h : a ≠ x) : (m.put a b).byte x = m.byte x := by
  unfold Memory.put Memory.byte
  split
  · rw [tfind_tdel, if_neg h]; rfl
  · rw [tfind_tset_if, if_neg h]; rfl

/-! ## Words and ranges -/

/-- What a table holds is what it lists, or the default. -/
theorem tget_find {α : Type} (d : α) (t : Tab α) (i : Nat) : tget d t i = (tfind t i).getD d := by
  induction t with
  | nil => rfl
  | cons a t ih => obtain ⟨k, v⟩ := a; simp only [tget, tfind]; split <;> simp [*]

/-- Storing a byte leaves what is listed elsewhere. -/
theorem put_tfind (m : Memory) (a x : Nat) (b : Byte) (h : a ≠ x) : tfind (m.put a b).cells x = tfind m.cells x := by
  unfold Memory.put; split
  · show tfind (tdel m.cells a) x = _; rw [tfind_tdel, if_neg h]
  · show tfind (tset m.cells a b) x = _; rw [tfind_tset_if, if_neg h]

/-- Every byte after bytes are stored. -/
theorem putBytes_byte : ∀ (l : List Byte) (m : Memory) (a x : Nat),
    (m.putBytes a l).byte x = if a ≤ x ∧ x < a + l.length then l.getD (x - a) 0 else m.byte x
  | [], m, a, x => by rw [Memory.putBytes, if_neg (by simp)]
  | b :: t, m, a, x => by
    rw [Memory.putBytes, putBytes_byte t]
    by_cases h : x = a
    · subst h
      rw [if_neg (by omega), if_pos (by simp), put_byte]; simp
    · rw [put_byte_other _ _ (fun e => h e.symm)]
      by_cases h2 : a + 1 ≤ x ∧ x < a + 1 + t.length
      · rw [if_pos h2, if_pos (by simp; omega), show x - a = (x - (a + 1)) + 1 by omega]; simp
      · rw [if_neg h2, if_neg (by simp; omega)]

/-- Storing bytes leaves what is listed outside them. -/
theorem putBytes_tfind : ∀ (l : List Byte) (m : Memory) (a x : Nat), ¬ (a ≤ x ∧ x < a + l.length) →
    tfind (m.putBytes a l).cells x = tfind m.cells x
  | [], m, a, x, _ => rfl
  | b :: t, m, a, x, h => by
    rw [Memory.putBytes, putBytes_tfind t _ _ _ (by simp at h; omega), put_tfind]
    rintro rfl; exact h (by simp)

/-- Storing bytes leaves the undefined ranges. -/
theorem putBytes_undefAt : ∀ (l : List Byte) (m : Memory) (a x : Nat), (m.putBytes a l).undefAt x = m.undefAt x
  | [], _, _, _ => rfl
  | b :: t, m, a, x => by rw [Memory.putBytes, putBytes_undefAt t]; simp

/-- Storing bytes leaves the error patterns. -/
theorem putBytes_err : ∀ (l : List Byte) (m : Memory) (a : Nat), (m.putBytes a l).err = m.err
  | [], _, _ => rfl
  | b :: t, m, a => by rw [Memory.putBytes, putBytes_err t]; simp

/-- The listed error pattern of every word after one is set. -/
theorem setErr_find (m : Memory) (w x : Nat) (p : BitVec 72) :
    tfind (m.setErr w p).err x = if w = x then (if p = 0 then none else some p) else tfind m.err x := by
  unfold Memory.setErr; dsimp only
  split
  · rw [tfind_tdel]
  · rw [tfind_tset_if]

/-- A byte that was stored is listed, or lies in no undefined range. -/
theorem put_listed (m : Memory) (a : Nat) (b : Byte) : tfind (m.put a b).cells a = none → m.undefAt a = none := by
  unfold Memory.put; split
  · rename_i h; intro _; simpa using h.1
  · show tfind (tset m.cells a b) a = none → _; rw [tfind_tset_if, if_pos rfl]; intro h; cases h

/-- A word that was stored whole is no undefined content. -/
theorem stored_word (m : Memory) (w : Nat) (l : List Byte) (hl : l.length = 8) (p : BitVec 72) :
    ((m.putBytes (8 * w) l).setErr w p).rawWord w = none := by
  unfold Memory.rawWord
  split
  · rename_i h
    have h : tfind (m.putBytes (8 * w) l).cells (8 * w) = none := by simpa [Memory.setErr] using h
    show (m.putBytes (8 * w) l).undefAt (8 * w) = none
    rw [putBytes_undefAt]
    match l, hl with
    | b :: t, hl =>
      rw [Memory.putBytes, putBytes_tfind _ _ _ _ (by omega)] at h
      exact put_listed m _ b h
  · rfl

/-- The bytes of a word that was stored whole. -/
theorem stored_bytes (m : Memory) (w : Nat) (l : List Byte) (hl : l.length = 8) (p : BitVec 72) :
    ((m.putBytes (8 * w) l).setErr w p).bytes (8 * w) 8 = l := by
  unfold Memory.bytes
  apply List.ext_getElem (by simp [hl])
  intro i h1 h2
  have : ((m.putBytes (8 * w) l).setErr w p).byte (8 * w + i) = (m.putBytes (8 * w) l).byte (8 * w + i) := rfl
  rw [List.getElem_map, List.getElem_range, this, putBytes_byte, if_pos (by simp at h1; omega)]
  simp [List.getElem?_eq_getElem h2]

/-- A word stored whole without an error reads as stored. -/
theorem clean_read (m : Memory) (w : Nat) (l : List Byte) (hl : l.length = 8) :
    ((m.putBytes (8 * w) l).setErr w 0).judge w = ⟨0, 0, 0⟩ ∧ ((m.putBytes (8 * w) l).setErr w 0).readWord w = l := by
  have he : tget 0 ((m.putBytes (8 * w) l).setErr w 0).err w = 0 := by
    rw [tget_find, setErr_find, if_pos rfl, if_pos rfl]; rfl
  have hj : ((m.putBytes (8 * w) l).setErr w 0).judge w = ⟨0, 0, 0⟩ := by
    unfold Memory.judge; rw [stored_word m w l hl, he]; exact (by decide : eccJudge 0 = ⟨0, 0, 0⟩)
  refine ⟨hj, ?_⟩
  unfold Memory.readWord; rw [he, hj]
  simpa using stored_bytes m w l hl 0

/-- Storing one word leaves what every other word reads as. -/
theorem other_word (m : Memory) (w x : Nat) (l : List Byte) (hl : l.length = 8) (p : BitVec 72) (h : x ≠ w) :
    ((m.putBytes (8 * w) l).setErr w p).judge x = m.judge x ∧ ((m.putBytes (8 * w) l).setErr w p).readWord x = m.readWord x := by
  have he : tfind ((m.putBytes (8 * w) l).setErr w p).err x = tfind m.err x := by
    rw [setErr_find, if_neg (fun e => h e.symm), putBytes_err]
  have hg : tget 0 ((m.putBytes (8 * w) l).setErr w p).err x = tget 0 m.err x := by rw [tget_find, tget_find, he]
  have hr : ((m.putBytes (8 * w) l).setErr w p).rawWord x = m.rawWord x := by
    unfold Memory.rawWord
    have : tfind ((m.putBytes (8 * w) l).setErr w p).cells (8 * x) = tfind m.cells (8 * x) :=
      putBytes_tfind l m _ _ (by omega)
    rw [this]
    have : ((m.putBytes (8 * w) l).setErr w p).undefAt (8 * x) = m.undefAt (8 * x) := putBytes_undefAt l m _ _
    rw [this]
  have hj : ((m.putBytes (8 * w) l).setErr w p).judge x = m.judge x := by
    unfold Memory.judge; rw [hr, he, hg]
  refine ⟨hj, ?_⟩
  have hb : ∀ i < 8, ((m.putBytes (8 * w) l).setErr w p).byte (8 * x + i) = m.byte (8 * x + i) := by
    intro i hi
    have : ((m.putBytes (8 * w) l).setErr w p).byte (8 * x + i) = (m.putBytes (8 * w) l).byte (8 * x + i) := rfl
    rw [this, putBytes_byte, if_neg (by omega)]
  unfold Memory.readWord; rw [hj, hg]
  dsimp only
  have hbs : ((m.putBytes (8 * w) l).setErr w p).bytes (8 * x) 8 = m.bytes (8 * x) 8 := by
    unfold Memory.bytes; apply List.map_congr_left; intro i hi; exact hb i (by simpa using hi)
  rw [hbs]
  refine ite_congr rfl (fun _ => rfl) (fun _ => ?_)
  apply List.map_congr_left; intro i hi; rw [hb i (by simpa using hi)]

/-- A word delivers eight bytes. -/
theorem readWord_length (m : Memory) (w : Nat) : (m.readWord w).length = 8 := by
  unfold Memory.readWord; dsimp only; rw [apply_ite List.length]; simp [Memory.bytes]

/-- The bytes of a word after new bytes are merged into what it reads as (R314). -/
def mergedWord (m : Memory) (w : Nat) (new : List (Option Byte)) : List Byte :=
  (List.range 8).map fun i => (new.getD i none).getD ((m.readWord w).getD i 0)

/-- Whether a merge meets an uncorrectable word (R314). -/
def badMerge (m : Memory) (w : Nat) (new : List (Option Byte)) : Bool := !new.all Option.isSome && decide (2 ≤ (m.judge w).kind)

/-- All that writing one word does: the merged bytes, and a poisoned word after a bad merge (R314). -/
theorem writeWord_eq (m : Memory) (w : Nat) (new : List (Option Byte)) (hn : new.length = 8) :
    m.writeWord w new = (((m.putBytes (8 * w) (mergedWord m w new)).setErr w (if badMerge m w new then poisonPat else 0)), badMerge m w new) := by
  unfold Memory.writeWord badMerge
  split
  · rename_i h
    have : new.map (·.getD 0) = mergedWord m w new := by
      apply List.ext_getElem (by simp [mergedWord, hn])
      intro i h1 h2
      simp only [mergedWord, List.getElem_map, List.getElem_range]
      have hi : i < new.length := by simpa using h1
      rw [List.getD_eq_getElem?_getD, List.getElem?_eq_getElem hi]
      have := List.all_eq_true.1 h new[i] (List.getElem_mem hi)
      obtain ⟨b, hb⟩ := Option.isSome_iff_exists.1 this
      simp [hb]
    rw [this]; simp [h]
  · rename_i h
    have h' : new.all Option.isSome = false := by simpa using h
    simp [h', mergedWord]

/-- A merged word has eight bytes. -/
theorem mergedWord_length (m : Memory) (w : Nat) (new : List (Option Byte)) : (mergedWord m w new).length = 8 := by simp [mergedWord]

section
variable (g : Nat → List (Option Byte)) (hg : ∀ w, (g w).length = 8)

/-- One word of a write. -/
def writeStep (g : Nat → List (Option Byte)) (acc : Memory × Bool) (w : Nat) : Memory × Bool :=
  ((acc.1.writeWord w (g w)).1, acc.2 || (acc.1.writeWord w (g w)).2)
include hg in

/-- All that writing several words does. -/
theorem writeSteps : ∀ (L : List Nat), L.Nodup → ∀ (acc : Memory × Bool),
    (∀ x, x ∉ L → (L.foldl (writeStep g) acc).1.judge x = acc.1.judge x ∧ (L.foldl (writeStep g) acc).1.readWord x = acc.1.readWord x ∧
      tfind (L.foldl (writeStep g) acc).1.err x = tfind acc.1.err x) ∧
    (∀ x ∈ L, (badMerge acc.1 x (g x) = false → (L.foldl (writeStep g) acc).1.readWord x = mergedWord acc.1 x (g x)) ∧
      (badMerge acc.1 x (g x) = true → tget 0 (L.foldl (writeStep g) acc).1.err x = poisonPat)) ∧
    (L.foldl (writeStep g) acc).2 = (acc.2 || L.any fun x => badMerge acc.1 x (g x)) := by
  intro L
  induction L with
  | nil => intro _ acc; simp
  | cons w t ih =>
    intro hn acc
    obtain ⟨hw, ht⟩ := List.nodup_cons.1 hn
    obtain ⟨i1, i2, i3⟩ := ih ht (writeStep g acc w)
    have e := writeWord_eq acc.1 w (g w) (hg w)
    have ho : ∀ x, x ≠ w → (writeStep g acc w).1.judge x = acc.1.judge x ∧ (writeStep g acc w).1.readWord x = acc.1.readWord x ∧
        tfind (writeStep g acc w).1.err x = tfind acc.1.err x := by
      intro x hx
      show ((acc.1.writeWord w (g w)).1).judge x = _ ∧ ((acc.1.writeWord w (g w)).1).readWord x = _ ∧ tfind ((acc.1.writeWord w (g w)).1).err x = _
      rw [e]
      obtain ⟨a, b⟩ := other_word acc.1 w x (mergedWord acc.1 w (g w)) (mergedWord_length _ _ _) (if badMerge acc.1 w (g w) then poisonPat else 0) hx
      refine ⟨a, b, ?_⟩
      show tfind (Memory.setErr _ w _).err x = _
      rw [setErr_find, if_neg (fun e => hx e.symm), putBytes_err]
    have hbm : ∀ x, x ≠ w → badMerge (writeStep g acc w).1 x (g x) = badMerge acc.1 x (g x) ∧ mergedWord (writeStep g acc w).1 x (g x) = mergedWord acc.1 x (g x) := by
      intro x hx
      obtain ⟨a, b, _⟩ := ho x hx
      unfold badMerge mergedWord; rw [a, b]; exact ⟨rfl, rfl⟩
    rw [List.foldl_cons]
    refine ⟨fun x hx => ?_, fun x hx => ?_, ?_⟩
    · have hxw : x ≠ w := fun e => hx (by simp [e])
      obtain ⟨a, b, c⟩ := i1 x (fun h => hx (by simp [h]))
      obtain ⟨a', b', c'⟩ := ho x hxw
      exact ⟨a.trans a', b.trans b', c.trans c'⟩
    · by_cases hxw : x = w
      · subst hxw
        obtain ⟨_, b, c⟩ := i1 x hw
        rw [b, tget_find, c]
        constructor
        · intro hb
          show ((acc.1.writeWord x (g x)).1).readWord x = _
          rw [e, hb]
          exact (clean_read acc.1 x _ (mergedWord_length _ _ _)).2
        · intro hb
          show (tfind ((acc.1.writeWord x (g x)).1).err x).getD 0 = _
          rw [e, hb]
          show (tfind (Memory.setErr _ x _).err x).getD 0 = _
          rw [setErr_find, if_pos rfl, if_pos rfl, if_neg (by decide)]; rfl
      · have hx' : x ∈ t := by simpa [hxw] using hx
        obtain ⟨a, b⟩ := hbm x hxw
        obtain ⟨j1, j2⟩ := i2 x hx'
        rw [a] at j1 j2; rw [b] at j1
        exact ⟨j1, j2⟩
    · rw [i3]
      have : (writeStep g acc w).2 = (acc.2 || badMerge acc.1 w (g w)) := by
        show (acc.2 || (acc.1.writeWord w (g w)).2) = _; rw [e]
      rw [this, List.any_cons, Bool.or_assoc]
      congr 2
      rw [Bool.eq_iff_iff, List.any_eq_true, List.any_eq_true]
      constructor <;> rintro ⟨x, hx, h⟩ <;> refine ⟨x, hx, ?_⟩
      · rw [← (hbm x (fun e => hw (e ▸ hx))).1]; exact h
      · rw [(hbm x (fun e => hw (e ▸ hx))).1]; exact h
end

/-- A range touches each word once. -/
theorem wordsOf_nodup (a n : Nat) : (wordsOf a n).Nodup := by
  unfold wordsOf; split
  · exact List.nodup_nil
  · rw [List.nodup_iff_pairwise_ne, List.pairwise_map]; exact List.pairwise_lt_range.imp (fun h => by omega)

/-- The words that a range touches. -/
theorem mem_wordsOf {a n w : Nat} : w ∈ wordsOf a n ↔ n ≠ 0 ∧ a / 8 ≤ w ∧ w ≤ (a + n - 1) / 8 := by
  unfold wordsOf; split
  · rename_i h; simp [h]
  · rename_i h
    simp only [List.mem_map, List.mem_range]
    constructor
    · rintro ⟨x, hx, rfl⟩; exact ⟨h, by omega, by omega⟩
    · rintro ⟨_, h1, h2⟩; exact ⟨w - a / 8, by omega, by omega⟩

/-- Words of eight bytes side by side. -/
theorem range_words (f : Nat → Byte) : ∀ (k b : Nat), ((List.range k).map (b + ·)).flatMap (fun w => (List.range 8).map fun i => f (8 * w + i)) =
    (List.range (8 * k)).map fun i => f (8 * b + i) := by
  intro k
  induction k with
  | zero => intro b; rfl
  | succ k ih =>
    intro b
    rw [show (List.range (k + 1)).map (b + ·) = (List.range k).map (b + ·) ++ [b + k] by rw [List.range_succ (n := k)]; simp, List.flatMap_append, ih b]
    rw [show 8 * (k + 1) = 8 * k + 8 by omega, List.range_add, List.map_append]
    congr 1
    simp [List.range_succ, Nat.mul_add, Nat.add_assoc]

/-- Reading a range whose words are known. -/
theorem read_of_words (m : Memory) (a n : Nat) (f : Nat → Byte) (h : ∀ w ∈ wordsOf a n, m.readWord w = (List.range 8).map fun i => f (8 * w + i)) :
    m.read a n = (List.range n).map fun i => f (a + i) := by
  unfold Memory.read
  by_cases hn : n = 0
  · subst hn; simp
  have fc : ∀ L : List Nat, (∀ w ∈ L, m.readWord w = (List.range 8).map fun i => f (8 * w + i)) →
      L.flatMap m.readWord = L.flatMap (fun w => (List.range 8).map fun i => f (8 * w + i)) := by
    intro L; induction L with
    | nil => intro _; rfl
    | cons x t ih => intro h; rw [List.flatMap_cons, List.flatMap_cons, h x (by simp), ih (fun w hw => h w (by simp [hw]))]
  rw [fc _ h]
  have : wordsOf a n = (List.range ((a + n - 1) / 8 - a / 8 + 1)).map (a / 8 + ·) := by simp [wordsOf, hn]
  rw [this, range_words]
  apply List.ext_getElem
  · simp; omega
  · intro i h1 h2
    simp only [List.getElem_take, List.getElem_drop, List.getElem_map, List.getElem_range]
    congr 1; omega

end Sys2Proof.Machine
end

