-- ==== Sys2Proof/Laws/Mirror.lean ====
section
/-! SUPPORT. What mirroring does to the rest of the state: where nothing is due it does nothing, and what is to be sent
touches the cascade alone. -/

namespace Sys2Proof.Machine

/-- A fold whose every step leaves the state leaves it. -/
theorem foldl_same {α β : Type} {f : β → α → β} {s : β} : ∀ l : List α, (∀ a ∈ l, f s a = s) → l.foldl f s = s
  | [], _ => rfl
  | a :: t, h => by
    rw [List.foldl_cons, h a List.mem_cons_self]
    exact foldl_same t fun b hb => h b (List.mem_cons_of_mem _ hb)

/-- A fold whose every step keeps a reading of the state keeps it. -/
theorem foldl_keeps {α β γ : Type} {f : β → α → β} (g : β → γ) (hf : ∀ s a, g (f s a) = g s) :
    ∀ (l : List α) (s : β), g (l.foldl f s) = g s
  | [], _ => rfl
  | a :: t, s => by rw [List.foldl_cons, foldl_keeps g hf t, hf]

@[simp] theorem toSend_pwr (s : State) (o : List Out) : (s.toSend o).pwr = s.pwr := rfl
@[simp] theorem toSend_mem (s : State) (o : List Out) : (s.toSend o).mem = s.mem := rfl
@[simp] theorem toSend_layers (s : State) (o : List Out) : (s.toSend o).layers = s.layers := rfl
@[simp] theorem toSend_ports (s : State) (o : List Out) : (s.toSend o).ports = s.ports := rfl

/-- A package that is no master of members notes no mirror write (R534). -/
theorem mirrorStore_alone {s : State} (h : s.isMaster = false ∨ s.casc.members = []) (a : Nat) (d : List Byte) :
    s.mirrorStore a d = s := by
  unfold State.mirrorStore
  rw [if_neg fun x => ?_]
  rcases h with h | h
  · rw [h] at x; exact Bool.false_ne_true x.1
  · exact x.2 h

/-- Noting a mirror write leaves memory, layers and ports (R534). -/
theorem mirrorStore_keeps (s : State) (a : Nat) (d : List Byte) :
    (s.mirrorStore a d).mem = s.mem ∧ (s.mirrorStore a d).layers = s.layers ∧ (s.mirrorStore a d).ports = s.ports := by
  unfold State.mirrorStore; split <;> exact ⟨rfl, rfl, rfl⟩

/-- A stored block in the mirror set of a layer is to be sent to each of its holders (R534). -/
theorem mirrorStore_sends (t : State) {layer pkg a : Nat} {l : Layer} {r : Nat × Nat} {data : List Byte}
    (h1 : t.isMaster = true) (h2 : t.casc.members ≠ []) (h3 : (layer, l) ∈ t.layers) (h4 : pkg ∈ l.holders)
    (h5 : r ∈ l.mirrorSet) (h6 : r.1 < a + data.length) (h7 : a < r.1 + r.2) :
    Out.write pkg layer a data ∈ (t.mirrorStore a data).casc.outQ := by
  unfold State.mirrorStore
  rw [if_pos ⟨h1, h2⟩]
  unfold State.toSend
  refine List.mem_append_right _ (List.mem_flatMap.2 ⟨_, h3, ?_⟩)
  have : (l.mirrorSet.any fun r => decide (r.1 < a + data.length) && decide (a < r.1 + r.2)) = true :=
    List.any_eq_true.2 ⟨r, h5, by simp [h6, h7]⟩
  simp only [this, if_true]
  exact List.mem_map.2 ⟨pkg, h4, rfl⟩

/-- With no layer's mirroring due, settling leaves the state (R66, R67). -/
theorem settleMirror_same {s : State} (h : ∀ e ∈ s.layers, s.mirrorDue e.2 = false) : s.settleMirror = s := by
  unfold State.settleMirror
  exact foldl_same _ fun e he => by rw [h e he]; rfl

/-- With nothing to send, sending leaves the state. -/
theorem sendOut_same {s : State} (h : s.casc.outQ = []) : s.sendOut = s := by
  unfold State.sendOut; rw [h]; rfl

/-- Handing over touches nothing of the power state (R548). -/
theorem handOver_pwr (s : State) : s.handOver.pwr = s.pwr := by
  unfold State.handOver
  split
  · rw [foldl_keeps State.pwr fun s a => by split <;> rfl]; rfl
  · rfl

/-- A flip that still waits for a holder is not ready (R67). -/
theorem flipReady_waits {s : State} {f : Flip} (h : f.pendingHolders ≠ []) : s.flipReady f = false := by
  unfold State.flipReady
  cases hp : f.pendingHolders with
  | nil => exact absurd hp h
  | cons a t => rfl

end Sys2Proof.Machine
end

