-- ==== Sys2Proof/Laws/Packet.lean ====
section
/-! SUPPORT. What a command packet does that passes its checks: the lemmas about the path of a packet, which the
proofs about packet commands cite in place of unfolding it. -/

namespace Sys2Proof.Machine

/-! ## What a taken packet leaves as it is -/

theorem noteSeq_eq (s : State) (p : Pkt) : s.noteSeq p = s ∨ ∃ f, s.noteSeq p = s.modPort p.port f := by
  unfold State.noteSeq; split
  · exact .inr ⟨_, rfl⟩
  · exact .inl rfl

/-- A taken packet changes its port and the note of a C-port session alone. -/
theorem taken_eq (s : State) (p : Pkt) : ∃ t b, s.taken p = { s with ports := t, casc := { s.casc with cRun := b } } := by
  unfold State.taken State.noteC State.noteTag
  rcases noteSeq_eq s p with h | ⟨f, h⟩ <;> rw [h] <;> split
  · exact ⟨_, _, rfl⟩
  · exact ⟨_, s.casc.cRun, rfl⟩
  · exact ⟨_, _, rfl⟩
  · exact ⟨_, s.casc.cRun, rfl⟩

@[simp] theorem taken_cfg (s : State) (p : Pkt) : (s.taken p).cfg = s.cfg := by
  obtain ⟨t, b, h⟩ := taken_eq s p; rw [h]
@[simp] theorem taken_now (s : State) (p : Pkt) : (s.taken p).now = s.now := by
  obtain ⟨t, b, h⟩ := taken_eq s p; rw [h]
@[simp] theorem taken_refNs (s : State) (p : Pkt) : (s.taken p).refNs = s.refNs := by
  obtain ⟨t, b, h⟩ := taken_eq s p; rw [h]
@[simp] theorem taken_regs (s : State) (p : Pkt) : (s.taken p).regs = s.regs := by
  obtain ⟨t, b, h⟩ := taken_eq s p; rw [h]
@[simp] theorem taken_acc (s : State) (p : Pkt) : (s.taken p).acc = s.acc := by
  obtain ⟨t, b, h⟩ := taken_eq s p; rw [h]
@[simp] theorem taken_mem (s : State) (p : Pkt) : (s.taken p).mem = s.mem := by
  obtain ⟨t, b, h⟩ := taken_eq s p; rw [h]
@[simp] theorem taken_clk (s : State) (p : Pkt) : (s.taken p).clk = s.clk := by
  obtain ⟨t, b, h⟩ := taken_eq s p; rw [h]
@[simp] theorem taken_wx (s : State) (p : Pkt) : (s.taken p).wx = s.wx := by
  obtain ⟨t, b, h⟩ := taken_eq s p; rw [h]
@[simp] theorem taken_wy (s : State) (p : Pkt) : (s.taken p).wy = s.wy := by
  obtain ⟨t, b, h⟩ := taken_eq s p; rw [h]
@[simp] theorem taken_windowSet (s : State) (p : Pkt) : (s.taken p).windowSet = s.windowSet := by
  obtain ⟨t, b, h⟩ := taken_eq s p; rw [h]
@[simp] theorem taken_framed (s : State) (p : Pkt) : (s.taken p).framed = s.framed := by
  obtain ⟨t, b, h⟩ := taken_eq s p; rw [h]
@[simp] theorem taken_layers (s : State) (p : Pkt) : (s.taken p).layers = s.layers := by
  obtain ⟨t, b, h⟩ := taken_eq s p; rw [h]
@[simp] theorem taken_palettes (s : State) (p : Pkt) : (s.taken p).palettes = s.palettes := by
  obtain ⟨t, b, h⟩ := taken_eq s p; rw [h]
@[simp] theorem taken_coefSets (s : State) (p : Pkt) : (s.taken p).coefSets = s.coefSets := by
  obtain ⟨t, b, h⟩ := taken_eq s p; rw [h]
@[simp] theorem taken_eotf (s : State) (p : Pkt) : (s.taken p).eotf = s.eotf := by
  obtain ⟨t, b, h⟩ := taken_eq s p; rw [h]
@[simp] theorem taken_tone (s : State) (p : Pkt) : (s.taken p).tone = s.tone := by
  obtain ⟨t, b, h⟩ := taken_eq s p; rw [h]
@[simp] theorem taken_coefStage (s : State) (p : Pkt) : (s.taken p).coefStage = s.coefStage := by
  obtain ⟨t, b, h⟩ := taken_eq s p; rw [h]
@[simp] theorem taken_eotfStage (s : State) (p : Pkt) : (s.taken p).eotfStage = s.eotfStage := by
  obtain ⟨t, b, h⟩ := taken_eq s p; rw [h]
@[simp] theorem taken_toneStage (s : State) (p : Pkt) : (s.taken p).toneStage = s.toneStage := by
  obtain ⟨t, b, h⟩ := taken_eq s p; rw [h]
@[simp] theorem taken_heads (s : State) (p : Pkt) : (s.taken p).heads = s.heads := by
  obtain ⟨t, b, h⟩ := taken_eq s p; rw [h]
@[simp] theorem taken_groups (s : State) (p : Pkt) : (s.taken p).groups = s.groups := by
  obtain ⟨t, b, h⟩ := taken_eq s p; rw [h]
@[simp] theorem taken_links (s : State) (p : Pkt) : (s.taken p).links = s.links := by
  obtain ⟨t, b, h⟩ := taken_eq s p; rw [h]
@[simp] theorem taken_inputs (s : State) (p : Pkt) : (s.taken p).inputs = s.inputs := by
  obtain ⟨t, b, h⟩ := taken_eq s p; rw [h]
@[simp] theorem taken_audio (s : State) (p : Pkt) : (s.taken p).audio = s.audio := by
  obtain ⟨t, b, h⟩ := taken_eq s p; rw [h]
@[simp] theorem taken_tokens (s : State) (p : Pkt) : (s.taken p).tokens = s.tokens := by
  obtain ⟨t, b, h⟩ := taken_eq s p; rw [h]
@[simp] theorem taken_mantel (s : State) (p : Pkt) : (s.taken p).mantel = s.mantel := by
  obtain ⟨t, b, h⟩ := taken_eq s p; rw [h]
@[simp] theorem taken_faults (s : State) (p : Pkt) : (s.taken p).faults = s.faults := by
  obtain ⟨t, b, h⟩ := taken_eq s p; rw [h]
@[simp] theorem taken_irq (s : State) (p : Pkt) : (s.taken p).irq = s.irq := by
  obtain ⟨t, b, h⟩ := taken_eq s p; rw [h]
@[simp] theorem taken_chans (s : State) (p : Pkt) : (s.taken p).chans = s.chans := by
  obtain ⟨t, b, h⟩ := taken_eq s p; rw [h]
@[simp] theorem taken_cvs (s : State) (p : Pkt) : (s.taken p).cvs = s.cvs := by
  obtain ⟨t, b, h⟩ := taken_eq s p; rw [h]
@[simp] theorem taken_telem (s : State) (p : Pkt) : (s.taken p).telem = s.telem := by
  obtain ⟨t, b, h⟩ := taken_eq s p; rw [h]
@[simp] theorem taken_repair (s : State) (p : Pkt) : (s.taken p).repair = s.repair := by
  obtain ⟨t, b, h⟩ := taken_eq s p; rw [h]
@[simp] theorem taken_pwr (s : State) (p : Pkt) : (s.taken p).pwr = s.pwr := by
  obtain ⟨t, b, h⟩ := taken_eq s p; rw [h]
@[simp] theorem taken_admQ (s : State) (p : Pkt) : (s.taken p).admQ = s.admQ := by
  obtain ⟨t, b, h⟩ := taken_eq s p; rw [h]
@[simp] theorem taken_hostMem (s : State) (p : Pkt) : (s.taken p).hostMem = s.hostMem := by
  obtain ⟨t, b, h⟩ := taken_eq s p; rw [h]
@[simp] theorem taken_lastRead (s : State) (p : Pkt) : (s.taken p).lastRead = s.lastRead := by
  obtain ⟨t, b, h⟩ := taken_eq s p; rw [h]
@[simp] theorem taken_shifted (s : State) (p : Pkt) : (s.taken p).shifted = s.shifted := by
  obtain ⟨t, b, h⟩ := taken_eq s p; rw [h]
@[simp] theorem taken_freeCtr (s : State) (p : Pkt) : (s.taken p).freeCtr = s.freeCtr := by
  obtain ⟨t, b, h⟩ := taken_eq s p; rw [h]
@[simp] theorem taken_pending (s : State) (p : Pkt) : (s.taken p).pending = s.pending := by
  obtain ⟨t, b, h⟩ := taken_eq s p; rw [h]

theorem target_taken (s : State) (p : Pkt) (l : List Nat) (c : Cmd) : (s.taken p).target l c = s.target l c := by
  obtain ⟨t, b, h⟩ := taken_eq s p; rw [h]; rfl

theorem powerBusy_taken (s : State) (p : Pkt) (c : Cmd) : (s.taken p).powerBusy c = s.powerBusy c := by
  obtain ⟨t, b, h⟩ := taken_eq s p; rw [h]; rfl

theorem permits_note (s : State) (p : Pkt) (sp : OpSpec) (port : Nat) (c : Cmd) :
    ((s.noteSeq p).noteTag p).permits sp port c = s.permits sp port c := by
  rcases noteSeq_eq s p with h | ⟨f, h⟩ <;> rw [h] <;> rfl

theorem mustWait_note (s : State) (p : Pkt) (c : Cmd) (r b : List Cmd) :
    ((s.noteSeq p).noteTag p).mustWait c r b = s.mustWait c r b := by
  rcases noteSeq_eq s p with h | ⟨f, h⟩ <;> rw [h] <;> rfl

/-! ## A packet that passes its checks -/

/-- A packet that passes its checks runs the body of its row, and the answer is given (R351). -/
theorem runPacket_ready {sp : OpSpec} {p : Pkt} {s : State} (h : Ready sp p s) :
    runPacket sp p s =
      (((s.taken p).answer p.port (s.cmdOf sp.code p) (sp.body p.port (s.cmdOf sp.code p) (s.taken p))).genStep sp
        (s.cmdOf sp.code p) (sp.body p.port (s.cmdOf sp.code p) (s.taken p)).accepted) := by
  have hq : ¬(sequenced p = true ∧ p.seq ≠ (s.port p.port).rxSeq) := fun x => x.2 (h.seq x.1)
  have e4 := (target_taken s p sp.levels (s.cmdOf sp.code p)).trans h.here
  have e5 := (powerBusy_taken s p (s.cmdOf sp.code p)).trans h.power
  have e : runPacket sp p s = ((s.noteSeq p).noteTag p).start sp p.port (s.cmdOf sp.code p) := by
    simp only [runPacket, h.accepts, h.room, h.first, State.runPkt, if_neg hq, h.tag, permits_note, h.permits,
      mustWait_note, h.free, Bool.not_true, Bool.false_eq_true, if_false, List.isEmpty_nil, and_self, if_true]
  rw [e]
  unfold State.start
  dsimp only
  rw [show (((s.noteSeq p).noteTag p).noteC p.port) = s.taken p from rfl, e4]
  dsimp only
  unfold State.runHere
  rw [e5]
  rfl

/-- A body that answers OK gives the reply OK. -/
theorem runPacket_ok {sp : OpSpec} {p : Pkt} {s u t : State} {c : Cmd} {cl : Bool} {ws : List Nat}
    (h : Passes sp p s u c) (hb : sp.body p.port c u = .ok cl ws t) (hp : t.pwr.step ≠ .aoBoot) :
    runPacket sp p s = t.replyOk sp p.port c cl ws := by
  obtain ⟨h, rfl, rfl⟩ := h
  rw [runPacket_ready h, hb]
  have : wasReset (s.taken p) t = false := by simp [wasReset, hp]
  simp only [State.answer, Res.words, this]
  rfl

/-- A body that answers a status gives the reply with that status. -/
theorem runPacket_err {sp : OpSpec} {p : Pkt} {s u : State} {c : Cmd} {st : Nat} (h : Passes sp p s u c)
    (hb : sp.body p.port c u = .err st) : runPacket sp p s = u.replyErr p.port c st := by
  obtain ⟨h, rfl, rfl⟩ := h
  rw [runPacket_ready h, hb]
  have : wasReset (s.taken p) (s.taken p) = false := by simp [wasReset]
  simp only [State.answer, Res.words, this, Res.accepted, State.genStep, Bool.and_false]
  rfl

/-- A body that leaves its command in progress. -/
theorem runPacket_wait {sp : OpSpec} {p : Pkt} {s u t : State} {c : Cmd} (h : Passes sp p s u c)
    (hb : sp.body p.port c u = .wait t) : runPacket sp p s = t.inProgress p.port c := by
  obtain ⟨h, rfl, rfl⟩ := h
  rw [runPacket_ready h, hb]
  simp [State.answer, Res.accepted, State.genStep]

/-- A body that submits its command to admission. -/
theorem runPacket_admission {sp : OpSpec} {p : Pkt} {s u : State} {c : Cmd} (h : Passes sp p s u c)
    (hb : sp.body p.port c u = .admission) : runPacket sp p s = u.submitted p.port c := by
  obtain ⟨h, rfl, rfl⟩ := h
  rw [runPacket_ready h, hb]
  simp [State.answer, Res.accepted, State.genStep, State.submitted]

/-- The Bureau runs while a port takes packets. -/
theorem Ready.up {sp : OpSpec} {p : Pkt} {s : State} (h : Ready sp p s) : s.pwr.step ≠ .aoBoot := by
  have := h.accepts
  intro e
  simp [State.accepts, State.bureauUp, e] at this

/-- The state in which a command's effect begins is in no start. -/
theorem Passes.up {sp : OpSpec} {p : Pkt} {s u : State} {c : Cmd} (h : Passes sp p s u c) :
    u.pwr.step ≠ .aoBoot := by
  obtain ⟨h, rfl, rfl⟩ := h; simpa using h.up

/-- A row that is not marked m leaves the system generation (R545). -/
theorem genStep_plain {s : State} {sp : OpSpec} {c : Cmd} {ok : Bool} (h : sp.m c = false) :
    s.genStep sp c ok = s := by
  unfold State.genStep; rw [h]; rfl

/-- Where every condition of direct layers is kept, a command goes on (R260). -/
theorem withDirect_kept {old new : State} {k : Res} (h : directKept old new) : withDirect old new k = k := by
  unfold withDirect
  split
  · rfl
  · rename_i st hst
    obtain ⟨e, he, hf⟩ := List.exists_of_findSome?_eq_some hst
    cases hd : new.directFault e.1 with
    | none => rw [hd] at hf; cases hf
    | some v => rw [hd] at hf; simp [h e he v hd] at hf

/-- Where no head newly breaks a placement rule, a command goes on (R59, R87). -/
theorem withPlacing_kept {old new : State} {k : Res} (h : placingKept old new) : withPlacing old new k = k := by
  unfold withPlacing
  split
  · rfl
  · rename_i e he
    have := List.find?_some he
    have hm := List.mem_of_find?_eq_some he
    simp [h e hm] at this

/-- A command on a layer that it may write goes on (R415). -/
theorem withLayer_open {u : State} {c : Cmd} {k : Res} (h : layerOpen u c) (hn : c.params ≠ []) :
    withLayer u c k = k := by
  have h0 : c.n ≠ 0 := fun e => hn (List.length_eq_zero_iff.1 e)
  simp [withLayer, h0, Nat.not_le.2 h.1, withWrite, h.2]

/-- A command on heads that it may write goes on (R415). -/
theorem withHeads_open {u : State} {c : Cmd} {k : Res} {l : List Nat} (h : headsOpen u c l) :
    withHeads u c l k = k := by
  induction l with
  | nil => rfl
  | cons a t ih =>
    have h1 : u.mayWrite 2 a c.master = true := h a List.mem_cons_self
    simp only [withHeads, withWrite, h1, if_true]
    exact ih fun x hx => h x (List.mem_cons_of_mem _ hx)

/-! ## The next state of a command packet -/

/-- A packet command whose body answers OK completes with its reply. -/
theorem exec_ok {sp : OpSpec} {p : Pkt} {s u t : State} {c : Cmd} {cl : Bool} {ws : List Nat} {i : Instr}
    (h : Passes sp p s u c) (he : exec i s = packet sp p s) (hb : sp.body p.port c u = .ok cl ws t)
    (hp : t.pwr.step ≠ .aoBoot) : exec i s = .next (settle (t.replyOk sp p.port c cl ws)) := by
  rw [he, packet, runPacket_ok h hb hp]

/-- A packet command that is refused completes with its reply. -/
theorem exec_err {sp : OpSpec} {p : Pkt} {s u : State} {c : Cmd} {st : Nat} {i : Instr} (h : Passes sp p s u c)
    (he : exec i s = packet sp p s) (hb : sp.body p.port c u = .err st) :
    exec i s = .next (settle (u.replyErr p.port c st)) := by
  rw [he, packet, runPacket_err h hb]

/-- A packet command that stays in progress. -/
theorem exec_wait {sp : OpSpec} {p : Pkt} {s u t : State} {c : Cmd} {i : Instr} (h : Passes sp p s u c)
    (he : exec i s = packet sp p s) (hb : sp.body p.port c u = .wait t) :
    exec i s = .next (settle (t.inProgress p.port c)) := by
  rw [he, packet, runPacket_wait h hb]

/-- A packet command that waits for admission. -/
theorem exec_admission {sp : OpSpec} {p : Pkt} {s u : State} {c : Cmd} {i : Instr} (h : Passes sp p s u c)
    (he : exec i s = packet sp p s) (hb : sp.body p.port c u = .admission) :
    exec i s = .next (settle (u.submitted p.port c)) := by
  rw [he, packet, runPacket_admission h hb]

/-- The end of admission for an accepted change that needs nothing more. -/
theorem exec_judged {sp : OpSpec} {s u t : State} {port : Nat} {c : Cmd} {cl : Bool} {ws : List Nat}
    (h : Judged sp s u port c) (ho : opOf sp.code = some sp) (hb : sp.judge port c u = .ok cl ws t)
    (ha : admissionFails u t = none) :
    exec .admissionComplete s =
      .next (settle ((t.replan.finish port c (replyWord stOk cl 0 :: ws)).genStep sp c true)) := by
  obtain ⟨h1, h2, h3⟩ := h
  show execAdmissionComplete s = _
  unfold execAdmissionComplete
  rw [h1]
  dsimp only
  rw [h3, ho]
  dsimp only
  rw [← h2, hb]
  simp only [State.conclude, Res.passes, ha, Option.isNone_none]

/-- The end of admission for an accepted change that goes on. -/
theorem exec_judged_wait {sp : OpSpec} {s u t : State} {port : Nat} {c : Cmd}
    (h : Judged sp s u port c) (ho : opOf sp.code = some sp) (hb : sp.judge port c u = .wait t)
    (ha : admissionFails u t = none) :
    exec .admissionComplete s = .next (settle (t.replan.genStep sp c true)) := by
  obtain ⟨h1, h2, h3⟩ := h
  show execAdmissionComplete s = _
  unfold execAdmissionComplete
  rw [h1]
  dsimp only
  rw [h3, ho]
  dsimp only
  rw [← h2, hb]
  simp only [State.conclude, Res.passes, ha, Option.isNone_none]

/-- The end of admission for a change that raises a quantity above its limit: nothing is applied (R162, R375). -/
theorem exec_not_admitted {sp : OpSpec} {s u t : State} {port : Nat} {c : Cmd} {cl : Bool} {ws : List Nat}
    {q : Quantity} (h : Judged sp s u port c) (ho : opOf sp.code = some sp)
    (hb : sp.judge port c u = .ok cl ws t) (ha : admissionFails u t = some q) :
    exec .admissionComplete s = .next (settle (u.finish port c q.words)) := by
  obtain ⟨h1, h2, h3⟩ := h
  show execAdmissionComplete s = _
  unfold execAdmissionComplete
  rw [h1]
  dsimp only
  rw [h3, ho]
  dsimp only
  rw [← h2, hb]
  simp only [State.conclude, Res.passes, ha, Option.isNone_some, State.genStep, Bool.and_false]
  rfl

/-- The end of admission for a change that is refused with a status: nothing is applied. -/
theorem exec_judged_err {sp : OpSpec} {s u : State} {port : Nat} {c : Cmd} {st : Nat}
    (h : Judged sp s u port c) (ho : opOf sp.code = some sp) (hb : sp.judge port c u = .err st) :
    exec .admissionComplete s = .next (settle (u.finish port c [replyWord st false 0])) := by
  obtain ⟨h1, h2, h3⟩ := h
  show execAdmissionComplete s = _
  unfold execAdmissionComplete
  rw [h1]
  dsimp only
  rw [h3, ho]
  dsimp only
  rw [← h2, hb]
  simp [State.conclude, Res.passes, Res.words, State.genStep]

end Sys2Proof.Machine
end

