-- ==== Sys2Proof/Laws/PerInstr.lean ====
section
/-! SUPPORT. The unit indices that a command names, with the number of such units, for every command: a command is
well formed exactly where each index is in range (R7, R347). -/

namespace Sys2Proof.Laws.Wf

/-- Fields of a packet and their bounds (R345, R347). -/
def pktBounds (p : Pkt) : List (Nat × Nat) :=
  [(p.port, 19), (p.tag, 4096), (p.seq, 65536), (p.params.length, 253), (p.link, 8), (p.claimed, 4)]

/-- The indices that a command names, each with the number of its units. -/
def bounds : Instr → List (Nat × Nat)
  | .devIdentify p => pktBounds p
  | .devCaps p => pktBounds p
  | .devEvents p => pktBounds p
  | .devTime p => pktBounds p
  | .devNop p => pktBounds p
  | .devRegread p => pktBounds p
  | .devRegwrite p => pktBounds p
  | .pwrSet p => pktBounds p
  | .pwrWake p => pktBounds p
  | .pwrRead p => pktBounds p
  | .clkSeed p => pktBounds p
  | .clkRegion p => pktBounds p
  | .clkHeel p => pktBounds p
  | .clkGenlock p => pktBounds p
  | .clkReflost p => pktBounds p
  | .clkRead p => pktBounds p
  | .memRate p => pktBounds p
  | .memRowprot p => pktBounds p
  | .memErrlog p => pktBounds p
  | .memRead p => pktBounds p
  | .accWindow p => pktBounds p
  | .accTable p => pktBounds p
  | .accRead p => pktBounds p
  | .canvasWindow p => pktBounds p
  | .canvasRead p => pktBounds p
  | .layerPlace p => pktBounds p
  | .layerRemove p => pktBounds p
  | .layerSource p => pktBounds p
  | .layerFlip p => pktBounds p
  | .layerScale p => pktBounds p
  | .layerColour p => pktBounds p
  | .layerFill p => pktBounds p
  | .layerPolicy p => pktBounds p
  | .layerPalette p => pktBounds p
  | .layerCoefset p => pktBounds p
  | .layerEotftable p => pktBounds p
  | .layerTonetable p => pktBounds p
  | .layerRead p => pktBounds p
  | .headPlace p => pktBounds p
  | .headTiming p => pktBounds p
  | .headBind p => pktBounds p
  | .headGroup p => pktBounds p
  | .headPair p => pktBounds p
  | .headColour p => pktBounds p
  | .headCommit p => pktBounds p
  | .headPolicy p => pktBounds p
  | .headRead p => pktBounds p
  | .linkConfig p => pktBounds p
  | .linkTrain p => pktBounds p
  | .linkAux p => pktBounds p
  | .linkAutostart p => pktBounds p
  | .linkRead p => pktBounds p
  | .inputConfig p => pktBounds p
  | .inputEdid p => pktBounds p
  | .inputCapture p => pktBounds p
  | .inputBind p => pktBounds p
  | .inputAudio p => pktBounds p
  | .inputStatus p => pktBounds p
  | .audioConfig p => pktBounds p
  | .audioRoute p => pktBounds p
  | .audioMute p => pktBounds p
  | .audioStatus p => pktBounds p
  | .mantelArea p => pktBounds p
  | .mantelAtlas p => pktBounds p
  | .mantelPalette p => pktBounds p
  | .mantelBackdrop p => pktBounds p
  | .mantelSprites p => pktBounds p
  | .mantelCommit p => pktBounds p
  | .mantelArm p => pktBounds p
  | .mantelStore p => pktBounds p
  | .mantelRead p => pktBounds p
  | .ctmWrite p => pktBounds p
  | .ctmFill p => pktBounds p
  | .ctmRead p => pktBounds p
  | .verifyExpect p => pktBounds p
  | .verifyReact p => pktBounds p
  | .verifyRelease p => pktBounds p
  | .verifyTiles p => pktBounds p
  | .verifyEcho p => pktBounds p
  | .verifySafefill p => pktBounds p
  | .verifyRead p => pktBounds p
  | .faultRead p => pktBounds p
  | .faultClear p => pktBounds p
  | .faultReact p => pktBounds p
  | .faultBark p => pktBounds p
  | .faultInject p => pktBounds p
  | .irqRoute p => pktBounds p
  | .irqMask p => pktBounds p
  | .irqHoldoff p => pktBounds p
  | .irqRead p => pktBounds p
  | .dmaOwn p => pktBounds p
  | .dmaSetup p => pktBounds p
  | .dmaToken p => pktBounds p
  | .dmaPause p => pktBounds p
  | .dmaRead p => pktBounds p
  | .telemRead p => pktBounds p
  | .telemPush p => pktBounds p
  | .telemLimit p => pktBounds p
  | .wearOrbit p => pktBounds p
  | .wearCap p => pktBounds p
  | .wearRead p => pktBounds p
  | .repairLedger p => pktBounds p
  | .repairRetire p => pktBounds p
  | .repairClear p => pktBounds p
  | .cascCeiling p => pktBounds p
  | .cascDeputy p => pktBounds p
  | .cascRead p => pktBounds p
  | .svcExit p => pktBounds p
  | .svcBist p => pktBounds p
  | .svcClkobs p => pktBounds p
  | .svcMemread p => pktBounds p
  | .send _ => []
  | .sendQuad _ => []
  | .receive _ => []
  | .receiveQuad _ => []
  | .status => []
  | .sPortInvalidInstruction _ => []
  | .svcPacket _ => []
  | .idcode => []
  | .bypass _ => []
  | .extest _ => []
  | .sqTail fn unit _ => [(fn, 16), (unit, 65536)]
  | .cqHead fn unit => [(fn, 16), (unit, 65536)]
  | .ringCtrlWrite path fn _ => [(path, 18), (fn, 16)]
  | .irqAck fn vec => [(fn, 16), (vec, 128)]
  | .functionLevelReset fn => [(fn, 16)]
  | .vfDisable keep => [(keep, 16)]
  | .pcieLinkDown => []
  | .busMasterEnableClear fn => [(fn, 16)]
  | .busMasterEnableSet fn => [(fn, 16)]
  | .bar2Read fn _ _ => [(fn, 16)]
  | .bar2Write fn _ _ => [(fn, 16)]
  | .registerWrite fn _ _ _ => [(fn, 16)]
  | .cfgLockLock path die _ => [(path, 18), (die, 2)]
  | .iaAddrWrite path die _ => [(path, 18), (die, 2)]
  | .iaDataRead path die => [(path, 18), (die, 2)]
  | .iaDataWrite path die _ => [(path, 18), (die, 2)]
  | .indirectReadTimeout path die => [(path, 18), (die, 2)]
  | .indirectWriteComplete die => [(die, 2)]
  | .complementPairOpen path die _ _ => [(path, 18), (die, 2)]
  | .complementPairTimeout master die => [(master, 64), (die, 2)]
  | .faultReactPair path die i _ _ => [(path, 18), (die, 2), (i, 256)]
  | .barkWidthPair path die _ _ => [(path, 18), (die, 2)]
  | .errRel path _ _ => [(path, 18)]
  | .irqTargetWrite path die i _ => [(path, 18), (die, 2), (i, 256)]
  | .irqMaskRegisterWrite path die n _ => [(path, 18), (die, 2), (n, 8)]
  | .fcStickyClear path rec _ _ => [(path, 18), (rec, 40)]
  | .accErrRead path die => [(path, 18), (die, 2)]
  | .fnStatRead path fn => [(path, 18), (fn, 16)]
  | .devTimeLoRead path die => [(path, 18), (die, 2)]
  | .fcFirstTimeLoRead path rec => [(path, 18), (rec, 40)]
  | .latchedHighRead path _ => [(path, 18)]
  | .dmaDoorbell path ch _ => [(path, 18), (ch, 32)]
  | .dmaChainWrite path ch _ _ => [(path, 18), (ch, 32)]
  | .dmaCtrlPause path ch => [(path, 18), (ch, 32)]
  | .dmaCtrlResume path ch => [(path, 18), (ch, 32)]
  | .dmaIrqClear path ch _ => [(path, 18), (ch, 32)]
  | .cvCtrlStart path unit _ => [(path, 18), (unit, 8)]
  | .cvDataWrite path unit _ _ => [(path, 18), (unit, 8)]
  | .cvResultRead path unit => [(path, 18), (unit, 8)]
  | .cvByteProcessed unit => [(unit, 8)]
  | .headCommitLine h => [(h, 128)]
  | .verticalBlankingStart h => [(h, 128)]
  | .endOfLastActiveLine h => [(h, 128)]
  | .headLineStart h _ => [(h, 128)]
  | .underrun h _ _ => [(h, 128)]
  | .leFetchWindow h _ => [(h, 128)]
  | .echoCrcReadComplete h _ _ _ _ => [(h, 128)]
  | .memoryRequestArrival _ => []
  | .commandSlot pc => [(pc, 128)]
  | .memoryReadComplete _ _ => []
  | .reHomingComplete g => [(g, 8)]
  | .caParityError pc _ => [(pc, 128)]
  | .refreshInterval pc bank => [(pc, 128), (bank, 48)]
  | .refreshWindowEnd g => [(g, 8)]
  | .rowIdleTimeout pc bank => [(pc, 128), (bank, 48)]
  | .urgencyRecompute g => [(g, 8)]
  | .unreservedAgeTimeout g => [(g, 8)]
  | .writeBufferOverflow _ => []
  | .retrainStepDue pc => [(pc, 128)]
  | .retrainStepSkip pc => [(pc, 128)]
  | .retrainStepComplete pc _ => [(pc, 128)]
  | .selfRefreshIdleEntry pc => [(pc, 128)]
  | .trainingCacheWrite band => [(band, 11)]
  | .memoryCoreLocked die => [(die, 2)]
  | .rateChangeVerified die _ => [(die, 2)]
  | .refclkWatchdogCount _ => []
  | .lockWindowEnd synth _ => [(synth, 140)]
  | .parkedSynthWake synth _ => [(synth, 140)]
  | .rampUpdate synth => [(synth, 140)]
  | .pixelLockReturnTimeout h => [(h, 128)]
  | .clockSwitchFault synth => [(synth, 140)]
  | .leaderEvent _ _ _ => []
  | .leaderLost _ _ => []
  | .genlockEdge _ _ => []
  | .genlockLost => []
  | .linkPlug l => [(l, 96)]
  | .linkUnplug l => [(l, 96)]
  | .irqHpd l _ _ => [(l, 96)]
  | .hpdGlitch l => [(l, 96)]
  | .linkTrainingSlotFree die => [(die, 2)]
  | .auxTransactionReply l _ _ => [(l, 96)]
  | .auxReplyTimeout l => [(l, 96)]
  | .discoveryRestartTimer l => [(l, 96)]
  | .discoveryComplete l _ => [(l, 96)]
  | .trainingAttemptEnd l _ _ => [(l, 96)]
  | .trainingAttemptTimeout l _ => [(l, 96)]
  | .linkFailedRetry l => [(l, 96)]
  | .linkLockLoss l => [(l, 96)]
  | .inputSourceTraining v _ _ => [(v, 16)]
  | .inputSymbolLockLoss v => [(v, 16)]
  | .inputLineTimeout v => [(v, 16)]
  | .inputLineEnd v _ _ _ => [(v, 16)]
  | .inputFrameEnd v _ => [(v, 16)]
  | .captureFrameComplete v => [(v, 16)]
  | .inputNosignalTimeout v => [(v, 16)]
  | .inputEdidHpdTimer v => [(v, 16)]
  | .inputAudioStop v => [(v, 16)]
  | .audioWsPeriod _ _ _ _ => []
  | .audioWindowEnd _ _ _ _ _ => []
  | .audioWsTimeout _ => []
  | .audioPartialBlockTimer _ => []
  | .audioChangeTimeout h ch => [(h, 128), (ch, 2)]
  | .faultDetected rec bit _ _ => [(rec, 40), (bit, 64)]
  | .blockResetComplete rec _ => [(rec, 40)]
  | .barkPulseElapsed => []
  | .irqDelivery => []
  | .holdoffExpiry group => [(group, 16)]
  | .bureauIrqAck die core => [(die, 2), (core, 4)]
  | .mantelPairMiscompare c => [(c, 32)]
  | .mantelPairTestComplete c _ => [(c, 32)]
  | .mantelAreaCopyComplete => []
  | .mantelSealComplete => []
  | .lutImageReadComplete c => [(c, 32)]
  | .clusterWake c => [(c, 32)]
  | .regionPowerGate g => [(g, 8)]
  | .dmaDescriptorFetched ch _ => [(ch, 32)]
  | .dmaRequestResponse ch _ _ _ => [(ch, 32)]
  | .dmaRetryTimer ch => [(ch, 32)]
  | .dmaDescriptorComplete ch => [(ch, 32)]
  | .dmaLinkRereadResult ch _ => [(ch, 32)]
  | .dmaDrainComplete ch => [(ch, 32)]
  | .dmaOwnerStopComplete ch => [(ch, 32)]
  | .kennelRotationDue c => [(c, 32)]
  | .handoverCompareResult c _ => [(c, 32)]
  | .kennelLogicTestComplete c _ => [(c, 32)]
  | .leFaultDetected c slot => [(c, 32), (slot, 9)]
  | .kennelTakeoverComplete c _ => [(c, 32)]
  | .leShortTestComplete c slot _ => [(c, 32), (slot, 9)]
  | .migrationSynthLocked h => [(h, 128)]
  | .migrationLinkSwitch h => [(h, 128)]
  | .ledgerWriteComplete => []
  | .bureauFailover die => [(die, 2)]
  | .bureauPairSelftestComplete die _ => [(die, 2)]
  | .houndScrubRead _ _ => []
  | .calibrationTick _ _ => []
  | .wearUpdateTick => []
  | .wearOrbitStep h => [(h, 128)]
  | .telemPushPeriod => []
  | .telemSensorReading _ _ _ => []
  | .thermalTrip => []
  | .thermalTripRelease => []
  | .wakeEvent bit => [(bit, 6)]
  | .powerTransitionComplete => []
  | .aoIoRailsGood => []
  | .porRelease => []
  | .aoIoRailLoss => []
  | .railOutOfRange rail => [(rail, 4)]
  | .switchedRailTimeout => []
  | .resetNPulse _ => []
  | .aoBootDone _ => []
  | .referenceLockDone => []
  | .bureauBootDone _ => []
  | .hbmInitDone _ _ => []
  | .mantelLoadDone => []
  | .warmStartStepDone => []
  | .birtonPartnerPatterns b => [(b, 8)]
  | .birtonCandidateEnd b _ => [(b, 8)]
  | .birtonIdentFrame b _ => [(b, 8)]
  | .birtonFrameReceived b _ => [(b, 8)]
  | .birtonNakReceived b _ => [(b, 8)]
  | .birtonLockLoss b => [(b, 8)]
  | .birtonDownRetry b => [(b, 8)]
  | .birtonConflictTimeout b => [(b, 8)]
  | .cableDelayEcho b _ => [(b, 8)]
  | .timingFrameSend group => [(group, 34)]
  | .timingFrameReceived b group _ _ => [(b, 8), (group, 33)]
  | .timingClassLost => []
  | .followerLeft pkg => [(pkg, 8)]
  | .masterLost => []
  | .deputyTakeover => []
  | .mastershipHandback => []
  | .mirrorWriteReceived b _ _ => [(b, 8)]
  | .mirrorAckReceived pkg layer _ => [(pkg, 8), (layer, 1024)]
  | .lineStreamFrame h _ _ _ => [(h, 128)]
  | .compositeLineMissing h _ => [(h, 128)]
  | .admissionComplete => []
  | .unknownOpcode port _ => [(port, 19)]
  | .supEnDrop => []
  | .lastSupplyInRegulation => []
  | .pcieLinkUp => []
  | .vfEnable n => [(n, 16)]
  | .msiXTargetWake fn _ => [(fn, 16)]

/-- A command is well formed exactly where every index it names is in range. -/
def Statement (i : Instr) : Prop := i.wf = true ↔ ∀ b ∈ bounds i, b.1 < b.2

theorem packet (p : Pkt) : p.wf = true ↔ ∀ b ∈ pktBounds p, b.1 < b.2 := by
  simp only [Pkt.wf, pktBounds, Bool.and_eq_true, decide_eq_true_eq, List.forall_mem_cons, Nat.lt_succ_iff]
  simp [and_assoc]

theorem none : true = true ↔ ∀ b ∈ ([] : List (Nat × Nat)), b.1 < b.2 := by simp

theorem one (a m : Nat) : decide (a < m) = true ↔ ∀ b ∈ [(a, m)], b.1 < b.2 := by simp

theorem two (a m b n : Nat) :
    (decide (a < m) && decide (b < n)) = true ↔ ∀ c ∈ [(a, m), (b, n)], c.1 < c.2 := by simp

theorem three (a m b n c k : Nat) :
    (decide (a < m) && decide (b < n) && decide (c < k)) = true ↔
      ∀ d ∈ [(a, m), (b, n), (c, k)], d.1 < d.2 := by simp [and_assoc]

theorem four (a m b n c k d l : Nat) :
    (decide (a < m) && decide (b < n) && decide (c < k) && decide (d < l)) = true ↔
      ∀ e ∈ [(a, m), (b, n), (c, k), (d, l)], e.1 < e.2 := by simp [and_assoc]

theorem devIdentify (p : Pkt) : Statement (.devIdentify p) := packet p
theorem devCaps (p : Pkt) : Statement (.devCaps p) := packet p
theorem devEvents (p : Pkt) : Statement (.devEvents p) := packet p
theorem devTime (p : Pkt) : Statement (.devTime p) := packet p
theorem devNop (p : Pkt) : Statement (.devNop p) := packet p
theorem devRegread (p : Pkt) : Statement (.devRegread p) := packet p
theorem devRegwrite (p : Pkt) : Statement (.devRegwrite p) := packet p
theorem pwrSet (p : Pkt) : Statement (.pwrSet p) := packet p
theorem pwrWake (p : Pkt) : Statement (.pwrWake p) := packet p
theorem pwrRead (p : Pkt) : Statement (.pwrRead p) := packet p
theorem clkSeed (p : Pkt) : Statement (.clkSeed p) := packet p
theorem clkRegion (p : Pkt) : Statement (.clkRegion p) := packet p
theorem clkHeel (p : Pkt) : Statement (.clkHeel p) := packet p
theorem clkGenlock (p : Pkt) : Statement (.clkGenlock p) := packet p
theorem clkReflost (p : Pkt) : Statement (.clkReflost p) := packet p
theorem clkRead (p : Pkt) : Statement (.clkRead p) := packet p
theorem memRate (p : Pkt) : Statement (.memRate p) := packet p
theorem memRowprot (p : Pkt) : Statement (.memRowprot p) := packet p
theorem memErrlog (p : Pkt) : Statement (.memErrlog p) := packet p
theorem memRead (p : Pkt) : Statement (.memRead p) := packet p
theorem accWindow (p : Pkt) : Statement (.accWindow p) := packet p
theorem accTable (p : Pkt) : Statement (.accTable p) := packet p
theorem accRead (p : Pkt) : Statement (.accRead p) := packet p
theorem canvasWindow (p : Pkt) : Statement (.canvasWindow p) := packet p
theorem canvasRead (p : Pkt) : Statement (.canvasRead p) := packet p
theorem layerPlace (p : Pkt) : Statement (.layerPlace p) := packet p
theorem layerRemove (p : Pkt) : Statement (.layerRemove p) := packet p
theorem layerSource (p : Pkt) : Statement (.layerSource p) := packet p
theorem layerFlip (p : Pkt) : Statement (.layerFlip p) := packet p
theorem layerScale (p : Pkt) : Statement (.layerScale p) := packet p
theorem layerColour (p : Pkt) : Statement (.layerColour p) := packet p
theorem layerFill (p : Pkt) : Statement (.layerFill p) := packet p
theorem layerPolicy (p : Pkt) : Statement (.layerPolicy p) := packet p
theorem layerPalette (p : Pkt) : Statement (.layerPalette p) := packet p
theorem layerCoefset (p : Pkt) : Statement (.layerCoefset p) := packet p
theorem layerEotftable (p : Pkt) : Statement (.layerEotftable p) := packet p
theorem layerTonetable (p : Pkt) : Statement (.layerTonetable p) := packet p
theorem layerRead (p : Pkt) : Statement (.layerRead p) := packet p
theorem headPlace (p : Pkt) : Statement (.headPlace p) := packet p
theorem headTiming (p : Pkt) : Statement (.headTiming p) := packet p
theorem headBind (p : Pkt) : Statement (.headBind p) := packet p
theorem headGroup (p : Pkt) : Statement (.headGroup p) := packet p
theorem headPair (p : Pkt) : Statement (.headPair p) := packet p
theorem headColour (p : Pkt) : Statement (.headColour p) := packet p
theorem headCommit (p : Pkt) : Statement (.headCommit p) := packet p
theorem headPolicy (p : Pkt) : Statement (.headPolicy p) := packet p
theorem headRead (p : Pkt) : Statement (.headRead p) := packet p
theorem linkConfig (p : Pkt) : Statement (.linkConfig p) := packet p
theorem linkTrain (p : Pkt) : Statement (.linkTrain p) := packet p
theorem linkAux (p : Pkt) : Statement (.linkAux p) := packet p
theorem linkAutostart (p : Pkt) : Statement (.linkAutostart p) := packet p
theorem linkRead (p : Pkt) : Statement (.linkRead p) := packet p
theorem inputConfig (p : Pkt) : Statement (.inputConfig p) := packet p
theorem inputEdid (p : Pkt) : Statement (.inputEdid p) := packet p
theorem inputCapture (p : Pkt) : Statement (.inputCapture p) := packet p
theorem inputBind (p : Pkt) : Statement (.inputBind p) := packet p
theorem inputAudio (p : Pkt) : Statement (.inputAudio p) := packet p
theorem inputStatus (p : Pkt) : Statement (.inputStatus p) := packet p
theorem audioConfig (p : Pkt) : Statement (.audioConfig p) := packet p
theorem audioRoute (p : Pkt) : Statement (.audioRoute p) := packet p
theorem audioMute (p : Pkt) : Statement (.audioMute p) := packet p
theorem audioStatus (p : Pkt) : Statement (.audioStatus p) := packet p
theorem mantelArea (p : Pkt) : Statement (.mantelArea p) := packet p
theorem mantelAtlas (p : Pkt) : Statement (.mantelAtlas p) := packet p
theorem mantelPalette (p : Pkt) : Statement (.mantelPalette p) := packet p
theorem mantelBackdrop (p : Pkt) : Statement (.mantelBackdrop p) := packet p
theorem mantelSprites (p : Pkt) : Statement (.mantelSprites p) := packet p
theorem mantelCommit (p : Pkt) : Statement (.mantelCommit p) := packet p
theorem mantelArm (p : Pkt) : Statement (.mantelArm p) := packet p
theorem mantelStore (p : Pkt) : Statement (.mantelStore p) := packet p
theorem mantelRead (p : Pkt) : Statement (.mantelRead p) := packet p
theorem ctmWrite (p : Pkt) : Statement (.ctmWrite p) := packet p
theorem ctmFill (p : Pkt) : Statement (.ctmFill p) := packet p
theorem ctmRead (p : Pkt) : Statement (.ctmRead p) := packet p
theorem verifyExpect (p : Pkt) : Statement (.verifyExpect p) := packet p
theorem verifyReact (p : Pkt) : Statement (.verifyReact p) := packet p
theorem verifyRelease (p : Pkt) : Statement (.verifyRelease p) := packet p
theorem verifyTiles (p : Pkt) : Statement (.verifyTiles p) := packet p
theorem verifyEcho (p : Pkt) : Statement (.verifyEcho p) := packet p
theorem verifySafefill (p : Pkt) : Statement (.verifySafefill p) := packet p
theorem verifyRead (p : Pkt) : Statement (.verifyRead p) := packet p
theorem faultRead (p : Pkt) : Statement (.faultRead p) := packet p
theorem faultClear (p : Pkt) : Statement (.faultClear p) := packet p
theorem faultReact (p : Pkt) : Statement (.faultReact p) := packet p
theorem faultBark (p : Pkt) : Statement (.faultBark p) := packet p
theorem faultInject (p : Pkt) : Statement (.faultInject p) := packet p
theorem irqRoute (p : Pkt) : Statement (.irqRoute p) := packet p
theorem irqMask (p : Pkt) : Statement (.irqMask p) := packet p
theorem irqHoldoff (p : Pkt) : Statement (.irqHoldoff p) := packet p
theorem irqRead (p : Pkt) : Statement (.irqRead p) := packet p
theorem dmaOwn (p : Pkt) : Statement (.dmaOwn p) := packet p
theorem dmaSetup (p : Pkt) : Statement (.dmaSetup p) := packet p
theorem dmaToken (p : Pkt) : Statement (.dmaToken p) := packet p
theorem dmaPause (p : Pkt) : Statement (.dmaPause p) := packet p
theorem dmaRead (p : Pkt) : Statement (.dmaRead p) := packet p
theorem telemRead (p : Pkt) : Statement (.telemRead p) := packet p
theorem telemPush (p : Pkt) : Statement (.telemPush p) := packet p
theorem telemLimit (p : Pkt) : Statement (.telemLimit p) := packet p
theorem wearOrbit (p : Pkt) : Statement (.wearOrbit p) := packet p
theorem wearCap (p : Pkt) : Statement (.wearCap p) := packet p
theorem wearRead (p : Pkt) : Statement (.wearRead p) := packet p
theorem repairLedger (p : Pkt) : Statement (.repairLedger p) := packet p
theorem repairRetire (p : Pkt) : Statement (.repairRetire p) := packet p
theorem repairClear (p : Pkt) : Statement (.repairClear p) := packet p
theorem cascCeiling (p : Pkt) : Statement (.cascCeiling p) := packet p
theorem cascDeputy (p : Pkt) : Statement (.cascDeputy p) := packet p
theorem cascRead (p : Pkt) : Statement (.cascRead p) := packet p
theorem svcExit (p : Pkt) : Statement (.svcExit p) := packet p
theorem svcBist (p : Pkt) : Statement (.svcBist p) := packet p
theorem svcClkobs (p : Pkt) : Statement (.svcClkobs p) := packet p
theorem svcMemread (p : Pkt) : Statement (.svcMemread p) := packet p
theorem send (bytes : List Byte) : Statement (.send bytes) := none
theorem sendQuad (bytes : List Byte) : Statement (.sendQuad bytes) := none
theorem receive (clocked : Nat) : Statement (.receive clocked) := none
theorem receiveQuad (clocked : Nat) : Statement (.receiveQuad clocked) := none
theorem status : Statement .status := none
theorem sPortInvalidInstruction (code : Byte) : Statement (.sPortInvalidInstruction code) := none
theorem svcPacket (bytes : List Byte) : Statement (.svcPacket bytes) := none
theorem idcode : Statement .idcode := none
theorem bypass (bits : List Bool) : Statement (.bypass bits) := none
theorem extest (drive : List Bool) : Statement (.extest drive) := none
theorem sqTail (fn unit : Nat) (hostRing : List Byte) : Statement (.sqTail fn unit hostRing) := two _ _ _ _
theorem cqHead (fn unit : Nat) : Statement (.cqHead fn unit) := two _ _ _ _
theorem ringCtrlWrite (path fn : Nat) (val : Word) : Statement (.ringCtrlWrite path fn val) := two _ _ _ _
theorem irqAck (fn vec : Nat) : Statement (.irqAck fn vec) := two _ _ _ _
theorem functionLevelReset (fn : Nat) : Statement (.functionLevelReset fn) := one _ _
theorem vfDisable (keep : Nat) : Statement (.vfDisable keep) := one _ _
theorem pcieLinkDown : Statement .pcieLinkDown := none
theorem busMasterEnableClear (fn : Nat) : Statement (.busMasterEnableClear fn) := one _ _
theorem busMasterEnableSet (fn : Nat) : Statement (.busMasterEnableSet fn) := one _ _
theorem bar2Read (fn off len : Nat) : Statement (.bar2Read fn off len) := one _ _
theorem bar2Write (fn off : Nat) (data : List Byte) : Statement (.bar2Write fn off data) := one _ _
theorem registerWrite (fn off be : Nat) (val : DWord) : Statement (.registerWrite fn off be val) := one _ _
theorem cfgLockLock (path die : Nat) (val : Word) : Statement (.cfgLockLock path die val) := two _ _ _ _
theorem iaAddrWrite (path die : Nat) (val : Word) : Statement (.iaAddrWrite path die val) := two _ _ _ _
theorem iaDataRead (path die : Nat) : Statement (.iaDataRead path die) := two _ _ _ _
theorem iaDataWrite (path die : Nat) (val : Word) : Statement (.iaDataWrite path die val) := two _ _ _ _
theorem indirectReadTimeout (path die : Nat) : Statement (.indirectReadTimeout path die) := two _ _ _ _
theorem indirectWriteComplete (die : Nat) : Statement (.indirectWriteComplete die) := one _ _
theorem complementPairOpen (path die off : Nat) (val : Word) : Statement (.complementPairOpen path die off val) := two _ _ _ _
theorem complementPairTimeout (master die : Nat) : Statement (.complementPairTimeout master die) := two _ _ _ _
theorem faultReactPair (path die i : Nat) (val comp : Word) : Statement (.faultReactPair path die i val comp) := three _ _ _ _ _ _
theorem barkWidthPair (path die : Nat) (val comp : Word) : Statement (.barkWidthPair path die val comp) := two _ _ _ _
theorem errRel (path : Nat) (val comp : Word) : Statement (.errRel path val comp) := one _ _
theorem irqTargetWrite (path die i : Nat) (val : Word) : Statement (.irqTargetWrite path die i val) := three _ _ _ _ _ _
theorem irqMaskRegisterWrite (path die n : Nat) (val : Word) : Statement (.irqMaskRegisterWrite path die n val) := three _ _ _ _ _ _
theorem fcStickyClear (path rec : Nat) (hi : Bool) (val : Word) : Statement (.fcStickyClear path rec hi val) := two _ _ _ _
theorem accErrRead (path die : Nat) : Statement (.accErrRead path die) := two _ _ _ _
theorem fnStatRead (path fn : Nat) : Statement (.fnStatRead path fn) := two _ _ _ _
theorem devTimeLoRead (path die : Nat) : Statement (.devTimeLoRead path die) := two _ _ _ _
theorem fcFirstTimeLoRead (path rec : Nat) : Statement (.fcFirstTimeLoRead path rec) := two _ _ _ _
theorem latchedHighRead (path : Nat) (src : LatchSrc) : Statement (.latchedHighRead path src) := one _ _
theorem dmaDoorbell (path ch : Nat) (val : Word) : Statement (.dmaDoorbell path ch val) := two _ _ _ _
theorem dmaChainWrite (path ch : Nat) (hi : Bool) (val : Word) : Statement (.dmaChainWrite path ch hi val) := two _ _ _ _
theorem dmaCtrlPause (path ch : Nat) : Statement (.dmaCtrlPause path ch) := two _ _ _ _
theorem dmaCtrlResume (path ch : Nat) : Statement (.dmaCtrlResume path ch) := two _ _ _ _
theorem dmaIrqClear (path ch : Nat) (val : Word) : Statement (.dmaIrqClear path ch val) := two _ _ _ _
theorem cvCtrlStart (path unit : Nat) (val : Word) : Statement (.cvCtrlStart path unit val) := two _ _ _ _
theorem cvDataWrite (path unit be : Nat) (val : Word) : Statement (.cvDataWrite path unit be val) := two _ _ _ _
theorem cvResultRead (path unit : Nat) : Statement (.cvResultRead path unit) := two _ _ _ _
theorem cvByteProcessed (unit : Nat) : Statement (.cvByteProcessed unit) := one _ _
theorem headCommitLine (h : Nat) : Statement (.headCommitLine h) := one _ _
theorem verticalBlankingStart (h : Nat) : Statement (.verticalBlankingStart h) := one _ _
theorem endOfLastActiveLine (h : Nat) : Statement (.endOfLastActiveLine h) := one _ _
theorem headLineStart (h line : Nat) : Statement (.headLineStart h line) := one _ _
theorem underrun (h line col : Nat) : Statement (.underrun h line col) := one _ _
theorem leFetchWindow (h line : Nat) : Statement (.leFetchWindow h line) := one _ _
theorem echoCrcReadComplete (h count : Nat) (crcR crcG crcB : Nat) : Statement (.echoCrcReadComplete h count crcR crcG crcB) := one _ _
theorem memoryRequestArrival (r : MemReqIn) : Statement (.memoryRequestArrival r) := none
theorem commandSlot (pc : Nat) : Statement (.commandSlot pc) := one _ _
theorem memoryReadComplete (id : Nat) (flips : List (Nat × BitVec 72)) : Statement (.memoryReadComplete id flips) := none
theorem reHomingComplete (g : Nat) : Statement (.reHomingComplete g) := one _ _
theorem caParityError (pc : Nat) (repeatOk : Bool) : Statement (.caParityError pc repeatOk) := one _ _
theorem refreshInterval (pc bank : Nat) : Statement (.refreshInterval pc bank) := two _ _ _ _
theorem refreshWindowEnd (g : Nat) : Statement (.refreshWindowEnd g) := one _ _
theorem rowIdleTimeout (pc bank : Nat) : Statement (.rowIdleTimeout pc bank) := two _ _ _ _
theorem urgencyRecompute (g : Nat) : Statement (.urgencyRecompute g) := one _ _
theorem unreservedAgeTimeout (g : Nat) : Statement (.unreservedAgeTimeout g) := one _ _
theorem writeBufferOverflow (src : Nat) : Statement (.writeBufferOverflow src) := none
theorem retrainStepDue (pc : Nat) : Statement (.retrainStepDue pc) := one _ _
theorem retrainStepSkip (pc : Nat) : Statement (.retrainStepSkip pc) := one _ _
theorem retrainStepComplete (pc : Nat) (pass : Bool) : Statement (.retrainStepComplete pc pass) := one _ _
theorem selfRefreshIdleEntry (pc : Nat) : Statement (.selfRefreshIdleEntry pc) := one _ _
theorem trainingCacheWrite (band : Nat) : Statement (.trainingCacheWrite band) := one _ _
theorem memoryCoreLocked (die : Nat) : Statement (.memoryCoreLocked die) := one _ _
theorem rateChangeVerified (die : Nat) (failed : Option Nat) : Statement (.rateChangeVerified die failed) := one _ _
theorem refclkWatchdogCount (count : Nat) : Statement (.refclkWatchdogCount count) := none
theorem lockWindowEnd (synth count : Nat) : Statement (.lockWindowEnd synth count) := one _ _
theorem parkedSynthWake (synth count : Nat) : Statement (.parkedSynthWake synth count) := one _ _
theorem rampUpdate (synth : Nat) : Statement (.rampUpdate synth) := one _ _
theorem pixelLockReturnTimeout (h : Nat) : Statement (.pixelLockReturnTimeout h) := one _ _
theorem clockSwitchFault (synth : Nat) : Statement (.clockSwitchFault synth) := one _ _
theorem leaderEvent (follower : Nat) (t : Nat) (err : Int) : Statement (.leaderEvent follower t err) := none
theorem leaderLost (kind : LeaderKind) (idx : Nat) : Statement (.leaderLost kind idx) := none
theorem genlockEdge (rising : Bool) (t : Nat) : Statement (.genlockEdge rising t) := none
theorem genlockLost : Statement .genlockLost := none
theorem linkPlug (l : Nat) : Statement (.linkPlug l) := one _ _
theorem linkUnplug (l : Nat) : Statement (.linkUnplug l) := one _ _
theorem irqHpd (l : Nat) (lanesLocked : Bool) (topo : Option (List Nat)) : Statement (.irqHpd l lanesLocked topo) := one _ _
theorem hpdGlitch (l : Nat) : Statement (.hpdGlitch l) := one _ _
theorem linkTrainingSlotFree (die : Nat) : Statement (.linkTrainingSlotFree die) := one _ _
theorem auxTransactionReply (l : Nat) (code : AuxCode) (data : List Byte) : Statement (.auxTransactionReply l code data) := one _ _
theorem auxReplyTimeout (l : Nat) : Statement (.auxReplyTimeout l) := one _ _
theorem discoveryRestartTimer (l : Nat) : Statement (.discoveryRestartTimer l) := one _ _
theorem discoveryComplete (l : Nat) (sink : SinkDesc) : Statement (.discoveryComplete l sink) := one _ _
theorem trainingAttemptEnd (l : Nat) (ok : Bool) (phase : Nat) : Statement (.trainingAttemptEnd l ok phase) := one _ _
theorem trainingAttemptTimeout (l : Nat) (phase : Nat) : Statement (.trainingAttemptTimeout l phase) := one _ _
theorem linkFailedRetry (l : Nat) : Statement (.linkFailedRetry l) := one _ _
theorem linkLockLoss (l : Nat) : Statement (.linkLockLoss l) := one _ _
theorem inputSourceTraining (v rate lanes : Nat) : Statement (.inputSourceTraining v rate lanes) := one _ _
theorem inputSymbolLockLoss (v : Nat) : Statement (.inputSymbolLockLoss v) := one _ _
theorem inputLineTimeout (v : Nat) : Statement (.inputLineTimeout v) := one _ _
theorem inputLineEnd (v line : Nat) (periodPs : Nat) (pixels : List Pix) : Statement (.inputLineEnd v line periodPs pixels) := one _ _
theorem inputFrameEnd (v : Nat) (f : InFrame) : Statement (.inputFrameEnd v f) := one _ _
theorem captureFrameComplete (v : Nat) : Statement (.captureFrameComplete v) := one _ _
theorem inputNosignalTimeout (v : Nat) : Statement (.inputNosignalTimeout v) := one _ _
theorem inputEdidHpdTimer (v : Nat) : Statement (.inputEdidHpdTimer v) := one _ _
theorem inputAudioStop (v : Nat) : Statement (.inputAudioStop v) := one _ _
theorem audioWsPeriod (src : Nat) (ticks : Nat) (ch1 ch2 : List Bool) : Statement (.audioWsPeriod src ticks ch1 ch2) := none
theorem audioWindowEnd (src edges ticks minTicks maxTicks : Nat) : Statement (.audioWindowEnd src edges ticks minTicks maxTicks) := none
theorem audioWsTimeout (src : Nat) : Statement (.audioWsTimeout src) := none
theorem audioPartialBlockTimer (src : Nat) : Statement (.audioPartialBlockTimer src) := none
theorem audioChangeTimeout (h ch : Nat) : Statement (.audioChangeTimeout h ch) := two _ _ _ _
theorem faultDetected (rec bit : Nat) (syn : Word) (holds : Bool) : Statement (.faultDetected rec bit syn holds) := two _ _ _ _
theorem blockResetComplete (rec : Nat) (passed : Bool) : Statement (.blockResetComplete rec passed) := one _ _
theorem barkPulseElapsed : Statement .barkPulseElapsed := none
theorem irqDelivery : Statement .irqDelivery := none
theorem holdoffExpiry (group : Nat) : Statement (.holdoffExpiry group) := one _ _
theorem bureauIrqAck (die core : Nat) : Statement (.bureauIrqAck die core) := two _ _ _ _
theorem mantelPairMiscompare (c : Nat) : Statement (.mantelPairMiscompare c) := one _ _
theorem mantelPairTestComplete (c : Nat) (pass : Bool) : Statement (.mantelPairTestComplete c pass) := one _ _
theorem mantelAreaCopyComplete : Statement .mantelAreaCopyComplete := none
theorem mantelSealComplete : Statement .mantelSealComplete := none
theorem lutImageReadComplete (c : Nat) : Statement (.lutImageReadComplete c) := one _ _
theorem clusterWake (c : Nat) : Statement (.clusterWake c) := one _ _
theorem regionPowerGate (g : Nat) : Statement (.regionPowerGate g) := one _ _
theorem dmaDescriptorFetched (ch : Nat) (host : List Byte) : Statement (.dmaDescriptorFetched ch host) := one _ _
theorem dmaRequestResponse (ch : Nat) (resp : DmaResp) (srcHost dstHost : List Byte) : Statement (.dmaRequestResponse ch resp srcHost dstHost) := one _ _
theorem dmaRetryTimer (ch : Nat) : Statement (.dmaRetryTimer ch) := one _ _
theorem dmaDescriptorComplete (ch : Nat) : Statement (.dmaDescriptorComplete ch) := one _ _
theorem dmaLinkRereadResult (ch : Nat) (hostLink : DWord) : Statement (.dmaLinkRereadResult ch hostLink) := one _ _
theorem dmaDrainComplete (ch : Nat) : Statement (.dmaDrainComplete ch) := one _ _
theorem dmaOwnerStopComplete (ch : Nat) : Statement (.dmaOwnerStopComplete ch) := one _ _
theorem kennelRotationDue (c : Nat) : Statement (.kennelRotationDue c) := one _ _
theorem handoverCompareResult (c : Nat) (agree : Bool) : Statement (.handoverCompareResult c agree) := one _ _
theorem kennelLogicTestComplete (c : Nat) (pass : Bool) : Statement (.kennelLogicTestComplete c pass) := one _ _
theorem leFaultDetected (c slot : Nat) : Statement (.leFaultDetected c slot) := two _ _ _ _
theorem kennelTakeoverComplete (c us : Nat) : Statement (.kennelTakeoverComplete c us) := one _ _
theorem leShortTestComplete (c slot : Nat) (pass : Bool) : Statement (.leShortTestComplete c slot pass) := two _ _ _ _
theorem migrationSynthLocked (h : Nat) : Statement (.migrationSynthLocked h) := one _ _
theorem migrationLinkSwitch (h : Nat) : Statement (.migrationLinkSwitch h) := one _ _
theorem ledgerWriteComplete : Statement .ledgerWriteComplete := none
theorem bureauFailover (die : Nat) : Statement (.bureauFailover die) := one _ _
theorem bureauPairSelftestComplete (die : Nat) (pass : Bool) : Statement (.bureauPairSelftestComplete die pass) := one _ _
theorem houndScrubRead (addr : Nat) (flips : List (Nat × BitVec 72)) : Statement (.houndScrubRead addr flips) := none
theorem calibrationTick (readings : List (Nat × Int)) (symErrs : List (Nat × Nat)) : Statement (.calibrationTick readings symErrs) := none
theorem wearUpdateTick : Statement .wearUpdateTick := none
theorem wearOrbitStep (h : Nat) : Statement (.wearOrbitStep h) := one _ _
theorem telemPushPeriod : Statement .telemPushPeriod := none
theorem telemSensorReading (rail : Bool) (idx : Nat) (val : Int) : Statement (.telemSensorReading rail idx val) := none
theorem thermalTrip : Statement .thermalTrip := none
theorem thermalTripRelease : Statement .thermalTripRelease := none
theorem wakeEvent (bit : Nat) : Statement (.wakeEvent bit) := one _ _
theorem powerTransitionComplete : Statement .powerTransitionComplete := none
theorem aoIoRailsGood : Statement .aoIoRailsGood := none
theorem porRelease : Statement .porRelease := none
theorem aoIoRailLoss : Statement .aoIoRailLoss := none
theorem railOutOfRange (rail : Nat) : Statement (.railOutOfRange rail) := one _ _
theorem switchedRailTimeout : Statement .switchedRailTimeout := none
theorem resetNPulse (ns : Nat) : Statement (.resetNPulse ns) := none
theorem aoBootDone (ledgerCrcOk : Bool) : Statement (.aoBootDone ledgerCrcOk) := none
theorem referenceLockDone : Statement .referenceLockDone := none
theorem bureauBootDone (patchOk : Bool) : Statement (.bureauBootDone patchOk) := none
theorem hbmInitDone (fullTrain : Bool) (failedPcs : List Nat) : Statement (.hbmInitDone fullTrain failedPcs) := none
theorem mantelLoadDone : Statement .mantelLoadDone := none
theorem warmStartStepDone : Statement .warmStartStepDone := none
theorem birtonPartnerPatterns (b : Nat) : Statement (.birtonPartnerPatterns b) := one _ _
theorem birtonCandidateEnd (b : Nat) (ok : Bool) : Statement (.birtonCandidateEnd b ok) := one _ _
theorem birtonIdentFrame (b : Nat) (id : Ident) : Statement (.birtonIdentFrame b id) := one _ _
theorem birtonFrameReceived (b : Nat) (words : List (BitVec 72)) : Statement (.birtonFrameReceived b words) := one _ _
theorem birtonNakReceived (b seq : Nat) : Statement (.birtonNakReceived b seq) := one _ _
theorem birtonLockLoss (b : Nat) : Statement (.birtonLockLoss b) := one _ _
theorem birtonDownRetry (b : Nat) : Statement (.birtonDownRetry b) := one _ _
theorem birtonConflictTimeout (b : Nat) : Statement (.birtonConflictTimeout b) := one _ _
theorem cableDelayEcho (b halfNs : Nat) : Statement (.cableDelayEcho b halfNs) := one _ _
theorem timingFrameSend (group : Nat) : Statement (.timingFrameSend group) := one _ _
theorem timingFrameReceived (b group count halfNs : Nat) : Statement (.timingFrameReceived b group count halfNs) := two _ _ _ _
theorem timingClassLost : Statement .timingClassLost := none
theorem followerLeft (pkg : Nat) : Statement (.followerLeft pkg) := one _ _
theorem masterLost : Statement .masterLost := none
theorem deputyTakeover : Statement .deputyTakeover := none
theorem mastershipHandback : Statement .mastershipHandback := none
theorem mirrorWriteReceived (b addr : Nat) (data : List Byte) : Statement (.mirrorWriteReceived b addr data) := one _ _
theorem mirrorAckReceived (pkg layer : Nat) (denied : Bool) : Statement (.mirrorAckReceived pkg layer denied) := two _ _ _ _
theorem lineStreamFrame (h line first : Nat) (words : List DWord) : Statement (.lineStreamFrame h line first words) := one _ _
theorem compositeLineMissing (h line : Nat) : Statement (.compositeLineMissing h line) := one _ _
theorem admissionComplete : Statement .admissionComplete := none
theorem unknownOpcode (port : Nat) (bytes : List Byte) : Statement (.unknownOpcode port bytes) := one _ _
theorem supEnDrop : Statement .supEnDrop := none
theorem lastSupplyInRegulation : Statement .lastSupplyInRegulation := none
theorem pcieLinkUp : Statement .pcieLinkUp := none
theorem vfEnable (n : Nat) : Statement (.vfEnable n) := one _ _
theorem msiXTargetWake (fn : Nat) (vec : Option Nat) : Statement (.msiXTargetWake fn vec) := one _ _

end Sys2Proof.Laws.Wf
end

