-- ==== Sys2Proof/Laws/Posts.lean ====
section
/-! SUPPORT. What sending a packet or posting an event can change: the command ports, and the record of a discarded
event (R358, R472). -/

namespace Sys2Proof.Machine

/-- `t` differs from `s` in the command ports and the fault records alone. -/
def PostsOnly (s t : State) : Prop := ∃ ps fs, t = { s with ports := ps, faults := fs }

theorem PostsOnly.refl (s : State) : PostsOnly s s := ⟨s.ports, s.faults, rfl⟩

theorem PostsOnly.trans {s t u : State} (h : PostsOnly s t) (k : PostsOnly t u) : PostsOnly s u := by
  obtain ⟨a, b, rfl⟩ := h; obtain ⟨c, d, rfl⟩ := k; exact ⟨c, d, rfl⟩

/-- Posting in a fold posts only. -/
theorem PostsOnly.foldl {α : Type} {f : State → α → State} (h : ∀ s x, PostsOnly s (f s x)) :
    ∀ (l : List α) (s : State), PostsOnly s (l.foldl f s)
  | [], s => .refl s
  | a :: t, s => (h s a).trans (PostsOnly.foldl h t (f s a))

theorem postsOnly_enqueue (s : State) (p : Nat) (o : OutPkt) : PostsOnly s (s.enqueue p o) := by
  unfold State.enqueue; split
  · exact ⟨_, s.faults, rfl⟩
  · exact .refl s

theorem postsOnly_send (s : State) (p : Nat) (o : OutPkt) : PostsOnly s (s.send p o) := by
  unfold State.send; dsimp only; split
  · exact postsOnly_enqueue s p o
  · exact (postsOnly_enqueue s p o).trans ⟨(s.enqueue p o).ports, _, rfl⟩

theorem postsOnly_postTo (s : State) (p op sc : Nat) (w : List Nat) : PostsOnly s (s.postTo p op sc w) :=
  PostsOnly.foldl (fun s _ => postsOnly_send s p _) _ s

theorem postsOnly_postS (s : State) (op sc : Nat) (w : List Nat) : PostsOnly s (s.postS op sc w) :=
  postsOnly_postTo s 16 op sc w

theorem postsOnly_postI (s : State) (p op sc : Nat) (w : List Nat) (f : Option (Nat × Nat)) :
    PostsOnly s (s.postI p op sc w f) := postsOnly_send s p _

theorem postsOnly_postU (s : State) (op sc : Nat) (w : List Nat) : PostsOnly s (s.postU op sc w) :=
  PostsOnly.foldl (fun s p => by split; exact postsOnly_postTo s p op sc w; exact .refl s) _ s

theorem postsOnly_postUS (s : State) (op sc : Nat) (w : List Nat) : PostsOnly s (s.postUS op sc w) := by
  unfold State.postUS; dsimp only; split
  · exact postsOnly_postU s op sc w
  · exact (postsOnly_postU s op sc w).trans (postsOnly_postS _ op sc w)

theorem PostsOnly.pwr {s t : State} (h : PostsOnly s t) : t.pwr = s.pwr := by obtain ⟨a, b, rfl⟩ := h; rfl
theorem PostsOnly.mem {s t : State} (h : PostsOnly s t) : t.mem = s.mem := by obtain ⟨a, b, rfl⟩ := h; rfl
theorem PostsOnly.layers {s t : State} (h : PostsOnly s t) : t.layers = s.layers := by obtain ⟨a, b, rfl⟩ := h; rfl
theorem PostsOnly.heads {s t : State} (h : PostsOnly s t) : t.heads = s.heads := by obtain ⟨a, b, rfl⟩ := h; rfl
theorem PostsOnly.mantel {s t : State} (h : PostsOnly s t) : t.mantel = s.mantel := by obtain ⟨a, b, rfl⟩ := h; rfl
theorem PostsOnly.clk {s t : State} (h : PostsOnly s t) : t.clk = s.clk := by obtain ⟨a, b, rfl⟩ := h; rfl

@[simp] theorem send_pwr (s : State) (p : Nat) (o : OutPkt) : (s.send p o).pwr = s.pwr := (postsOnly_send s p o).pwr
@[simp] theorem postTo_pwr (s : State) (p op sc : Nat) (w : List Nat) : (s.postTo p op sc w).pwr = s.pwr :=
  (postsOnly_postTo s p op sc w).pwr
@[simp] theorem postS_pwr (s : State) (op sc : Nat) (w : List Nat) : (s.postS op sc w).pwr = s.pwr :=
  (postsOnly_postS s op sc w).pwr
@[simp] theorem postI_pwr (s : State) (p op sc : Nat) (w : List Nat) (f : Option (Nat × Nat)) :
    (s.postI p op sc w f).pwr = s.pwr := (postsOnly_postI s p op sc w f).pwr
@[simp] theorem postU_pwr (s : State) (op sc : Nat) (w : List Nat) : (s.postU op sc w).pwr = s.pwr :=
  (postsOnly_postU s op sc w).pwr
@[simp] theorem postUS_pwr (s : State) (op sc : Nat) (w : List Nat) : (s.postUS op sc w).pwr = s.pwr :=
  (postsOnly_postUS s op sc w).pwr

/-- Bringing a head's depth up to date leaves the power state. -/
@[simp] theorem setDepth_pwr (s : State) (h : Nat) : (s.setDepth h).pwr = s.pwr := by
  unfold State.setDepth; dsimp only
  split
  · rfl
  · split <;> split <;> simp [State.setHead]

end Sys2Proof.Machine
end

