-- ==== Sys2Proof/Laws/Regs.lean ====
section
/-! SUPPORT. What a register access does once it is through its checks: one lemma per kind of block, which spares
later proofs the dispatch (R413, R420-R422, R434, R442). -/

namespace Sys2Proof.Machine

theorem and_zero_word (o : Nat) : o &&& notW (byteMask 15) = 0 := by
  have : notW (byteMask 15) = 0 := by decide
  rw [this, Nat.and_zero]

/-- A write of all four bytes replaces the word. -/
theorem mergeBytes_full (o : Nat) {v : Nat} (h : v < 2 ^ 32) : mergeBytes o v 15 = v := by
  have e : byteMask 15 = 2 ^ 32 - 1 := by decide
  rw [mergeBytes, and_zero_word, Nat.zero_add, e, Nat.and_two_pow_sub_one_eq_mod, Nat.mod_eq_of_lt h]

/-- A word as a register write carries it is itself. -/
theorem word_mod (v : Word) : v.toNat % 2 ^ 32 = v.toNat := Nat.mod_eq_of_lt v.isLt

/-- The effect of a register write past its checks. -/
theorem regWrite_past {s u : State} {path die off val be : Nat} {r : RegAt} (h : WritesReg s u path die off r)
    (hb : r.block ≠ 3) (he : be % 16 ≠ 0) :
    s.regWrite path die off val be =
      s.expirePairs.writeReg { master := path, at_ := r, val := val % 2 ^ 32, be } := by
  simp only [State.regWrite, h.target]
  have hl := h.live
  have hr := h.reach
  have hp := h.permits
  simp [hl, hr, he, hb, hp]

/-- A doorbell written whole. -/
theorem gatedWrite_past {s u : State} {path die off val : Nat} {r : RegAt} (h : WritesReg s u path die off r)
    (k : State → State) : s.gatedWrite path die off val k = k u := by
  have hl := h.live
  have hr := h.reach
  have hp := h.permits
  rw [State.gatedWrite]
  simp only [h.target, hl, hr, hp, h.after]
  rfl

theorem regWrite_ia {s u : State} {path die off val be : Nat} {r : RegAt} (h : WritesReg s u path die off r)
    (hb : r.block = 1) (he : be % 16 ≠ 0) :
    s.regWrite path die off val be = u.writeIa { master := path, at_ := r, val := val % 2 ^ 32, be } := by
  rw [regWrite_past h (by omega) he, h.after]; simp only [State.writeReg, hb]; rfl

theorem regWrite_react {s u : State} {path die off val be : Nat} {r : RegAt} (h : WritesReg s u path die off r)
    (hb : r.block = 2) (he : be % 16 ≠ 0) :
    s.regWrite path die off val be = u.writeReact { master := path, at_ := r, val := val % 2 ^ 32, be } := by
  rw [regWrite_past h (by omega) he, h.after]; simp only [State.writeReg, hb]; rfl

theorem regWrite_irq {s u : State} {path die off val be : Nat} {r : RegAt} (h : WritesReg s u path die off r)
    (hb : r.block = 4) (he : be % 16 ≠ 0) :
    s.regWrite path die off val be = u.writeIrq { master := path, at_ := r, val := val % 2 ^ 32, be } := by
  rw [regWrite_past h (by omega) he, h.after]; simp only [State.writeReg, hb]; rfl

theorem regWrite_fault {s u : State} {path die off val be : Nat} {r : RegAt} (h : WritesReg s u path die off r)
    (hb : 5 ≤ r.block ∧ r.block ≤ 12) (he : be % 16 ≠ 0) :
    s.regWrite path die off val be = u.writeFault { master := path, at_ := r, val := val % 2 ^ 32, be } := by
  rw [regWrite_past h (by omega) he, h.after]
  simp only [State.writeReg, if_neg (show r.block ≠ 0 by omega), if_neg (show r.block ≠ 1 by omega),
    if_neg (show r.block ≠ 2 by omega), if_neg (show r.block ≠ 4 by omega), if_pos hb.2]; rfl

theorem regWrite_door {s u : State} {path die off val be : Nat} {r : RegAt} (h : WritesReg s u path die off r)
    (hb : 13 ≤ r.block ∧ r.block < 32) (he : be % 16 ≠ 0) :
    s.regWrite path die off val be = u.writeDoor { master := path, at_ := r, val := val % 2 ^ 32, be } := by
  rw [regWrite_past h (by omega) he, h.after]
  simp only [State.writeReg, if_neg (show r.block ≠ 0 by omega), if_neg (show r.block ≠ 1 by omega),
    if_neg (show r.block ≠ 2 by omega), if_neg (show r.block ≠ 4 by omega),
    if_neg (show ¬ r.block ≤ 12 by omega), if_pos hb.2]; rfl

theorem regWrite_chan {s u : State} {path die off val be : Nat} {r : RegAt} (h : WritesReg s u path die off r)
    (hb : 32 ≤ r.block ∧ r.block < 48) (he : be % 16 ≠ 0) :
    s.regWrite path die off val be = u.writeChan { master := path, at_ := r, val := val % 2 ^ 32, be } := by
  rw [regWrite_past h (by omega) he, h.after]
  simp only [State.writeReg, if_neg (show r.block ≠ 0 by omega), if_neg (show r.block ≠ 1 by omega),
    if_neg (show r.block ≠ 2 by omega), if_neg (show r.block ≠ 4 by omega),
    if_neg (show ¬ r.block ≤ 12 by omega), if_neg (show ¬ r.block < 32 by omega), if_pos hb.2]; rfl

theorem regWrite_cv {s u : State} {path die off val be : Nat} {r : RegAt} (h : WritesReg s u path die off r)
    (hb : 48 ≤ r.block) (he : be % 16 ≠ 0) :
    s.regWrite path die off val be = u.writeCv { master := path, at_ := r, val := val % 2 ^ 32, be } := by
  rw [regWrite_past h (by omega) he, h.after]
  simp only [State.writeReg, if_neg (show r.block ≠ 0 by omega), if_neg (show r.block ≠ 1 by omega),
    if_neg (show r.block ≠ 2 by omega), if_neg (show r.block ≠ 4 by omega),
    if_neg (show ¬ r.block ≤ 12 by omega), if_neg (show ¬ r.block < 32 by omega),
    if_neg (show ¬ r.block < 48 by omega)]; rfl

/-- A register read past its checks. -/
theorem regRead_past {s : State} {path die off : Nat} {r : RegAt} (h : ReadsReg s path die off r) :
    s.regRead path die off = (s.readReg path path r true).2.returned path (s.readReg path path r true).1 := by
  have hl := h.live
  have hr := h.reach
  have hp := h.permits
  simp only [State.regRead, h.target, hl, hr, hp]
  rfl

theorem readReg_fault {s : State} {path master : Nat} {r : RegAt} {full : Bool} (h : 5 ≤ r.block ∧ r.block ≤ 12) :
    s.readReg path master r full = s.readFault path r.die r.block r.off := by
  simp only [State.readReg, if_neg (show r.block ≠ 0 by omega), if_neg (show r.block ≠ 1 by omega),
    if_neg (show r.block ≠ 2 by omega), if_neg (show r.block ≠ 3 by omega), if_neg (show r.block ≠ 4 by omega),
    if_pos h.2]

theorem readReg_door {s : State} {path master : Nat} {r : RegAt} {full : Bool} (h : 13 ≤ r.block ∧ r.block < 32) :
    s.readReg path master r full = s.readDoor (r.block - 16) r.off full := by
  simp only [State.readReg, if_neg (show r.block ≠ 0 by omega), if_neg (show r.block ≠ 1 by omega),
    if_neg (show r.block ≠ 2 by omega), if_neg (show r.block ≠ 3 by omega), if_neg (show r.block ≠ 4 by omega),
    if_neg (show ¬ r.block ≤ 12 by omega), if_pos h.2]

theorem readReg_cv {s : State} {path master : Nat} {r : RegAt} {full : Bool} (h : 48 ≤ r.block) :
    s.readReg path master r full = s.readCv r.die r.off := by
  simp only [State.readReg, if_neg (show r.block ≠ 0 by omega), if_neg (show r.block ≠ 1 by omega),
    if_neg (show r.block ≠ 2 by omega), if_neg (show r.block ≠ 3 by omega), if_neg (show r.block ≠ 4 by omega),
    if_neg (show ¬ r.block ≤ 12 by omega), if_neg (show ¬ r.block < 32 by omega),
    if_neg (show ¬ r.block < 48 by omega)]

/-- Emptying an empty list of open pairs changes nothing. -/
theorem regs_noPairs {s : State} (h : s.regs.pairs = []) :
    ({ s with regs := { s.regs with pairs := [] } } : State) = s := by
  have : ∀ r : Regs, r.pairs = [] → ({ r with pairs := [] } : Regs) = r := by
    intro r hr; cases r; simp_all
  rw [this _ h]

/-- A full-word write to the second address of a slot, after the opening write of the complement, has the effect of
the slot and leaves no pair open (R434). -/
theorem pairWrite_completes {s : State} {path : Nat} {r : RegAt} {lk : Bool} {val comp : Word}
    {k : Nat → State → State} (hp : s.regs.pairs = []) (ho : r.off % 8 = 0) (hc : comp = ~~~val)
    (hl : (lk && s.isLocked r.die) = false) (k' : Nat → State → State) :
    ((s.pairWrite { master := path, at_ := r, val := val.toNat, be := 15 } lk k').pairWrite
      { master := path, at_ := { r with off := r.off + 4 }, val := comp.toNat, be := 15 } lk k) = k val.toNat s := by
  have e1 : s.pairWrite { master := path, at_ := r, val := val.toNat, be := 15 } lk k' =
      { s with regs := { s.regs with pairs :=
        [{ master := path, die := r.die, off := r.at', value := val, at_ := s.now }] } } := by
    have : s.dropPair path r.die 1 = s := by simp [State.dropPair, hp]
    have hl' : ¬ (lk = true ∧ s.isLocked r.die = true) := by simpa using hl
    simp [State.pairWrite, fullWord, hl', ho, this, hp]
  have hl' : ¬ (lk = true ∧ s.isLocked r.die = true) := by simpa using hl
  have ho4 : (r.off + 4) % 8 ≠ 0 := by omega
  rw [e1, State.pairWrite]
  have hl2 : ∀ ps : List PairSt, ¬ (lk = true ∧ State.isLocked { s with regs := { s.regs with pairs := ps } } r.die = true) := by
    intro ps; exact hl'
  have hat : RegAt.at' { r with off := r.off + 4 } = r.at' + 4 := by simp [RegAt.at']; omega
  have hfind : ∀ m d : Nat, State.openPair { s with regs := { s.regs with pairs :=
      [{ master := m, die := d, off := r.at', value := val, at_ := s.now }] } } m d =
      some { master := m, die := d, off := r.at', value := val, at_ := s.now } := by
    intro m d; simp [State.openPair]
  simp only [fullWord, hl2, ho4, hfind, hat, if_false]
  have hv : notW comp.toNat = val.toNat := by
    subst hc; rw [BitVec.toNat_not, notW]; have := val.isLt; omega
  have h8 : (r.at' + 4) / 8 * 8 = r.at' := by
    have : r.at' % 8 = 0 := by simp only [RegAt.at']; omega
    omega
  have hfg : State.forgetPair { s with regs := { s.regs with pairs :=
      [{ master := path, die := r.die, off := r.at', value := val, at_ := s.now }] } }
      { master := path, at_ := { r with off := r.off + 4 }, val := comp.toNat, be := 15 } = s := by
    simp only [State.forgetPair, hat, h8]
    simpa using regs_noPairs hp
  simp [hv, hfg]

end Sys2Proof.Machine
end

