-- ==== Sys2Proof/Laws/State.lean ====
section
/-! SUPPORT. What the updates of one unit leave as it is, and what a unit reads after an update. -/

namespace Sys2Proof.Machine

/-! ## Sparse tables -/

/-- A table reads at an index what was set there. -/
@[simp] theorem tget_tset {α : Type} (d : α) (t : Tab α) (i : Nat) (v : α) : tget d (tset t i v) i = v := by
  induction t with
  | nil => simp [tset, tget]
  | cons e t ih =>
    obtain ⟨k, w⟩ := e
    unfold tset
    split
    · simp [tget]
    · split
      · simp [tget]
      · simp [tget, *]

/-- Setting one index leaves every other. -/
theorem tget_tset_ne {α : Type} (d : α) (t : Tab α) {i j : Nat} (v : α) (h : i ≠ j) :
    tget d (tset t i v) j = tget d t j := by
  induction t with
  | nil => simp [tset, tget, h]
  | cons e t ih =>
    obtain ⟨k, w⟩ := e
    unfold tset
    split
    · rename_i hk; subst hk; simp [tget, h]
    · split
      · simp [tget, h]
      · simp [tget, ih]

/-- What a table lists at an index after it was set there. -/
@[simp] theorem tfind_tset {α : Type} (t : Tab α) (i : Nat) (v : α) : tfind (tset t i v) i = some v := by
  induction t with
  | nil => simp [tset, tfind]
  | cons e t ih =>
    obtain ⟨k, w⟩ := e
    unfold tset
    split
    · simp [tfind]
    · split
      · simp [tfind]
      · simp [tfind, *]

/-- Setting an index twice keeps the second value. -/
@[simp] theorem tset_tset {α : Type} (t : Tab α) (i : Nat) (v w : α) : tset (tset t i v) i w = tset t i w := by
  induction t with
  | nil => simp [tset]
  | cons e t ih =>
    obtain ⟨k, x⟩ := e
    by_cases h1 : k = i
    · simp [tset, h1]
    · by_cases h2 : i < k
      · simp [tset, h1, h2]
      · simp [tset, h1, h2, ih]

/-! ## Updates of one unit -/

@[simp] theorem layer_setLayer (s : State) (i : Nat) (v : Layer) : (s.setLayer i v).layer i = v := tget_tset _ _ _ _
theorem layer_setLayer_ne (s : State) {i j : Nat} (v : Layer) (h : i ≠ j) : (s.setLayer i v).layer j = s.layer j :=
  tget_tset_ne _ _ _ h
@[simp] theorem modLayer_def (s : State) (i : Nat) (f : Layer → Layer) : s.modLayer i f = s.setLayer i (f (s.layer i)) := rfl
@[simp] theorem setLayer_frame (s : State) (i : Nat) (v : Layer) :
    (s.setLayer i v).cfg = s.cfg ∧ (s.setLayer i v).now = s.now ∧ (s.setLayer i v).refNs = s.refNs ∧
    (s.setLayer i v).ports = s.ports ∧ (s.setLayer i v).regs = s.regs ∧ (s.setLayer i v).acc = s.acc ∧
    (s.setLayer i v).mem = s.mem ∧ (s.setLayer i v).clk = s.clk ∧ (s.setLayer i v).wx = s.wx ∧
    (s.setLayer i v).wy = s.wy ∧ (s.setLayer i v).windowSet = s.windowSet ∧ (s.setLayer i v).framed = s.framed ∧
    (s.setLayer i v).palettes = s.palettes ∧ (s.setLayer i v).coefSets = s.coefSets ∧
    (s.setLayer i v).eotf = s.eotf ∧ (s.setLayer i v).tone = s.tone ∧ (s.setLayer i v).coefStage = s.coefStage ∧
    (s.setLayer i v).eotfStage = s.eotfStage ∧ (s.setLayer i v).toneStage = s.toneStage ∧
    (s.setLayer i v).heads = s.heads ∧ (s.setLayer i v).groups = s.groups ∧ (s.setLayer i v).links = s.links ∧
    (s.setLayer i v).inputs = s.inputs ∧ (s.setLayer i v).audio = s.audio ∧ (s.setLayer i v).tokens = s.tokens ∧
    (s.setLayer i v).mantel = s.mantel ∧ (s.setLayer i v).faults = s.faults ∧ (s.setLayer i v).irq = s.irq ∧
    (s.setLayer i v).chans = s.chans ∧ (s.setLayer i v).cvs = s.cvs ∧ (s.setLayer i v).telem = s.telem ∧
    (s.setLayer i v).repair = s.repair ∧ (s.setLayer i v).casc = s.casc ∧ (s.setLayer i v).pwr = s.pwr ∧
    (s.setLayer i v).admQ = s.admQ ∧ (s.setLayer i v).hostMem = s.hostMem ∧
    (s.setLayer i v).lastRead = s.lastRead ∧ (s.setLayer i v).shifted = s.shifted ∧
    (s.setLayer i v).freeCtr = s.freeCtr ∧ (s.setLayer i v).pending = s.pending :=
  ⟨rfl, rfl, rfl, rfl, rfl, rfl, rfl, rfl, rfl, rfl, rfl, rfl, rfl, rfl, rfl, rfl, rfl, rfl, rfl, rfl, rfl, rfl, rfl, rfl, rfl, rfl, rfl, rfl, rfl, rfl, rfl, rfl, rfl, rfl, rfl, rfl, rfl, rfl, rfl, rfl⟩

@[simp] theorem head_setHead (s : State) (i : Nat) (v : Head) : (s.setHead i v).head i = v := tget_tset _ _ _ _
theorem head_setHead_ne (s : State) {i j : Nat} (v : Head) (h : i ≠ j) : (s.setHead i v).head j = s.head j :=
  tget_tset_ne _ _ _ h
@[simp] theorem modHead_def (s : State) (i : Nat) (f : Head → Head) : s.modHead i f = s.setHead i (f (s.head i)) := rfl
@[simp] theorem setHead_frame (s : State) (i : Nat) (v : Head) :
    (s.setHead i v).cfg = s.cfg ∧ (s.setHead i v).now = s.now ∧ (s.setHead i v).refNs = s.refNs ∧
    (s.setHead i v).ports = s.ports ∧ (s.setHead i v).regs = s.regs ∧ (s.setHead i v).acc = s.acc ∧
    (s.setHead i v).mem = s.mem ∧ (s.setHead i v).clk = s.clk ∧ (s.setHead i v).wx = s.wx ∧
    (s.setHead i v).wy = s.wy ∧ (s.setHead i v).windowSet = s.windowSet ∧ (s.setHead i v).framed = s.framed ∧
    (s.setHead i v).layers = s.layers ∧ (s.setHead i v).palettes = s.palettes ∧
    (s.setHead i v).coefSets = s.coefSets ∧ (s.setHead i v).eotf = s.eotf ∧ (s.setHead i v).tone = s.tone ∧
    (s.setHead i v).coefStage = s.coefStage ∧ (s.setHead i v).eotfStage = s.eotfStage ∧
    (s.setHead i v).toneStage = s.toneStage ∧ (s.setHead i v).groups = s.groups ∧
    (s.setHead i v).links = s.links ∧ (s.setHead i v).inputs = s.inputs ∧ (s.setHead i v).audio = s.audio ∧
    (s.setHead i v).tokens = s.tokens ∧ (s.setHead i v).mantel = s.mantel ∧ (s.setHead i v).faults = s.faults ∧
    (s.setHead i v).irq = s.irq ∧ (s.setHead i v).chans = s.chans ∧ (s.setHead i v).cvs = s.cvs ∧
    (s.setHead i v).telem = s.telem ∧ (s.setHead i v).repair = s.repair ∧ (s.setHead i v).casc = s.casc ∧
    (s.setHead i v).pwr = s.pwr ∧ (s.setHead i v).admQ = s.admQ ∧ (s.setHead i v).hostMem = s.hostMem ∧
    (s.setHead i v).lastRead = s.lastRead ∧ (s.setHead i v).shifted = s.shifted ∧
    (s.setHead i v).freeCtr = s.freeCtr ∧ (s.setHead i v).pending = s.pending :=
  ⟨rfl, rfl, rfl, rfl, rfl, rfl, rfl, rfl, rfl, rfl, rfl, rfl, rfl, rfl, rfl, rfl, rfl, rfl, rfl, rfl, rfl, rfl, rfl, rfl, rfl, rfl, rfl, rfl, rfl, rfl, rfl, rfl, rfl, rfl, rfl, rfl, rfl, rfl, rfl, rfl⟩

@[simp] theorem link_setLink (s : State) (i : Nat) (v : Link) : (s.setLink i v).link i = v := tget_tset _ _ _ _
theorem link_setLink_ne (s : State) {i j : Nat} (v : Link) (h : i ≠ j) : (s.setLink i v).link j = s.link j :=
  tget_tset_ne _ _ _ h
@[simp] theorem modLink_def (s : State) (i : Nat) (f : Link → Link) : s.modLink i f = s.setLink i (f (s.link i)) := rfl
@[simp] theorem setLink_frame (s : State) (i : Nat) (v : Link) :
    (s.setLink i v).cfg = s.cfg ∧ (s.setLink i v).now = s.now ∧ (s.setLink i v).refNs = s.refNs ∧
    (s.setLink i v).ports = s.ports ∧ (s.setLink i v).regs = s.regs ∧ (s.setLink i v).acc = s.acc ∧
    (s.setLink i v).mem = s.mem ∧ (s.setLink i v).clk = s.clk ∧ (s.setLink i v).wx = s.wx ∧
    (s.setLink i v).wy = s.wy ∧ (s.setLink i v).windowSet = s.windowSet ∧ (s.setLink i v).framed = s.framed ∧
    (s.setLink i v).layers = s.layers ∧ (s.setLink i v).palettes = s.palettes ∧
    (s.setLink i v).coefSets = s.coefSets ∧ (s.setLink i v).eotf = s.eotf ∧ (s.setLink i v).tone = s.tone ∧
    (s.setLink i v).coefStage = s.coefStage ∧ (s.setLink i v).eotfStage = s.eotfStage ∧
    (s.setLink i v).toneStage = s.toneStage ∧ (s.setLink i v).heads = s.heads ∧
    (s.setLink i v).groups = s.groups ∧ (s.setLink i v).inputs = s.inputs ∧ (s.setLink i v).audio = s.audio ∧
    (s.setLink i v).tokens = s.tokens ∧ (s.setLink i v).mantel = s.mantel ∧ (s.setLink i v).faults = s.faults ∧
    (s.setLink i v).irq = s.irq ∧ (s.setLink i v).chans = s.chans ∧ (s.setLink i v).cvs = s.cvs ∧
    (s.setLink i v).telem = s.telem ∧ (s.setLink i v).repair = s.repair ∧ (s.setLink i v).casc = s.casc ∧
    (s.setLink i v).pwr = s.pwr ∧ (s.setLink i v).admQ = s.admQ ∧ (s.setLink i v).hostMem = s.hostMem ∧
    (s.setLink i v).lastRead = s.lastRead ∧ (s.setLink i v).shifted = s.shifted ∧
    (s.setLink i v).freeCtr = s.freeCtr ∧ (s.setLink i v).pending = s.pending :=
  ⟨rfl, rfl, rfl, rfl, rfl, rfl, rfl, rfl, rfl, rfl, rfl, rfl, rfl, rfl, rfl, rfl, rfl, rfl, rfl, rfl, rfl, rfl, rfl, rfl, rfl, rfl, rfl, rfl, rfl, rfl, rfl, rfl, rfl, rfl, rfl, rfl, rfl, rfl, rfl, rfl⟩

@[simp] theorem input_setInput (s : State) (i : Nat) (v : Input) : (s.setInput i v).input i = v := tget_tset _ _ _ _
theorem input_setInput_ne (s : State) {i j : Nat} (v : Input) (h : i ≠ j) : (s.setInput i v).input j = s.input j :=
  tget_tset_ne _ _ _ h
@[simp] theorem modInput_def (s : State) (i : Nat) (f : Input → Input) : s.modInput i f = s.setInput i (f (s.input i)) := rfl
@[simp] theorem setInput_frame (s : State) (i : Nat) (v : Input) :
    (s.setInput i v).cfg = s.cfg ∧ (s.setInput i v).now = s.now ∧ (s.setInput i v).refNs = s.refNs ∧
    (s.setInput i v).ports = s.ports ∧ (s.setInput i v).regs = s.regs ∧ (s.setInput i v).acc = s.acc ∧
    (s.setInput i v).mem = s.mem ∧ (s.setInput i v).clk = s.clk ∧ (s.setInput i v).wx = s.wx ∧
    (s.setInput i v).wy = s.wy ∧ (s.setInput i v).windowSet = s.windowSet ∧ (s.setInput i v).framed = s.framed ∧
    (s.setInput i v).layers = s.layers ∧ (s.setInput i v).palettes = s.palettes ∧
    (s.setInput i v).coefSets = s.coefSets ∧ (s.setInput i v).eotf = s.eotf ∧ (s.setInput i v).tone = s.tone ∧
    (s.setInput i v).coefStage = s.coefStage ∧ (s.setInput i v).eotfStage = s.eotfStage ∧
    (s.setInput i v).toneStage = s.toneStage ∧ (s.setInput i v).heads = s.heads ∧
    (s.setInput i v).groups = s.groups ∧ (s.setInput i v).links = s.links ∧ (s.setInput i v).audio = s.audio ∧
    (s.setInput i v).tokens = s.tokens ∧ (s.setInput i v).mantel = s.mantel ∧ (s.setInput i v).faults = s.faults ∧
    (s.setInput i v).irq = s.irq ∧ (s.setInput i v).chans = s.chans ∧ (s.setInput i v).cvs = s.cvs ∧
    (s.setInput i v).telem = s.telem ∧ (s.setInput i v).repair = s.repair ∧ (s.setInput i v).casc = s.casc ∧
    (s.setInput i v).pwr = s.pwr ∧ (s.setInput i v).admQ = s.admQ ∧ (s.setInput i v).hostMem = s.hostMem ∧
    (s.setInput i v).lastRead = s.lastRead ∧ (s.setInput i v).shifted = s.shifted ∧
    (s.setInput i v).freeCtr = s.freeCtr ∧ (s.setInput i v).pending = s.pending :=
  ⟨rfl, rfl, rfl, rfl, rfl, rfl, rfl, rfl, rfl, rfl, rfl, rfl, rfl, rfl, rfl, rfl, rfl, rfl, rfl, rfl, rfl, rfl, rfl, rfl, rfl, rfl, rfl, rfl, rfl, rfl, rfl, rfl, rfl, rfl, rfl, rfl, rfl, rfl, rfl, rfl⟩

@[simp] theorem aud_setAud (s : State) (i : Nat) (v : Audio) : (s.setAud i v).aud i = v := tget_tset _ _ _ _
theorem aud_setAud_ne (s : State) {i j : Nat} (v : Audio) (h : i ≠ j) : (s.setAud i v).aud j = s.aud j :=
  tget_tset_ne _ _ _ h
@[simp] theorem modAud_def (s : State) (i : Nat) (f : Audio → Audio) : s.modAud i f = s.setAud i (f (s.aud i)) := rfl
@[simp] theorem setAud_frame (s : State) (i : Nat) (v : Audio) :
    (s.setAud i v).cfg = s.cfg ∧ (s.setAud i v).now = s.now ∧ (s.setAud i v).refNs = s.refNs ∧
    (s.setAud i v).ports = s.ports ∧ (s.setAud i v).regs = s.regs ∧ (s.setAud i v).acc = s.acc ∧
    (s.setAud i v).mem = s.mem ∧ (s.setAud i v).clk = s.clk ∧ (s.setAud i v).wx = s.wx ∧
    (s.setAud i v).wy = s.wy ∧ (s.setAud i v).windowSet = s.windowSet ∧ (s.setAud i v).framed = s.framed ∧
    (s.setAud i v).layers = s.layers ∧ (s.setAud i v).palettes = s.palettes ∧
    (s.setAud i v).coefSets = s.coefSets ∧ (s.setAud i v).eotf = s.eotf ∧ (s.setAud i v).tone = s.tone ∧
    (s.setAud i v).coefStage = s.coefStage ∧ (s.setAud i v).eotfStage = s.eotfStage ∧
    (s.setAud i v).toneStage = s.toneStage ∧ (s.setAud i v).heads = s.heads ∧ (s.setAud i v).groups = s.groups ∧
    (s.setAud i v).links = s.links ∧ (s.setAud i v).inputs = s.inputs ∧ (s.setAud i v).tokens = s.tokens ∧
    (s.setAud i v).mantel = s.mantel ∧ (s.setAud i v).faults = s.faults ∧ (s.setAud i v).irq = s.irq ∧
    (s.setAud i v).chans = s.chans ∧ (s.setAud i v).cvs = s.cvs ∧ (s.setAud i v).telem = s.telem ∧
    (s.setAud i v).repair = s.repair ∧ (s.setAud i v).casc = s.casc ∧ (s.setAud i v).pwr = s.pwr ∧
    (s.setAud i v).admQ = s.admQ ∧ (s.setAud i v).hostMem = s.hostMem ∧ (s.setAud i v).lastRead = s.lastRead ∧
    (s.setAud i v).shifted = s.shifted ∧ (s.setAud i v).freeCtr = s.freeCtr ∧ (s.setAud i v).pending = s.pending :=
  ⟨rfl, rfl, rfl, rfl, rfl, rfl, rfl, rfl, rfl, rfl, rfl, rfl, rfl, rfl, rfl, rfl, rfl, rfl, rfl, rfl, rfl, rfl, rfl, rfl, rfl, rfl, rfl, rfl, rfl, rfl, rfl, rfl, rfl, rfl, rfl, rfl, rfl, rfl, rfl, rfl⟩

@[simp] theorem port_setPort (s : State) (i : Nat) (v : Port) : (s.setPort i v).port i = v := tget_tset _ _ _ _
theorem port_setPort_ne (s : State) {i j : Nat} (v : Port) (h : i ≠ j) : (s.setPort i v).port j = s.port j :=
  tget_tset_ne _ _ _ h
@[simp] theorem modPort_def (s : State) (i : Nat) (f : Port → Port) : s.modPort i f = s.setPort i (f (s.port i)) := rfl
@[simp] theorem setPort_frame (s : State) (i : Nat) (v : Port) :
    (s.setPort i v).cfg = s.cfg ∧ (s.setPort i v).now = s.now ∧ (s.setPort i v).refNs = s.refNs ∧
    (s.setPort i v).regs = s.regs ∧ (s.setPort i v).acc = s.acc ∧ (s.setPort i v).mem = s.mem ∧
    (s.setPort i v).clk = s.clk ∧ (s.setPort i v).wx = s.wx ∧ (s.setPort i v).wy = s.wy ∧
    (s.setPort i v).windowSet = s.windowSet ∧ (s.setPort i v).framed = s.framed ∧
    (s.setPort i v).layers = s.layers ∧ (s.setPort i v).palettes = s.palettes ∧
    (s.setPort i v).coefSets = s.coefSets ∧ (s.setPort i v).eotf = s.eotf ∧ (s.setPort i v).tone = s.tone ∧
    (s.setPort i v).coefStage = s.coefStage ∧ (s.setPort i v).eotfStage = s.eotfStage ∧
    (s.setPort i v).toneStage = s.toneStage ∧ (s.setPort i v).heads = s.heads ∧
    (s.setPort i v).groups = s.groups ∧ (s.setPort i v).links = s.links ∧ (s.setPort i v).inputs = s.inputs ∧
    (s.setPort i v).audio = s.audio ∧ (s.setPort i v).tokens = s.tokens ∧ (s.setPort i v).mantel = s.mantel ∧
    (s.setPort i v).faults = s.faults ∧ (s.setPort i v).irq = s.irq ∧ (s.setPort i v).chans = s.chans ∧
    (s.setPort i v).cvs = s.cvs ∧ (s.setPort i v).telem = s.telem ∧ (s.setPort i v).repair = s.repair ∧
    (s.setPort i v).casc = s.casc ∧ (s.setPort i v).pwr = s.pwr ∧ (s.setPort i v).admQ = s.admQ ∧
    (s.setPort i v).hostMem = s.hostMem ∧ (s.setPort i v).lastRead = s.lastRead ∧
    (s.setPort i v).shifted = s.shifted ∧ (s.setPort i v).freeCtr = s.freeCtr ∧
    (s.setPort i v).pending = s.pending :=
  ⟨rfl, rfl, rfl, rfl, rfl, rfl, rfl, rfl, rfl, rfl, rfl, rfl, rfl, rfl, rfl, rfl, rfl, rfl, rfl, rfl, rfl, rfl, rfl, rfl, rfl, rfl, rfl, rfl, rfl, rfl, rfl, rfl, rfl, rfl, rfl, rfl, rfl, rfl, rfl, rfl⟩

@[simp] theorem chan_setChan (s : State) (i : Nat) (v : Chan) : (s.setChan i v).chan i = v := tget_tset _ _ _ _
theorem chan_setChan_ne (s : State) {i j : Nat} (v : Chan) (h : i ≠ j) : (s.setChan i v).chan j = s.chan j :=
  tget_tset_ne _ _ _ h
@[simp] theorem modChan_def (s : State) (i : Nat) (f : Chan → Chan) : s.modChan i f = s.setChan i (f (s.chan i)) := rfl
@[simp] theorem setChan_frame (s : State) (i : Nat) (v : Chan) :
    (s.setChan i v).cfg = s.cfg ∧ (s.setChan i v).now = s.now ∧ (s.setChan i v).refNs = s.refNs ∧
    (s.setChan i v).ports = s.ports ∧ (s.setChan i v).regs = s.regs ∧ (s.setChan i v).acc = s.acc ∧
    (s.setChan i v).mem = s.mem ∧ (s.setChan i v).clk = s.clk ∧ (s.setChan i v).wx = s.wx ∧
    (s.setChan i v).wy = s.wy ∧ (s.setChan i v).windowSet = s.windowSet ∧ (s.setChan i v).framed = s.framed ∧
    (s.setChan i v).layers = s.layers ∧ (s.setChan i v).palettes = s.palettes ∧
    (s.setChan i v).coefSets = s.coefSets ∧ (s.setChan i v).eotf = s.eotf ∧ (s.setChan i v).tone = s.tone ∧
    (s.setChan i v).coefStage = s.coefStage ∧ (s.setChan i v).eotfStage = s.eotfStage ∧
    (s.setChan i v).toneStage = s.toneStage ∧ (s.setChan i v).heads = s.heads ∧
    (s.setChan i v).groups = s.groups ∧ (s.setChan i v).links = s.links ∧ (s.setChan i v).inputs = s.inputs ∧
    (s.setChan i v).audio = s.audio ∧ (s.setChan i v).tokens = s.tokens ∧ (s.setChan i v).mantel = s.mantel ∧
    (s.setChan i v).faults = s.faults ∧ (s.setChan i v).irq = s.irq ∧ (s.setChan i v).cvs = s.cvs ∧
    (s.setChan i v).telem = s.telem ∧ (s.setChan i v).repair = s.repair ∧ (s.setChan i v).casc = s.casc ∧
    (s.setChan i v).pwr = s.pwr ∧ (s.setChan i v).admQ = s.admQ ∧ (s.setChan i v).hostMem = s.hostMem ∧
    (s.setChan i v).lastRead = s.lastRead ∧ (s.setChan i v).shifted = s.shifted ∧
    (s.setChan i v).freeCtr = s.freeCtr ∧ (s.setChan i v).pending = s.pending :=
  ⟨rfl, rfl, rfl, rfl, rfl, rfl, rfl, rfl, rfl, rfl, rfl, rfl, rfl, rfl, rfl, rfl, rfl, rfl, rfl, rfl, rfl, rfl, rfl, rfl, rfl, rfl, rfl, rfl, rfl, rfl, rfl, rfl, rfl, rfl, rfl, rfl, rfl, rfl, rfl, rfl⟩

@[simp] theorem cv_setCv (s : State) (i : Nat) (v : Cv) : (s.setCv i v).cv i = v := tget_tset _ _ _ _
theorem cv_setCv_ne (s : State) {i j : Nat} (v : Cv) (h : i ≠ j) : (s.setCv i v).cv j = s.cv j :=
  tget_tset_ne _ _ _ h
@[simp] theorem modCv_def (s : State) (i : Nat) (f : Cv → Cv) : s.modCv i f = s.setCv i (f (s.cv i)) := rfl
@[simp] theorem setCv_frame (s : State) (i : Nat) (v : Cv) :
    (s.setCv i v).cfg = s.cfg ∧ (s.setCv i v).now = s.now ∧ (s.setCv i v).refNs = s.refNs ∧
    (s.setCv i v).ports = s.ports ∧ (s.setCv i v).regs = s.regs ∧ (s.setCv i v).acc = s.acc ∧
    (s.setCv i v).mem = s.mem ∧ (s.setCv i v).clk = s.clk ∧ (s.setCv i v).wx = s.wx ∧ (s.setCv i v).wy = s.wy ∧
    (s.setCv i v).windowSet = s.windowSet ∧ (s.setCv i v).framed = s.framed ∧ (s.setCv i v).layers = s.layers ∧
    (s.setCv i v).palettes = s.palettes ∧ (s.setCv i v).coefSets = s.coefSets ∧ (s.setCv i v).eotf = s.eotf ∧
    (s.setCv i v).tone = s.tone ∧ (s.setCv i v).coefStage = s.coefStage ∧ (s.setCv i v).eotfStage = s.eotfStage ∧
    (s.setCv i v).toneStage = s.toneStage ∧ (s.setCv i v).heads = s.heads ∧ (s.setCv i v).groups = s.groups ∧
    (s.setCv i v).links = s.links ∧ (s.setCv i v).inputs = s.inputs ∧ (s.setCv i v).audio = s.audio ∧
    (s.setCv i v).tokens = s.tokens ∧ (s.setCv i v).mantel = s.mantel ∧ (s.setCv i v).faults = s.faults ∧
    (s.setCv i v).irq = s.irq ∧ (s.setCv i v).chans = s.chans ∧ (s.setCv i v).telem = s.telem ∧
    (s.setCv i v).repair = s.repair ∧ (s.setCv i v).casc = s.casc ∧ (s.setCv i v).pwr = s.pwr ∧
    (s.setCv i v).admQ = s.admQ ∧ (s.setCv i v).hostMem = s.hostMem ∧ (s.setCv i v).lastRead = s.lastRead ∧
    (s.setCv i v).shifted = s.shifted ∧ (s.setCv i v).freeCtr = s.freeCtr ∧ (s.setCv i v).pending = s.pending :=
  ⟨rfl, rfl, rfl, rfl, rfl, rfl, rfl, rfl, rfl, rfl, rfl, rfl, rfl, rfl, rfl, rfl, rfl, rfl, rfl, rfl, rfl, rfl, rfl, rfl, rfl, rfl, rfl, rfl, rfl, rfl, rfl, rfl, rfl, rfl, rfl, rfl, rfl, rfl, rfl, rfl⟩

@[simp] theorem grp_setGrp (s : State) (i : Nat) (v : Group) : (s.setGrp i v).grp i = v := tget_tset _ _ _ _
theorem grp_setGrp_ne (s : State) {i j : Nat} (v : Group) (h : i ≠ j) : (s.setGrp i v).grp j = s.grp j :=
  tget_tset_ne _ _ _ h
@[simp] theorem modGrp_def (s : State) (i : Nat) (f : Group → Group) : s.modGrp i f = s.setGrp i (f (s.grp i)) := rfl
@[simp] theorem setGrp_frame (s : State) (i : Nat) (v : Group) :
    (s.setGrp i v).cfg = s.cfg ∧ (s.setGrp i v).now = s.now ∧ (s.setGrp i v).refNs = s.refNs ∧
    (s.setGrp i v).ports = s.ports ∧ (s.setGrp i v).regs = s.regs ∧ (s.setGrp i v).acc = s.acc ∧
    (s.setGrp i v).mem = s.mem ∧ (s.setGrp i v).clk = s.clk ∧ (s.setGrp i v).wx = s.wx ∧
    (s.setGrp i v).wy = s.wy ∧ (s.setGrp i v).windowSet = s.windowSet ∧ (s.setGrp i v).framed = s.framed ∧
    (s.setGrp i v).layers = s.layers ∧ (s.setGrp i v).palettes = s.palettes ∧
    (s.setGrp i v).coefSets = s.coefSets ∧ (s.setGrp i v).eotf = s.eotf ∧ (s.setGrp i v).tone = s.tone ∧
    (s.setGrp i v).coefStage = s.coefStage ∧ (s.setGrp i v).eotfStage = s.eotfStage ∧
    (s.setGrp i v).toneStage = s.toneStage ∧ (s.setGrp i v).heads = s.heads ∧ (s.setGrp i v).links = s.links ∧
    (s.setGrp i v).inputs = s.inputs ∧ (s.setGrp i v).audio = s.audio ∧ (s.setGrp i v).tokens = s.tokens ∧
    (s.setGrp i v).mantel = s.mantel ∧ (s.setGrp i v).faults = s.faults ∧ (s.setGrp i v).irq = s.irq ∧
    (s.setGrp i v).chans = s.chans ∧ (s.setGrp i v).cvs = s.cvs ∧ (s.setGrp i v).telem = s.telem ∧
    (s.setGrp i v).repair = s.repair ∧ (s.setGrp i v).casc = s.casc ∧ (s.setGrp i v).pwr = s.pwr ∧
    (s.setGrp i v).admQ = s.admQ ∧ (s.setGrp i v).hostMem = s.hostMem ∧ (s.setGrp i v).lastRead = s.lastRead ∧
    (s.setGrp i v).shifted = s.shifted ∧ (s.setGrp i v).freeCtr = s.freeCtr ∧ (s.setGrp i v).pending = s.pending :=
  ⟨rfl, rfl, rfl, rfl, rfl, rfl, rfl, rfl, rfl, rfl, rfl, rfl, rfl, rfl, rfl, rfl, rfl, rfl, rfl, rfl, rfl, rfl, rfl, rfl, rfl, rfl, rfl, rfl, rfl, rfl, rfl, rfl, rfl, rfl, rfl, rfl, rfl, rfl, rfl, rfl⟩

@[simp] theorem synth_setSynth (s : State) (i : Nat) (v : Synth) : (s.setSynth i v).synth i = v := tget_tset _ _ _ _
theorem synth_setSynth_ne (s : State) {i j : Nat} (v : Synth) (h : i ≠ j) : (s.setSynth i v).synth j = s.synth j :=
  tget_tset_ne _ _ _ h
@[simp] theorem modSynth_def (s : State) (i : Nat) (f : Synth → Synth) : s.modSynth i f = s.setSynth i (f (s.synth i)) := rfl
@[simp] theorem setSynth_frame (s : State) (i : Nat) (v : Synth) :
    (s.setSynth i v).cfg = s.cfg ∧ (s.setSynth i v).now = s.now ∧ (s.setSynth i v).refNs = s.refNs ∧
    (s.setSynth i v).ports = s.ports ∧ (s.setSynth i v).regs = s.regs ∧ (s.setSynth i v).acc = s.acc ∧
    (s.setSynth i v).mem = s.mem ∧ (s.setSynth i v).wx = s.wx ∧ (s.setSynth i v).wy = s.wy ∧
    (s.setSynth i v).windowSet = s.windowSet ∧ (s.setSynth i v).framed = s.framed ∧
    (s.setSynth i v).layers = s.layers ∧ (s.setSynth i v).palettes = s.palettes ∧
    (s.setSynth i v).coefSets = s.coefSets ∧ (s.setSynth i v).eotf = s.eotf ∧ (s.setSynth i v).tone = s.tone ∧
    (s.setSynth i v).coefStage = s.coefStage ∧ (s.setSynth i v).eotfStage = s.eotfStage ∧
    (s.setSynth i v).toneStage = s.toneStage ∧ (s.setSynth i v).heads = s.heads ∧
    (s.setSynth i v).groups = s.groups ∧ (s.setSynth i v).links = s.links ∧ (s.setSynth i v).inputs = s.inputs ∧
    (s.setSynth i v).audio = s.audio ∧ (s.setSynth i v).tokens = s.tokens ∧ (s.setSynth i v).mantel = s.mantel ∧
    (s.setSynth i v).faults = s.faults ∧ (s.setSynth i v).irq = s.irq ∧ (s.setSynth i v).chans = s.chans ∧
    (s.setSynth i v).cvs = s.cvs ∧ (s.setSynth i v).telem = s.telem ∧ (s.setSynth i v).repair = s.repair ∧
    (s.setSynth i v).casc = s.casc ∧ (s.setSynth i v).pwr = s.pwr ∧ (s.setSynth i v).admQ = s.admQ ∧
    (s.setSynth i v).hostMem = s.hostMem ∧ (s.setSynth i v).lastRead = s.lastRead ∧
    (s.setSynth i v).shifted = s.shifted ∧ (s.setSynth i v).freeCtr = s.freeCtr ∧
    (s.setSynth i v).pending = s.pending :=
  ⟨rfl, rfl, rfl, rfl, rfl, rfl, rfl, rfl, rfl, rfl, rfl, rfl, rfl, rfl, rfl, rfl, rfl, rfl, rfl, rfl, rfl, rfl, rfl, rfl, rfl, rfl, rfl, rfl, rfl, rfl, rfl, rfl, rfl, rfl, rfl, rfl, rfl, rfl, rfl, rfl⟩

@[simp] theorem heel_setHeel (s : State) (i : Nat) (v : Heel) : (s.setHeel i v).heel i = v := tget_tset _ _ _ _
theorem heel_setHeel_ne (s : State) {i j : Nat} (v : Heel) (h : i ≠ j) : (s.setHeel i v).heel j = s.heel j :=
  tget_tset_ne _ _ _ h
@[simp] theorem modHeel_def (s : State) (i : Nat) (f : Heel → Heel) : s.modHeel i f = s.setHeel i (f (s.heel i)) := rfl
@[simp] theorem setHeel_frame (s : State) (i : Nat) (v : Heel) :
    (s.setHeel i v).cfg = s.cfg ∧ (s.setHeel i v).now = s.now ∧ (s.setHeel i v).refNs = s.refNs ∧
    (s.setHeel i v).ports = s.ports ∧ (s.setHeel i v).regs = s.regs ∧ (s.setHeel i v).acc = s.acc ∧
    (s.setHeel i v).mem = s.mem ∧ (s.setHeel i v).wx = s.wx ∧ (s.setHeel i v).wy = s.wy ∧
    (s.setHeel i v).windowSet = s.windowSet ∧ (s.setHeel i v).framed = s.framed ∧
    (s.setHeel i v).layers = s.layers ∧ (s.setHeel i v).palettes = s.palettes ∧
    (s.setHeel i v).coefSets = s.coefSets ∧ (s.setHeel i v).eotf = s.eotf ∧ (s.setHeel i v).tone = s.tone ∧
    (s.setHeel i v).coefStage = s.coefStage ∧ (s.setHeel i v).eotfStage = s.eotfStage ∧
    (s.setHeel i v).toneStage = s.toneStage ∧ (s.setHeel i v).heads = s.heads ∧
    (s.setHeel i v).groups = s.groups ∧ (s.setHeel i v).links = s.links ∧ (s.setHeel i v).inputs = s.inputs ∧
    (s.setHeel i v).audio = s.audio ∧ (s.setHeel i v).tokens = s.tokens ∧ (s.setHeel i v).mantel = s.mantel ∧
    (s.setHeel i v).faults = s.faults ∧ (s.setHeel i v).irq = s.irq ∧ (s.setHeel i v).chans = s.chans ∧
    (s.setHeel i v).cvs = s.cvs ∧ (s.setHeel i v).telem = s.telem ∧ (s.setHeel i v).repair = s.repair ∧
    (s.setHeel i v).casc = s.casc ∧ (s.setHeel i v).pwr = s.pwr ∧ (s.setHeel i v).admQ = s.admQ ∧
    (s.setHeel i v).hostMem = s.hostMem ∧ (s.setHeel i v).lastRead = s.lastRead ∧
    (s.setHeel i v).shifted = s.shifted ∧ (s.setHeel i v).freeCtr = s.freeCtr ∧
    (s.setHeel i v).pending = s.pending :=
  ⟨rfl, rfl, rfl, rfl, rfl, rfl, rfl, rfl, rfl, rfl, rfl, rfl, rfl, rfl, rfl, rfl, rfl, rfl, rfl, rfl, rfl, rfl, rfl, rfl, rfl, rfl, rfl, rfl, rfl, rfl, rfl, rfl, rfl, rfl, rfl, rfl, rfl, rfl, rfl, rfl⟩

@[simp] theorem region_setRegion (s : State) (i : Nat) (v : Region) : (s.setRegion i v).region i = v := tget_tset _ _ _ _
theorem region_setRegion_ne (s : State) {i j : Nat} (v : Region) (h : i ≠ j) : (s.setRegion i v).region j = s.region j :=
  tget_tset_ne _ _ _ h
@[simp] theorem modRegion_def (s : State) (i : Nat) (f : Region → Region) : s.modRegion i f = s.setRegion i (f (s.region i)) := rfl
@[simp] theorem setRegion_frame (s : State) (i : Nat) (v : Region) :
    (s.setRegion i v).cfg = s.cfg ∧ (s.setRegion i v).now = s.now ∧ (s.setRegion i v).refNs = s.refNs ∧
    (s.setRegion i v).ports = s.ports ∧ (s.setRegion i v).regs = s.regs ∧ (s.setRegion i v).acc = s.acc ∧
    (s.setRegion i v).clk = s.clk ∧ (s.setRegion i v).wx = s.wx ∧ (s.setRegion i v).wy = s.wy ∧
    (s.setRegion i v).windowSet = s.windowSet ∧ (s.setRegion i v).framed = s.framed ∧
    (s.setRegion i v).layers = s.layers ∧ (s.setRegion i v).palettes = s.palettes ∧
    (s.setRegion i v).coefSets = s.coefSets ∧ (s.setRegion i v).eotf = s.eotf ∧ (s.setRegion i v).tone = s.tone ∧
    (s.setRegion i v).coefStage = s.coefStage ∧ (s.setRegion i v).eotfStage = s.eotfStage ∧
    (s.setRegion i v).toneStage = s.toneStage ∧ (s.setRegion i v).heads = s.heads ∧
    (s.setRegion i v).groups = s.groups ∧ (s.setRegion i v).links = s.links ∧
    (s.setRegion i v).inputs = s.inputs ∧ (s.setRegion i v).audio = s.audio ∧
    (s.setRegion i v).tokens = s.tokens ∧ (s.setRegion i v).mantel = s.mantel ∧
    (s.setRegion i v).faults = s.faults ∧ (s.setRegion i v).irq = s.irq ∧ (s.setRegion i v).chans = s.chans ∧
    (s.setRegion i v).cvs = s.cvs ∧ (s.setRegion i v).telem = s.telem ∧ (s.setRegion i v).repair = s.repair ∧
    (s.setRegion i v).casc = s.casc ∧ (s.setRegion i v).pwr = s.pwr ∧ (s.setRegion i v).admQ = s.admQ ∧
    (s.setRegion i v).hostMem = s.hostMem ∧ (s.setRegion i v).lastRead = s.lastRead ∧
    (s.setRegion i v).shifted = s.shifted ∧ (s.setRegion i v).freeCtr = s.freeCtr ∧
    (s.setRegion i v).pending = s.pending :=
  ⟨rfl, rfl, rfl, rfl, rfl, rfl, rfl, rfl, rfl, rfl, rfl, rfl, rfl, rfl, rfl, rfl, rfl, rfl, rfl, rfl, rfl, rfl, rfl, rfl, rfl, rfl, rfl, rfl, rfl, rfl, rfl, rfl, rfl, rfl, rfl, rfl, rfl, rfl, rfl, rfl⟩

@[simp] theorem pc_setPc (s : State) (i : Nat) (v : Pc) : (s.setPc i v).pc i = v := tget_tset _ _ _ _
theorem pc_setPc_ne (s : State) {i j : Nat} (v : Pc) (h : i ≠ j) : (s.setPc i v).pc j = s.pc j :=
  tget_tset_ne _ _ _ h
@[simp] theorem modPc_def (s : State) (i : Nat) (f : Pc → Pc) : s.modPc i f = s.setPc i (f (s.pc i)) := rfl
@[simp] theorem setPc_frame (s : State) (i : Nat) (v : Pc) :
    (s.setPc i v).cfg = s.cfg ∧ (s.setPc i v).now = s.now ∧ (s.setPc i v).refNs = s.refNs ∧
    (s.setPc i v).ports = s.ports ∧ (s.setPc i v).regs = s.regs ∧ (s.setPc i v).acc = s.acc ∧
    (s.setPc i v).clk = s.clk ∧ (s.setPc i v).wx = s.wx ∧ (s.setPc i v).wy = s.wy ∧
    (s.setPc i v).windowSet = s.windowSet ∧ (s.setPc i v).framed = s.framed ∧ (s.setPc i v).layers = s.layers ∧
    (s.setPc i v).palettes = s.palettes ∧ (s.setPc i v).coefSets = s.coefSets ∧ (s.setPc i v).eotf = s.eotf ∧
    (s.setPc i v).tone = s.tone ∧ (s.setPc i v).coefStage = s.coefStage ∧ (s.setPc i v).eotfStage = s.eotfStage ∧
    (s.setPc i v).toneStage = s.toneStage ∧ (s.setPc i v).heads = s.heads ∧ (s.setPc i v).groups = s.groups ∧
    (s.setPc i v).links = s.links ∧ (s.setPc i v).inputs = s.inputs ∧ (s.setPc i v).audio = s.audio ∧
    (s.setPc i v).tokens = s.tokens ∧ (s.setPc i v).mantel = s.mantel ∧ (s.setPc i v).faults = s.faults ∧
    (s.setPc i v).irq = s.irq ∧ (s.setPc i v).chans = s.chans ∧ (s.setPc i v).cvs = s.cvs ∧
    (s.setPc i v).telem = s.telem ∧ (s.setPc i v).repair = s.repair ∧ (s.setPc i v).casc = s.casc ∧
    (s.setPc i v).pwr = s.pwr ∧ (s.setPc i v).admQ = s.admQ ∧ (s.setPc i v).hostMem = s.hostMem ∧
    (s.setPc i v).lastRead = s.lastRead ∧ (s.setPc i v).shifted = s.shifted ∧ (s.setPc i v).freeCtr = s.freeCtr ∧
    (s.setPc i v).pending = s.pending :=
  ⟨rfl, rfl, rfl, rfl, rfl, rfl, rfl, rfl, rfl, rfl, rfl, rfl, rfl, rfl, rfl, rfl, rfl, rfl, rfl, rfl, rfl, rfl, rfl, rfl, rfl, rfl, rfl, rfl, rfl, rfl, rfl, rfl, rfl, rfl, rfl, rfl, rfl, rfl, rfl, rfl⟩

@[simp] theorem memRate_setMemRate (s : State) (i : Nat) (v : Rate) : (s.setMemRate i v).memRate i = v := tget_tset _ _ _ _
theorem memRate_setMemRate_ne (s : State) {i j : Nat} (v : Rate) (h : i ≠ j) : (s.setMemRate i v).memRate j = s.memRate j :=
  tget_tset_ne _ _ _ h
@[simp] theorem modMemRate_def (s : State) (i : Nat) (f : Rate → Rate) : s.modMemRate i f = s.setMemRate i (f (s.memRate i)) := rfl
@[simp] theorem setMemRate_frame (s : State) (i : Nat) (v : Rate) :
    (s.setMemRate i v).cfg = s.cfg ∧ (s.setMemRate i v).now = s.now ∧ (s.setMemRate i v).refNs = s.refNs ∧
    (s.setMemRate i v).ports = s.ports ∧ (s.setMemRate i v).regs = s.regs ∧ (s.setMemRate i v).acc = s.acc ∧
    (s.setMemRate i v).clk = s.clk ∧ (s.setMemRate i v).wx = s.wx ∧ (s.setMemRate i v).wy = s.wy ∧
    (s.setMemRate i v).windowSet = s.windowSet ∧ (s.setMemRate i v).framed = s.framed ∧
    (s.setMemRate i v).layers = s.layers ∧ (s.setMemRate i v).palettes = s.palettes ∧
    (s.setMemRate i v).coefSets = s.coefSets ∧ (s.setMemRate i v).eotf = s.eotf ∧
    (s.setMemRate i v).tone = s.tone ∧ (s.setMemRate i v).coefStage = s.coefStage ∧
    (s.setMemRate i v).eotfStage = s.eotfStage ∧ (s.setMemRate i v).toneStage = s.toneStage ∧
    (s.setMemRate i v).heads = s.heads ∧ (s.setMemRate i v).groups = s.groups ∧
    (s.setMemRate i v).links = s.links ∧ (s.setMemRate i v).inputs = s.inputs ∧
    (s.setMemRate i v).audio = s.audio ∧ (s.setMemRate i v).tokens = s.tokens ∧
    (s.setMemRate i v).mantel = s.mantel ∧ (s.setMemRate i v).faults = s.faults ∧ (s.setMemRate i v).irq = s.irq ∧
    (s.setMemRate i v).chans = s.chans ∧ (s.setMemRate i v).cvs = s.cvs ∧ (s.setMemRate i v).telem = s.telem ∧
    (s.setMemRate i v).repair = s.repair ∧ (s.setMemRate i v).casc = s.casc ∧ (s.setMemRate i v).pwr = s.pwr ∧
    (s.setMemRate i v).admQ = s.admQ ∧ (s.setMemRate i v).hostMem = s.hostMem ∧
    (s.setMemRate i v).lastRead = s.lastRead ∧ (s.setMemRate i v).shifted = s.shifted ∧
    (s.setMemRate i v).freeCtr = s.freeCtr ∧ (s.setMemRate i v).pending = s.pending :=
  ⟨rfl, rfl, rfl, rfl, rfl, rfl, rfl, rfl, rfl, rfl, rfl, rfl, rfl, rfl, rfl, rfl, rfl, rfl, rfl, rfl, rfl, rfl, rfl, rfl, rfl, rfl, rfl, rfl, rfl, rfl, rfl, rfl, rfl, rfl, rfl, rfl, rfl, rfl, rfl, rfl⟩

@[simp] theorem pair_setPair (s : State) (i : Nat) (v : Pair) : (s.setPair i v).pair i = v := tget_tset _ _ _ _
theorem pair_setPair_ne (s : State) {i j : Nat} (v : Pair) (h : i ≠ j) : (s.setPair i v).pair j = s.pair j :=
  tget_tset_ne _ _ _ h
@[simp] theorem modPair_def (s : State) (i : Nat) (f : Pair → Pair) : s.modPair i f = s.setPair i (f (s.pair i)) := rfl
@[simp] theorem setPair_frame (s : State) (i : Nat) (v : Pair) :
    (s.setPair i v).cfg = s.cfg ∧ (s.setPair i v).now = s.now ∧ (s.setPair i v).refNs = s.refNs ∧
    (s.setPair i v).ports = s.ports ∧ (s.setPair i v).regs = s.regs ∧ (s.setPair i v).acc = s.acc ∧
    (s.setPair i v).mem = s.mem ∧ (s.setPair i v).clk = s.clk ∧ (s.setPair i v).wx = s.wx ∧
    (s.setPair i v).wy = s.wy ∧ (s.setPair i v).windowSet = s.windowSet ∧ (s.setPair i v).framed = s.framed ∧
    (s.setPair i v).layers = s.layers ∧ (s.setPair i v).palettes = s.palettes ∧
    (s.setPair i v).coefSets = s.coefSets ∧ (s.setPair i v).eotf = s.eotf ∧ (s.setPair i v).tone = s.tone ∧
    (s.setPair i v).coefStage = s.coefStage ∧ (s.setPair i v).eotfStage = s.eotfStage ∧
    (s.setPair i v).toneStage = s.toneStage ∧ (s.setPair i v).heads = s.heads ∧
    (s.setPair i v).groups = s.groups ∧ (s.setPair i v).links = s.links ∧ (s.setPair i v).inputs = s.inputs ∧
    (s.setPair i v).audio = s.audio ∧ (s.setPair i v).tokens = s.tokens ∧ (s.setPair i v).faults = s.faults ∧
    (s.setPair i v).irq = s.irq ∧ (s.setPair i v).chans = s.chans ∧ (s.setPair i v).cvs = s.cvs ∧
    (s.setPair i v).telem = s.telem ∧ (s.setPair i v).repair = s.repair ∧ (s.setPair i v).casc = s.casc ∧
    (s.setPair i v).pwr = s.pwr ∧ (s.setPair i v).admQ = s.admQ ∧ (s.setPair i v).hostMem = s.hostMem ∧
    (s.setPair i v).lastRead = s.lastRead ∧ (s.setPair i v).shifted = s.shifted ∧
    (s.setPair i v).freeCtr = s.freeCtr ∧ (s.setPair i v).pending = s.pending :=
  ⟨rfl, rfl, rfl, rfl, rfl, rfl, rfl, rfl, rfl, rfl, rfl, rfl, rfl, rfl, rfl, rfl, rfl, rfl, rfl, rfl, rfl, rfl, rfl, rfl, rfl, rfl, rfl, rfl, rfl, rfl, rfl, rfl, rfl, rfl, rfl, rfl, rfl, rfl, rfl, rfl⟩

@[simp] theorem slot_setSlot (s : State) (i : Nat) (v : LeSlot) : (s.setSlot i v).slot i = v := tget_tset _ _ _ _
theorem slot_setSlot_ne (s : State) {i j : Nat} (v : LeSlot) (h : i ≠ j) : (s.setSlot i v).slot j = s.slot j :=
  tget_tset_ne _ _ _ h
@[simp] theorem modSlot_def (s : State) (i : Nat) (f : LeSlot → LeSlot) : s.modSlot i f = s.setSlot i (f (s.slot i)) := rfl
@[simp] theorem setSlot_frame (s : State) (i : Nat) (v : LeSlot) :
    (s.setSlot i v).cfg = s.cfg ∧ (s.setSlot i v).now = s.now ∧ (s.setSlot i v).refNs = s.refNs ∧
    (s.setSlot i v).ports = s.ports ∧ (s.setSlot i v).regs = s.regs ∧ (s.setSlot i v).acc = s.acc ∧
    (s.setSlot i v).mem = s.mem ∧ (s.setSlot i v).clk = s.clk ∧ (s.setSlot i v).wx = s.wx ∧
    (s.setSlot i v).wy = s.wy ∧ (s.setSlot i v).windowSet = s.windowSet ∧ (s.setSlot i v).framed = s.framed ∧
    (s.setSlot i v).layers = s.layers ∧ (s.setSlot i v).palettes = s.palettes ∧
    (s.setSlot i v).coefSets = s.coefSets ∧ (s.setSlot i v).eotf = s.eotf ∧ (s.setSlot i v).tone = s.tone ∧
    (s.setSlot i v).coefStage = s.coefStage ∧ (s.setSlot i v).eotfStage = s.eotfStage ∧
    (s.setSlot i v).toneStage = s.toneStage ∧ (s.setSlot i v).heads = s.heads ∧
    (s.setSlot i v).groups = s.groups ∧ (s.setSlot i v).links = s.links ∧ (s.setSlot i v).inputs = s.inputs ∧
    (s.setSlot i v).audio = s.audio ∧ (s.setSlot i v).tokens = s.tokens ∧ (s.setSlot i v).mantel = s.mantel ∧
    (s.setSlot i v).faults = s.faults ∧ (s.setSlot i v).irq = s.irq ∧ (s.setSlot i v).chans = s.chans ∧
    (s.setSlot i v).cvs = s.cvs ∧ (s.setSlot i v).telem = s.telem ∧ (s.setSlot i v).casc = s.casc ∧
    (s.setSlot i v).pwr = s.pwr ∧ (s.setSlot i v).admQ = s.admQ ∧ (s.setSlot i v).hostMem = s.hostMem ∧
    (s.setSlot i v).lastRead = s.lastRead ∧ (s.setSlot i v).shifted = s.shifted ∧
    (s.setSlot i v).freeCtr = s.freeCtr ∧ (s.setSlot i v).pending = s.pending :=
  ⟨rfl, rfl, rfl, rfl, rfl, rfl, rfl, rfl, rfl, rfl, rfl, rfl, rfl, rfl, rfl, rfl, rfl, rfl, rfl, rfl, rfl, rfl, rfl, rfl, rfl, rfl, rfl, rfl, rfl, rfl, rfl, rfl, rfl, rfl, rfl, rfl, rfl, rfl, rfl, rfl⟩

@[simp] theorem cluster_setCluster (s : State) (i : Nat) (v : ClusterRep) : (s.setCluster i v).cluster i = v := tget_tset _ _ _ _
theorem cluster_setCluster_ne (s : State) {i j : Nat} (v : ClusterRep) (h : i ≠ j) : (s.setCluster i v).cluster j = s.cluster j :=
  tget_tset_ne _ _ _ h
@[simp] theorem modCluster_def (s : State) (i : Nat) (f : ClusterRep → ClusterRep) : s.modCluster i f = s.setCluster i (f (s.cluster i)) := rfl
@[simp] theorem setCluster_frame (s : State) (i : Nat) (v : ClusterRep) :
    (s.setCluster i v).cfg = s.cfg ∧ (s.setCluster i v).now = s.now ∧ (s.setCluster i v).refNs = s.refNs ∧
    (s.setCluster i v).ports = s.ports ∧ (s.setCluster i v).regs = s.regs ∧ (s.setCluster i v).acc = s.acc ∧
    (s.setCluster i v).mem = s.mem ∧ (s.setCluster i v).clk = s.clk ∧ (s.setCluster i v).wx = s.wx ∧
    (s.setCluster i v).wy = s.wy ∧ (s.setCluster i v).windowSet = s.windowSet ∧
    (s.setCluster i v).framed = s.framed ∧ (s.setCluster i v).layers = s.layers ∧
    (s.setCluster i v).palettes = s.palettes ∧ (s.setCluster i v).coefSets = s.coefSets ∧
    (s.setCluster i v).eotf = s.eotf ∧ (s.setCluster i v).tone = s.tone ∧
    (s.setCluster i v).coefStage = s.coefStage ∧ (s.setCluster i v).eotfStage = s.eotfStage ∧
    (s.setCluster i v).toneStage = s.toneStage ∧ (s.setCluster i v).heads = s.heads ∧
    (s.setCluster i v).groups = s.groups ∧ (s.setCluster i v).links = s.links ∧
    (s.setCluster i v).inputs = s.inputs ∧ (s.setCluster i v).audio = s.audio ∧
    (s.setCluster i v).tokens = s.tokens ∧ (s.setCluster i v).mantel = s.mantel ∧
    (s.setCluster i v).faults = s.faults ∧ (s.setCluster i v).irq = s.irq ∧ (s.setCluster i v).chans = s.chans ∧
    (s.setCluster i v).cvs = s.cvs ∧ (s.setCluster i v).telem = s.telem ∧ (s.setCluster i v).casc = s.casc ∧
    (s.setCluster i v).pwr = s.pwr ∧ (s.setCluster i v).admQ = s.admQ ∧ (s.setCluster i v).hostMem = s.hostMem ∧
    (s.setCluster i v).lastRead = s.lastRead ∧ (s.setCluster i v).shifted = s.shifted ∧
    (s.setCluster i v).freeCtr = s.freeCtr ∧ (s.setCluster i v).pending = s.pending :=
  ⟨rfl, rfl, rfl, rfl, rfl, rfl, rfl, rfl, rfl, rfl, rfl, rfl, rfl, rfl, rfl, rfl, rfl, rfl, rfl, rfl, rfl, rfl, rfl, rfl, rfl, rfl, rfl, rfl, rfl, rfl, rfl, rfl, rfl, rfl, rfl, rfl, rfl, rfl, rfl, rfl⟩

@[simp] theorem bureau_setBureau (s : State) (i : Nat) (v : BureauSt) : (s.setBureau i v).bureau i = v := tget_tset _ _ _ _
theorem bureau_setBureau_ne (s : State) {i j : Nat} (v : BureauSt) (h : i ≠ j) : (s.setBureau i v).bureau j = s.bureau j :=
  tget_tset_ne _ _ _ h
@[simp] theorem modBureau_def (s : State) (i : Nat) (f : BureauSt → BureauSt) : s.modBureau i f = s.setBureau i (f (s.bureau i)) := rfl
@[simp] theorem setBureau_frame (s : State) (i : Nat) (v : BureauSt) :
    (s.setBureau i v).cfg = s.cfg ∧ (s.setBureau i v).now = s.now ∧ (s.setBureau i v).refNs = s.refNs ∧
    (s.setBureau i v).ports = s.ports ∧ (s.setBureau i v).regs = s.regs ∧ (s.setBureau i v).acc = s.acc ∧
    (s.setBureau i v).mem = s.mem ∧ (s.setBureau i v).clk = s.clk ∧ (s.setBureau i v).wx = s.wx ∧
    (s.setBureau i v).wy = s.wy ∧ (s.setBureau i v).windowSet = s.windowSet ∧
    (s.setBureau i v).framed = s.framed ∧ (s.setBureau i v).layers = s.layers ∧
    (s.setBureau i v).palettes = s.palettes ∧ (s.setBureau i v).coefSets = s.coefSets ∧
    (s.setBureau i v).eotf = s.eotf ∧ (s.setBureau i v).tone = s.tone ∧
    (s.setBureau i v).coefStage = s.coefStage ∧ (s.setBureau i v).eotfStage = s.eotfStage ∧
    (s.setBureau i v).toneStage = s.toneStage ∧ (s.setBureau i v).heads = s.heads ∧
    (s.setBureau i v).groups = s.groups ∧ (s.setBureau i v).links = s.links ∧
    (s.setBureau i v).inputs = s.inputs ∧ (s.setBureau i v).audio = s.audio ∧
    (s.setBureau i v).tokens = s.tokens ∧ (s.setBureau i v).mantel = s.mantel ∧
    (s.setBureau i v).faults = s.faults ∧ (s.setBureau i v).irq = s.irq ∧ (s.setBureau i v).chans = s.chans ∧
    (s.setBureau i v).cvs = s.cvs ∧ (s.setBureau i v).telem = s.telem ∧ (s.setBureau i v).casc = s.casc ∧
    (s.setBureau i v).pwr = s.pwr ∧ (s.setBureau i v).admQ = s.admQ ∧ (s.setBureau i v).hostMem = s.hostMem ∧
    (s.setBureau i v).lastRead = s.lastRead ∧ (s.setBureau i v).shifted = s.shifted ∧
    (s.setBureau i v).freeCtr = s.freeCtr ∧ (s.setBureau i v).pending = s.pending :=
  ⟨rfl, rfl, rfl, rfl, rfl, rfl, rfl, rfl, rfl, rfl, rfl, rfl, rfl, rfl, rfl, rfl, rfl, rfl, rfl, rfl, rfl, rfl, rfl, rfl, rfl, rfl, rfl, rfl, rfl, rfl, rfl, rfl, rfl, rfl, rfl, rfl, rfl, rfl, rfl, rfl⟩

@[simp] theorem birton_setBirton (s : State) (i : Nat) (v : BLink) : (s.setBirton i v).birton i = v := tget_tset _ _ _ _
theorem birton_setBirton_ne (s : State) {i j : Nat} (v : BLink) (h : i ≠ j) : (s.setBirton i v).birton j = s.birton j :=
  tget_tset_ne _ _ _ h
@[simp] theorem modBirton_def (s : State) (i : Nat) (f : BLink → BLink) : s.modBirton i f = s.setBirton i (f (s.birton i)) := rfl
@[simp] theorem setBirton_frame (s : State) (i : Nat) (v : BLink) :
    (s.setBirton i v).cfg = s.cfg ∧ (s.setBirton i v).now = s.now ∧ (s.setBirton i v).refNs = s.refNs ∧
    (s.setBirton i v).ports = s.ports ∧ (s.setBirton i v).regs = s.regs ∧ (s.setBirton i v).acc = s.acc ∧
    (s.setBirton i v).mem = s.mem ∧ (s.setBirton i v).clk = s.clk ∧ (s.setBirton i v).wx = s.wx ∧
    (s.setBirton i v).wy = s.wy ∧ (s.setBirton i v).windowSet = s.windowSet ∧
    (s.setBirton i v).framed = s.framed ∧ (s.setBirton i v).layers = s.layers ∧
    (s.setBirton i v).palettes = s.palettes ∧ (s.setBirton i v).coefSets = s.coefSets ∧
    (s.setBirton i v).eotf = s.eotf ∧ (s.setBirton i v).tone = s.tone ∧
    (s.setBirton i v).coefStage = s.coefStage ∧ (s.setBirton i v).eotfStage = s.eotfStage ∧
    (s.setBirton i v).toneStage = s.toneStage ∧ (s.setBirton i v).heads = s.heads ∧
    (s.setBirton i v).groups = s.groups ∧ (s.setBirton i v).links = s.links ∧
    (s.setBirton i v).inputs = s.inputs ∧ (s.setBirton i v).audio = s.audio ∧
    (s.setBirton i v).tokens = s.tokens ∧ (s.setBirton i v).mantel = s.mantel ∧
    (s.setBirton i v).faults = s.faults ∧ (s.setBirton i v).irq = s.irq ∧ (s.setBirton i v).chans = s.chans ∧
    (s.setBirton i v).cvs = s.cvs ∧ (s.setBirton i v).telem = s.telem ∧ (s.setBirton i v).repair = s.repair ∧
    (s.setBirton i v).pwr = s.pwr ∧ (s.setBirton i v).admQ = s.admQ ∧ (s.setBirton i v).hostMem = s.hostMem ∧
    (s.setBirton i v).lastRead = s.lastRead ∧ (s.setBirton i v).shifted = s.shifted ∧
    (s.setBirton i v).freeCtr = s.freeCtr ∧ (s.setBirton i v).pending = s.pending :=
  ⟨rfl, rfl, rfl, rfl, rfl, rfl, rfl, rfl, rfl, rfl, rfl, rfl, rfl, rfl, rfl, rfl, rfl, rfl, rfl, rfl, rfl, rfl, rfl, rfl, rfl, rfl, rfl, rfl, rfl, rfl, rfl, rfl, rfl, rfl, rfl, rfl, rfl, rfl, rfl, rfl⟩

@[simp] theorem frec_setFrec (s : State) (i : Nat) (v : FaultRec) : (s.setFrec i v).frec i = v := tget_tset _ _ _ _
theorem frec_setFrec_ne (s : State) {i j : Nat} (v : FaultRec) (h : i ≠ j) : (s.setFrec i v).frec j = s.frec j :=
  tget_tset_ne _ _ _ h
@[simp] theorem modFrec_def (s : State) (i : Nat) (f : FaultRec → FaultRec) : s.modFrec i f = s.setFrec i (f (s.frec i)) := rfl
@[simp] theorem setFrec_frame (s : State) (i : Nat) (v : FaultRec) :
    (s.setFrec i v).cfg = s.cfg ∧ (s.setFrec i v).now = s.now ∧ (s.setFrec i v).refNs = s.refNs ∧
    (s.setFrec i v).ports = s.ports ∧ (s.setFrec i v).regs = s.regs ∧ (s.setFrec i v).acc = s.acc ∧
    (s.setFrec i v).mem = s.mem ∧ (s.setFrec i v).clk = s.clk ∧ (s.setFrec i v).wx = s.wx ∧
    (s.setFrec i v).wy = s.wy ∧ (s.setFrec i v).windowSet = s.windowSet ∧ (s.setFrec i v).framed = s.framed ∧
    (s.setFrec i v).layers = s.layers ∧ (s.setFrec i v).palettes = s.palettes ∧
    (s.setFrec i v).coefSets = s.coefSets ∧ (s.setFrec i v).eotf = s.eotf ∧ (s.setFrec i v).tone = s.tone ∧
    (s.setFrec i v).coefStage = s.coefStage ∧ (s.setFrec i v).eotfStage = s.eotfStage ∧
    (s.setFrec i v).toneStage = s.toneStage ∧ (s.setFrec i v).heads = s.heads ∧
    (s.setFrec i v).groups = s.groups ∧ (s.setFrec i v).links = s.links ∧ (s.setFrec i v).inputs = s.inputs ∧
    (s.setFrec i v).audio = s.audio ∧ (s.setFrec i v).tokens = s.tokens ∧ (s.setFrec i v).mantel = s.mantel ∧
    (s.setFrec i v).irq = s.irq ∧ (s.setFrec i v).chans = s.chans ∧ (s.setFrec i v).cvs = s.cvs ∧
    (s.setFrec i v).telem = s.telem ∧ (s.setFrec i v).repair = s.repair ∧ (s.setFrec i v).casc = s.casc ∧
    (s.setFrec i v).pwr = s.pwr ∧ (s.setFrec i v).admQ = s.admQ ∧ (s.setFrec i v).hostMem = s.hostMem ∧
    (s.setFrec i v).lastRead = s.lastRead ∧ (s.setFrec i v).shifted = s.shifted ∧
    (s.setFrec i v).freeCtr = s.freeCtr ∧ (s.setFrec i v).pending = s.pending :=
  ⟨rfl, rfl, rfl, rfl, rfl, rfl, rfl, rfl, rfl, rfl, rfl, rfl, rfl, rfl, rfl, rfl, rfl, rfl, rfl, rfl, rfl, rfl, rfl, rfl, rfl, rfl, rfl, rfl, rfl, rfl, rfl, rfl, rfl, rfl, rfl, rfl, rfl, rfl, rfl, rfl⟩

@[simp] theorem door_setDoor (s : State) (i : Nat) (v : Door) : (s.setDoor i v).door i = v := tget_tset _ _ _ _
theorem door_setDoor_ne (s : State) {i j : Nat} (v : Door) (h : i ≠ j) : (s.setDoor i v).door j = s.door j :=
  tget_tset_ne _ _ _ h
@[simp] theorem modDoor_def (s : State) (i : Nat) (f : Door → Door) : s.modDoor i f = s.setDoor i (f (s.door i)) := rfl
@[simp] theorem setDoor_frame (s : State) (i : Nat) (v : Door) :
    (s.setDoor i v).cfg = s.cfg ∧ (s.setDoor i v).now = s.now ∧ (s.setDoor i v).refNs = s.refNs ∧
    (s.setDoor i v).ports = s.ports ∧ (s.setDoor i v).acc = s.acc ∧ (s.setDoor i v).mem = s.mem ∧
    (s.setDoor i v).clk = s.clk ∧ (s.setDoor i v).wx = s.wx ∧ (s.setDoor i v).wy = s.wy ∧
    (s.setDoor i v).windowSet = s.windowSet ∧ (s.setDoor i v).framed = s.framed ∧
    (s.setDoor i v).layers = s.layers ∧ (s.setDoor i v).palettes = s.palettes ∧
    (s.setDoor i v).coefSets = s.coefSets ∧ (s.setDoor i v).eotf = s.eotf ∧ (s.setDoor i v).tone = s.tone ∧
    (s.setDoor i v).coefStage = s.coefStage ∧ (s.setDoor i v).eotfStage = s.eotfStage ∧
    (s.setDoor i v).toneStage = s.toneStage ∧ (s.setDoor i v).heads = s.heads ∧
    (s.setDoor i v).groups = s.groups ∧ (s.setDoor i v).links = s.links ∧ (s.setDoor i v).inputs = s.inputs ∧
    (s.setDoor i v).audio = s.audio ∧ (s.setDoor i v).tokens = s.tokens ∧ (s.setDoor i v).mantel = s.mantel ∧
    (s.setDoor i v).faults = s.faults ∧ (s.setDoor i v).irq = s.irq ∧ (s.setDoor i v).chans = s.chans ∧
    (s.setDoor i v).cvs = s.cvs ∧ (s.setDoor i v).telem = s.telem ∧ (s.setDoor i v).repair = s.repair ∧
    (s.setDoor i v).casc = s.casc ∧ (s.setDoor i v).pwr = s.pwr ∧ (s.setDoor i v).admQ = s.admQ ∧
    (s.setDoor i v).hostMem = s.hostMem ∧ (s.setDoor i v).lastRead = s.lastRead ∧
    (s.setDoor i v).shifted = s.shifted ∧ (s.setDoor i v).freeCtr = s.freeCtr ∧
    (s.setDoor i v).pending = s.pending :=
  ⟨rfl, rfl, rfl, rfl, rfl, rfl, rfl, rfl, rfl, rfl, rfl, rfl, rfl, rfl, rfl, rfl, rfl, rfl, rfl, rfl, rfl, rfl, rfl, rfl, rfl, rfl, rfl, rfl, rfl, rfl, rfl, rfl, rfl, rfl, rfl, rfl, rfl, rfl, rfl, rfl⟩

@[simp] theorem accErr_setAccErr (s : State) (i : Nat) (v : AccErr) : (s.setAccErr i v).accErr i = v := tget_tset _ _ _ _
theorem accErr_setAccErr_ne (s : State) {i j : Nat} (v : AccErr) (h : i ≠ j) : (s.setAccErr i v).accErr j = s.accErr j :=
  tget_tset_ne _ _ _ h
@[simp] theorem modAccErr_def (s : State) (i : Nat) (f : AccErr → AccErr) : s.modAccErr i f = s.setAccErr i (f (s.accErr i)) := rfl
@[simp] theorem setAccErr_frame (s : State) (i : Nat) (v : AccErr) :
    (s.setAccErr i v).cfg = s.cfg ∧ (s.setAccErr i v).now = s.now ∧ (s.setAccErr i v).refNs = s.refNs ∧
    (s.setAccErr i v).ports = s.ports ∧ (s.setAccErr i v).acc = s.acc ∧ (s.setAccErr i v).mem = s.mem ∧
    (s.setAccErr i v).clk = s.clk ∧ (s.setAccErr i v).wx = s.wx ∧ (s.setAccErr i v).wy = s.wy ∧
    (s.setAccErr i v).windowSet = s.windowSet ∧ (s.setAccErr i v).framed = s.framed ∧
    (s.setAccErr i v).layers = s.layers ∧ (s.setAccErr i v).palettes = s.palettes ∧
    (s.setAccErr i v).coefSets = s.coefSets ∧ (s.setAccErr i v).eotf = s.eotf ∧ (s.setAccErr i v).tone = s.tone ∧
    (s.setAccErr i v).coefStage = s.coefStage ∧ (s.setAccErr i v).eotfStage = s.eotfStage ∧
    (s.setAccErr i v).toneStage = s.toneStage ∧ (s.setAccErr i v).heads = s.heads ∧
    (s.setAccErr i v).groups = s.groups ∧ (s.setAccErr i v).links = s.links ∧
    (s.setAccErr i v).inputs = s.inputs ∧ (s.setAccErr i v).audio = s.audio ∧
    (s.setAccErr i v).tokens = s.tokens ∧ (s.setAccErr i v).mantel = s.mantel ∧
    (s.setAccErr i v).faults = s.faults ∧ (s.setAccErr i v).irq = s.irq ∧ (s.setAccErr i v).chans = s.chans ∧
    (s.setAccErr i v).cvs = s.cvs ∧ (s.setAccErr i v).telem = s.telem ∧ (s.setAccErr i v).repair = s.repair ∧
    (s.setAccErr i v).casc = s.casc ∧ (s.setAccErr i v).pwr = s.pwr ∧ (s.setAccErr i v).admQ = s.admQ ∧
    (s.setAccErr i v).hostMem = s.hostMem ∧ (s.setAccErr i v).lastRead = s.lastRead ∧
    (s.setAccErr i v).shifted = s.shifted ∧ (s.setAccErr i v).freeCtr = s.freeCtr ∧
    (s.setAccErr i v).pending = s.pending :=
  ⟨rfl, rfl, rfl, rfl, rfl, rfl, rfl, rfl, rfl, rfl, rfl, rfl, rfl, rfl, rfl, rfl, rfl, rfl, rfl, rfl, rfl, rfl, rfl, rfl, rfl, rfl, rfl, rfl, rfl, rfl, rfl, rfl, rfl, rfl, rfl, rfl, rfl, rfl, rfl, rfl⟩

@[simp] theorem ia_setIa (s : State) (i : Nat) (v : Ia) : (s.setIa i v).ia i = v := tget_tset _ _ _ _
theorem ia_setIa_ne (s : State) {i j : Nat} (v : Ia) (h : i ≠ j) : (s.setIa i v).ia j = s.ia j :=
  tget_tset_ne _ _ _ h
@[simp] theorem modIa_def (s : State) (i : Nat) (f : Ia → Ia) : s.modIa i f = s.setIa i (f (s.ia i)) := rfl
@[simp] theorem setIa_frame (s : State) (i : Nat) (v : Ia) :
    (s.setIa i v).cfg = s.cfg ∧ (s.setIa i v).now = s.now ∧ (s.setIa i v).refNs = s.refNs ∧
    (s.setIa i v).ports = s.ports ∧ (s.setIa i v).acc = s.acc ∧ (s.setIa i v).mem = s.mem ∧
    (s.setIa i v).clk = s.clk ∧ (s.setIa i v).wx = s.wx ∧ (s.setIa i v).wy = s.wy ∧
    (s.setIa i v).windowSet = s.windowSet ∧ (s.setIa i v).framed = s.framed ∧ (s.setIa i v).layers = s.layers ∧
    (s.setIa i v).palettes = s.palettes ∧ (s.setIa i v).coefSets = s.coefSets ∧ (s.setIa i v).eotf = s.eotf ∧
    (s.setIa i v).tone = s.tone ∧ (s.setIa i v).coefStage = s.coefStage ∧ (s.setIa i v).eotfStage = s.eotfStage ∧
    (s.setIa i v).toneStage = s.toneStage ∧ (s.setIa i v).heads = s.heads ∧ (s.setIa i v).groups = s.groups ∧
    (s.setIa i v).links = s.links ∧ (s.setIa i v).inputs = s.inputs ∧ (s.setIa i v).audio = s.audio ∧
    (s.setIa i v).tokens = s.tokens ∧ (s.setIa i v).mantel = s.mantel ∧ (s.setIa i v).faults = s.faults ∧
    (s.setIa i v).irq = s.irq ∧ (s.setIa i v).chans = s.chans ∧ (s.setIa i v).cvs = s.cvs ∧
    (s.setIa i v).telem = s.telem ∧ (s.setIa i v).repair = s.repair ∧ (s.setIa i v).casc = s.casc ∧
    (s.setIa i v).pwr = s.pwr ∧ (s.setIa i v).admQ = s.admQ ∧ (s.setIa i v).hostMem = s.hostMem ∧
    (s.setIa i v).lastRead = s.lastRead ∧ (s.setIa i v).shifted = s.shifted ∧ (s.setIa i v).freeCtr = s.freeCtr ∧
    (s.setIa i v).pending = s.pending :=
  ⟨rfl, rfl, rfl, rfl, rfl, rfl, rfl, rfl, rfl, rfl, rfl, rfl, rfl, rfl, rfl, rfl, rfl, rfl, rfl, rfl, rfl, rfl, rfl, rfl, rfl, rfl, rfl, rfl, rfl, rfl, rfl, rfl, rfl, rfl, rfl, rfl, rfl, rfl, rfl, rfl⟩

end Sys2Proof.Machine
end

