-- ==== Sys2Proof/Laws/Reply.lean ====
section
/-! SUPPORT. What a reply changes: its own port, and there nothing of the commands that are under way (R353, R358). -/

namespace Sys2Proof.Machine

/-- `t` differs from `s` in one port alone, whose commands in progress, held commands and received packets are as
before. -/
def OnlyPort (n : Nat) (s t : State) : Prop :=
  ∃ q : Port, t = { s with ports := tset s.ports n q } ∧ q.running = (s.port n).running ∧
    q.held = (s.port n).held ∧ q.rx = (s.port n).rx

/-- A change of a port that leaves the commands under way. -/
def KeepsWork (f : Port → Port) : Prop :=
  ∀ q, (f q).running = q.running ∧ (f q).held = q.held ∧ (f q).rx = q.rx

theorem OnlyPort.of_mod (n : Nat) (s : State) {f : Port → Port} (hf : KeepsWork f) : OnlyPort n s (s.modPort n f) :=
  ⟨f (s.port n), rfl, hf _⟩

theorem OnlyPort.mod {n : Nat} {s t : State} (h : OnlyPort n s t) {f : Port → Port} (hf : KeepsWork f) :
    OnlyPort n s (t.modPort n f) := by
  obtain ⟨q, rfl, a, b, c⟩ := h
  refine ⟨f q, ?_, by rw [(hf q).1, a], by rw [(hf q).2.1, b], by rw [(hf q).2.2, c]⟩
  unfold State.modPort State.setPort State.port
  simp only [tget_tset, tset_tset]

/-- A packet that is taken changes its port alone, on every port but the C-port (R351, R353). -/
theorem onlyPort_taken (s : State) (p : Pkt) (hp : p.port ≠ 18) : OnlyPort p.port s (s.taken p) := by
  have e : s.taken p = (s.noteSeq p).noteTag p := by
    unfold State.taken State.noteC; rw [if_neg hp]
  rw [e]
  unfold State.noteTag State.noteSeq
  split
  · exact OnlyPort.mod (OnlyPort.of_mod _ s (f := fun q => { q with rxSeq := (q.rxSeq + 1) % 65536 })
      fun q => ⟨rfl, rfl, rfl⟩) fun q => ⟨rfl, rfl, rfl⟩
  · exact OnlyPort.of_mod _ s fun q => ⟨rfl, rfl, rfl⟩

/-- A reply always joins its queue (R358). -/
theorem enqueue_reply (q : Port) (o : OutPkt) (h : o.kind = 0) : q.enqueue o = { q with out := q.out ++ [o] } := by
  unfold Port.enqueue; rw [if_neg (by rw [h]; simp)]

/-- A reply changes its port alone, where no command waits for the replies of other packages (R349, R354). -/
theorem onlyPort_reply {n : Nat} {s t : State} (h : OnlyPort n s t) (hg : s.casc.gather = []) (op tag cls sc : Nat)
    (w : List Nat) : OnlyPort n s (t.sendReply n op tag cls sc w) := by
  obtain ⟨q, rfl, h'⟩ := h
  have h : OnlyPort n s { s with ports := tset s.ports n q } := ⟨q, rfl, h'⟩
  unfold State.sendReply
  have : ({ s with ports := tset s.ports n q } : State).casc.gather = [] := hg
  rw [this]
  show OnlyPort n s (State.putReply _ _ _ _ _ _ _)
  unfold State.putReply
  split
  · rename_i hl
    unfold State.send State.enqueue
    dsimp only
    rw [if_pos hl.1, if_pos (by simp [State.modPort, State.setPort, State.port, enqueue_reply])]
    exact h.mod fun q => by rw [enqueue_reply _ _ rfl]; exact ⟨rfl, rfl, rfl⟩
  · exact h.mod fun q => ⟨rfl, rfl, rfl⟩

end Sys2Proof.Machine
end

