-- ==== Sys2Proof/Tests/Slice0.lean ====
section
/-! SUPPORT. Tests: ill-formed commands, one-step runs from small states, and for every statement with hypotheses a
state and operands that meet them together. -/

open Sys2Proof Sys2Proof.Machine

namespace Sys2Proof.Tests

set_option Elab.async false

/-! ## Helpers -/

/-- A packet on the S-port, the first after reset: scope level, unit index and parameter words. -/
def pk (level idx : Nat) (ps : List Nat) : Pkt :=
  { port := 16, tag := 0, seq := 0, seqChk := false, scope := BitVec.ofNat 32 (16 * level + 256 * idx)
    params := ps.map (BitVec.ofNat 32), link := 0, claimed := 0 }

/-- The block right after reset. -/
def R : State := State.reset

/-- The conditions of `Ready`, as a test. -/
def ok (sp : OpSpec) (p : Pkt) (s : State) : Bool :=
  s.accepts p.port p.link && (s.port p.port).room && decide ((s.port p.port).rx = []) &&
    decide (sequenced p = true → p.seq = (s.port p.port).rxSeq) && !(s.port p.port).tags.contains p.tag &&
    s.permits sp p.port (s.cmdOf sp.code p) &&
    !s.mustWait (s.cmdOf sp.code p) (s.port p.port).running (s.port p.port).held &&
    decide (s.target sp.levels (s.cmdOf sp.code p) = .here) && !s.powerBusy (s.cmdOf sp.code p)

theorem ready_of_ok {sp : OpSpec} {p : Pkt} {s : State} (h : ok sp p s = true) : Ready sp p s := by
  simp only [ok, Bool.and_eq_true, Bool.not_eq_true', decide_eq_true_eq] at h
  obtain ⟨⟨⟨⟨⟨⟨⟨⟨a, b⟩, c⟩, d⟩, e⟩, f⟩, g⟩, i⟩, j⟩ := h
  exact ⟨a, b, c, d, e, f, g, i, j⟩

/-- Packet `p` of row `sp` passes its checks in `s`, and the hypotheses `h` hold of the state in which its effect
begins and of its command. -/
def Meets (sp : OpSpec) (p : Pkt) (s : State) (h : State → Cmd → Prop) : Prop :=
  Passes sp p s (s.taken p) (s.cmdOf sp.code p) ∧ h (s.taken p) (s.cmdOf sp.code p)

theorem meets {sp : OpSpec} {p : Pkt} {s : State} {h : State → Cmd → Prop} (a : ok sp p s = true)
    (b : h (s.taken p) (s.cmdOf sp.code p)) : Meets sp p s h := ⟨⟨ready_of_ok a, rfl, rfl⟩, b⟩

/-- `s` with `c`, a command of row `sp` from port 16, alone in the admission queue. -/
def waiting (sp : OpSpec) (p : Pkt) (s : State) : State :=
  { s with admQ := [{ port := 16, cmd := s.cmdOf sp.code p }] }

/-- The command of packet `p` is judged in `s`, the queue's rest in place, and `h` holds of it. -/
def Judges (sp : OpSpec) (p : Pkt) (s : State) (h : State → Cmd → Prop) : Prop :=
  Judged sp (waiting sp p s) s 16 (s.cmdOf sp.code p) ∧ h s (s.cmdOf sp.code p)

theorem judges {sp : OpSpec} {p : Pkt} {s : State} {h : State → Cmd → Prop} (a : s.admQ = [])
    (b : h s (s.cmdOf sp.code p)) : Judges sp p s h := by
  refine ⟨⟨?_, ?_, rfl⟩, b⟩
  · rw [a]; rfl
  · cases s; cases a; rfl

/-- A path writes register `r` now, and `h` holds of the state in which the write's effect begins. -/
def Writes (path die off : Nat) (r : RegAt) (s : State) (h : State → Prop) : Prop :=
  WritesReg s (s.expirePairs.disturbPair { master := path, at_ := r, val := 0, be := 15 }) path die off r ∧
    h (s.expirePairs.disturbPair { master := path, at_ := r, val := 0, be := 15 })

theorem writes {path die off : Nat} {r : RegAt} {s : State} {h : State → Prop}
    (a : (s.expirePairs.pathLive path && decide (s.expirePairs.regTarget die off = some r) && pathReach path r &&
      s.expirePairs.mayWrite r.table.1 r.table.2 path) = true)
    (b : h (s.expirePairs.disturbPair { master := path, at_ := r, val := 0, be := 15 })) : Writes path die off r s h := by
  simp only [Bool.and_eq_true, decide_eq_true_eq] at a
  exact ⟨⟨a.1.1.1, a.1.1.2, a.1.2, a.2, rfl⟩, b⟩

/-- A path reads register `r` now, and `h` holds of the state. -/
def Reads (path die off : Nat) (r : RegAt) (s : State) (h : State → Prop) : Prop := ReadsReg s path die off r ∧ h s

theorem reads {path die off : Nat} {r : RegAt} {s : State} {h : State → Prop}
    (a : (s.pathLive path && decide (s.regTarget die off = some r) && pathReach path r &&
      s.mayRead r.table.1 r.table.2 path) = true) (b : h s) : Reads path die off r s h := by
  simp only [Bool.and_eq_true, decide_eq_true_eq] at a
  exact ⟨⟨a.1.1.1, a.1.1.2, a.1.2, a.2⟩, b⟩

theorem placing_of {u t : State} (h : t.badHeads.all (u.badHeads.contains ·) = true) : placingKept u t := by
  intro e he
  simpa using List.all_eq_true.mp h e he

theorem direct_of {u t : State} (h : t.layers.all (fun e => (t.directFault e.1).isNone) = true) : directKept u t := by
  intro e he st hs
  have := List.all_eq_true.mp h e he
  rw [hs] at this
  cases this

/-- A 1920 x 1080 mode. -/
def mode1080 : Mode :=
  { rate := 148500000, wa := 1920, htot := 2200, hss := 88, hsw := 44, ha := 1080, vtot := 1125, vss := 4, vsw := 5 }

/-- Layer 0 is placed on the canvas, its current buffer in region 0. -/
def scene : State :=
  { R with layers := [(0, { requested := some { dstW := 64, dstH := 64 }, applied := { dstW := 64, dstH := 64 }
                            current := some { bases := [0] } })] }

/-- A partner package without a master's strap. -/
def partner (pkg : Nat) : Ident :=
  { pkg, strapMaster := false, part := 0x9128, serial := 0, role := 0, hops := 7, master := 8, gen := 0 }

/-- Head 0 runs in the middle of a frame. -/
def running : State :=
  R.modHead 0 fun h => { h with mode := some mode1080, running := true, inFrame := true, frozen := some {}, line := 1078 }

/-- Cluster 31 reads a LUT image at the start of region 1, which has moved `k` bytes. -/
def lutScene (k : Nat) : State :=
  ({ R with heads := [(124, { lutBusy := some (regionSpan, 16) })] } : State).modRegion 1 fun x => { x with bytes := k }

theorem lutScene_gate (k a : Nat) (h : a / regionSpan = 1) :
    (lutScene k).gate a false (some 16) = (lutScene 0).gate a false (some 16) := by
  simp only [State.gate, h]
  rfl

/-- The reset window of region 1 (R316, R416). -/
def lutWindow : Window :=
  { valid := true, bands := 24576, rmask := 0x03FFFFFFFFFF0001, wmask := 0x003FFFFFFFFD0001 }

theorem lutScene_open (a : Nat) (h1 : a / regionSpan = 1) (h2 : a % regionSpan < 300000) :
    (lutScene 0).gate a false (some 16) = .open 1 0 := by
  have w : (lutScene 0).windowList 1 = [(0, lutWindow)] := by
    decide +kernel
  have n : ¬ regionData ≤ a % regionSpan := by simp only [regionData]; omega
  have f : (lutScene 0).windowAt 1 (a % regionSpan) = some (0, lutWindow) := by
    simp only [State.windowAt, w, lutWindow, bandBytes]
    simp
    omega
  have m : (lutScene 0).mapped 1 lutWindow (a % regionSpan) = true := by
    have : 300000 ≤ (lutScene 0).winRows 1 lutWindow * bandOf ((lutScene 0).pcsOf 1).length := by decide +kernel
    simp only [State.mapped, decide_eq_true_eq]
    omega
  have r : (lutScene 0).regionState 1 = 1 := by decide +kernel
  have t : admits lutWindow.rmask 16 = true := by decide
  have o : ((lutScene 0).region 1).rehoming = false := rfl
  simp [State.gate, h1, n, f, m, r, t, o]

theorem lutScene_block (k a n : Nat) (h1 : a / regionSpan = 1) (h : (lutScene 0).gate a false (some 16) = .open 1 0) :
    ((lutScene k).readBlock a n ⟨6, 16, 0⟩).1 = .ok ∧ ((lutScene k).readBlock a n ⟨6, 16, 0⟩).2.2 = lutScene (k + n) := by
  have e : ∀ x, (lutScene k).mem.memory.judge x = ⟨0, 0, 0⟩ := fun x => by
    show eccJudge 0 = _; decide
  have j : ∀ pl, (lutScene k).judgeBlock 1 a n pl ⟨6, 16, 0⟩ = (.ok, lutScene k) := fun pl => by
    have f : (List.range 8).find? (fun _ => false) = none := by decide
    simp [State.judgeBlock, e, List.filter_map, Function.comp_def, f]
  have g : (lutScene k).gate a false (if (6 : Nat) = 8 then none else some 16) = .open 1 0 :=
    (lutScene_gate k a h1).trans h
  simp only [State.readBlock, Req.checked, g, j]
  exact ⟨trivial, rfl⟩

theorem lut_read : ((lutScene 0).read regionSpan 287496 ⟨6, 16, 0⟩).1 = .ok := by
  have step : ∀ (l : List (Nat × Nat)) (k : Nat) (bs : List Byte),
      (∀ b ∈ l, b.1 / regionSpan = 1 ∧ (lutScene 0).gate b.1 false (some 16) = .open 1 0) →
      (l.foldl (fun (acc : DmaResp × List Byte × State) b =>
        let r := acc.2.2.readBlock b.1 b.2 ⟨6, 16, 0⟩
        (if acc.1 = .ok then r.1 else acc.1, acc.2.1 ++ r.2.1, r.2.2)) (.ok, bs, lutScene k)).1 = .ok := by
    intro l
    induction l with
    | nil => intros; rfl
    | cons b t ih =>
      intro k bs h
      have q := lutScene_block k b.1 b.2 (h b (by simp)).1 (h b (by simp)).2
      simp only [List.foldl_cons, q.1, q.2, if_true]
      exact ih _ _ fun x hx => h x (by simp [hx])
  refine step _ 0 [] fun b hb => ?_
  obtain ⟨i, hi, e⟩ : ∃ i, i < 4493 ∧ b.1 = regionSpan + 64 * i := by
    simp only [blocksOf, regionSpan] at hb ⊢
    simp only [Nat.reduceEqDiff, if_false, List.mem_map, List.mem_range] at hb
    obtain ⟨i, hi, rfl⟩ := hb
    exact ⟨i, by omega, by simp only; omega⟩
  refine ⟨by rw [e]; simp only [regionSpan]; omega, ?_⟩
  exact lutScene_open b.1 (by rw [e]; simp only [regionSpan]; omega) (by rw [e]; simp only [regionSpan]; omega)

/-! ## Witnesses: a state and operands for the hypotheses of each statement -/


/-- Layer 0, one line of 64 pixels, is mirrored into package 1 over link B0, on a master. -/
def mirrored : State :=
  { R with
    casc := { R.casc with role := some 1, members := [(1, 0, 1)], links := [(0, { state := 3, partner := some (partner 1) })] }
    layers := [(0, { requested := some { dstW := 64, dstH := 64 }, applied := { dstW := 64, dstH := 64 }
                     source := { width := 64, height := 1, bases := [0], strides := [256] }
                     current := some { bases := [0] }, holders := [1], mirrorSet := [(0, 256)]
                     heldFor := some { dstW := 64, dstH := 64 } })] }

/-! ## Ill-formed commands are refused -/

/-- A value outside a check of `Pkt.wf` in the field that `f` sets makes the packet ill-formed. -/
theorem test_wf_port : ({ pk 0 0 [] with port := 19 } : Pkt).wf = false ∧ ({ pk 0 0 [] with port := 18 } : Pkt).wf = true := by
  decide

theorem test_wf_tag : ({ pk 0 0 [] with tag := 4096 } : Pkt).wf = false ∧ ({ pk 0 0 [] with tag := 4095 } : Pkt).wf = true := by
  decide

theorem test_wf_seq : ({ pk 0 0 [] with seq := 65536 } : Pkt).wf = false ∧ ({ pk 0 0 [] with seq := 65535 } : Pkt).wf = true := by
  decide

theorem test_wf_length : ({ pk 0 0 [] with params := List.replicate 253 0 } : Pkt).wf = false ∧
    ({ pk 0 0 [] with params := List.replicate 252 0 } : Pkt).wf = true := by
  decide +kernel

theorem test_wf_link : ({ pk 0 0 [] with link := 8 } : Pkt).wf = false ∧ ({ pk 0 0 [] with claimed := 4 } : Pkt).wf = false := by
  decide

theorem test_wf_packets : (Instr.devNop { pk 0 0 [] with port := 19 }).wf = false ∧
    (Instr.layerFlip { pk 0 0 [] with tag := 4096 }).wf = false ∧ (Instr.cascRead { pk 0 0 [] with seq := 65536 }).wf = false := by
  decide

theorem test_wf_rings : (Instr.sqTail 16 0 []).wf = false ∧ (Instr.sqTail 0 65536 []).wf = false ∧ (Instr.cqHead 16 0).wf = false ∧
    (Instr.ringCtrlWrite 18 0 0).wf = false ∧ (Instr.irqAck 0 128).wf = false ∧ (Instr.vfDisable 16).wf = false := by
  decide

theorem test_wf_registers : (Instr.cfgLockLock 18 0 0).wf = false ∧ (Instr.iaDataRead 0 2).wf = false ∧
    (Instr.faultReactPair 0 0 256 0 0).wf = false ∧ (Instr.irqMaskRegisterWrite 0 0 8 0).wf = false ∧
    (Instr.fcFirstTimeLoRead 0 40).wf = false ∧ (Instr.dmaCtrlPause 0 32).wf = false ∧ (Instr.cvResultRead 0 8).wf = false ∧
    (Instr.complementPairTimeout 64 0).wf = false := by
  decide

theorem test_wf_units : (Instr.headCommitLine 128).wf = false ∧ (Instr.linkPlug 96).wf = false ∧
    (Instr.inputLineTimeout 16).wf = false ∧ (Instr.commandSlot 128).wf = false ∧ (Instr.reHomingComplete 8).wf = false ∧
    (Instr.refreshInterval 0 48).wf = false ∧ (Instr.trainingCacheWrite 11).wf = false ∧ (Instr.rampUpdate 140).wf = false ∧
    (Instr.clusterWake 32).wf = false ∧ (Instr.leShortTestComplete 0 9 true).wf = false ∧ (Instr.audioChangeTimeout 0 2).wf = false := by
  decide

theorem test_wf_events : (Instr.blockResetComplete 40 true).wf = false ∧ (Instr.holdoffExpiry 16).wf = false ∧
    (Instr.bureauIrqAck 0 4).wf = false ∧ (Instr.railOutOfRange 4).wf = false ∧ (Instr.wakeEvent 6).wf = false ∧
    (Instr.birtonLockLoss 8).wf = false ∧ (Instr.timingFrameSend 34).wf = false ∧ (Instr.mirrorAckReceived 0 1024 true).wf = false ∧
    (Instr.followerLeft 8).wf = false ∧ (Instr.lineStreamFrame 128 0 0 []).wf = false := by
  decide

/-! ## Values worked out in the spec -/

/-- The bytes of "123456789" in ASCII. -/
def digits9 : List Byte := [0x31, 0x32, 0x33, 0x34, 0x35, 0x36, 0x37, 0x38, 0x39]

/-- R201, R456: the three check values over "123456789". -/
theorem test_check_values : crc32c digits9 = 0xE3069283 ∧
    (({ curPoly := 0, crc := 0xFFFFFFFF } : Cv).feed digits9).result = 0xCBF43926 ∧
    (({ curPoly := 1, crc := 0xFFFFFFFF } : Cv).feed digits9).result = 0xE3069283 ∧
    (({ curPoly := 2, crc := 0xFFFF } : Cv).feed digits9).result = 0x29B1 := by
  decide +kernel

/-- The example after R93: an ARGB2101010 pixel, and half-floats 1.0 and -2.0 as s3.12. -/
theorem test_unpack : unpackPixel 3 0x600403FF [] {} = { c := [0x8020, 0x4010, 0xFFFF], a := 0x5555 } ∧
    halfColour 0x3C00 = 0x1000 ∧ halfColour 0xC000 = -0x2000 := by
  decide +kernel

/-- The example of R118: 10-bit limited BT.709 white. -/
theorem test_white : yccToRgb 1 false 10 [60160, 32768, 32768] = [65535, 65535, 65535] := by
  decide +kernel

/-- The blend example, steps 4 to 7: effective alpha, premultiplied colour, the sum, and the quantised result. -/
theorem test_blend :
    ([1048576, 226346, 0].map fun v => mul16 v 32896) = [526344, 113617, 0] ∧
    blend 16777215 [52428, 52428, 52428] { p := [526344, 113617, 0], a := 32896 } = [552455, 139728, 26111] ∧
    ([49333, 26250, 11237].map (quantPlain 8)) = [192, 102, 44] := by
  decide +kernel

/-- The blend example, steps 2 and 6: the sRGB curve both ways. -/
theorem test_srgb : oetf {} [552455, 139728, 26111] = [49333, 26250, 11237] ∧
    stage6 {} false 2 100 100 [] [65535, 32896, 0] = [1048576, 226346, 0] := by
  decide +kernel

/-- The Mantel example: R198 on alarm pixel (4000, 640). -/
theorem test_mantel_mix : mantelMix 10 768 1023 64 = 784 ∧ mantelMix 10 768 128 64 = 112 ∧ mantelMix 10 768 0 64 = 16 ∧
    mantelMix 10 0 0 64 = 64 := by
  decide

/-- The Mantel example: the combination of two tile signatures, and of the two swapped (R203). -/
theorem test_combine : combine (combine 0 0x3A5C0F12) 0x9E0147B6 = 0xD580A5F1 ∧
    combine (combine 0 0x9E0147B6) 0x3A5C0F12 = 0xFA74F9C1 := by
  decide

/-- The canvas example: steps, offsets, source indexes and phases of layer 40 (R69). -/
theorem test_positions : stepOf 1920 3600 = 559241 ∧ offOf 559241 = -244668 ∧ stepOf 1080 2000 = 566231 ∧
    offOf 566231 = -241173 ∧ idxOf 559241 1819 = 969 ∧ phaseOf 559241 1819 = 57 ∧ idxOf 559241 1836 = 978 ∧
    phaseOf 559241 1836 = 61 ∧ idxOf 566231 1042 = 562 ∧ phaseOf 566231 1042 = 28 ∧ idxOf 559241 3599 = 1919 := by
  decide

/-- The synthesizer example: head H12 at 522,614,400 Hz (R283-R285). -/
theorem test_synth : pixelSet 522614400 1 = ⟨229, 15943992, 11⟩ ∧ defaultSeed 12 = 0x21D69F := by
  decide

/-- The memory example: the address digits of window-relative address 1,000,000 in orders 0 and 1 (R320). -/
theorem test_digits : digits 0 16 4096 1000000 = ⟨13, 21, 1, 1⟩ ∧ digits 1 16 4096 1000000 = ⟨9, 16, 1, 6⟩ := by
  decide +kernel

/-! ## One step -/

/-- The state after one step of a command at the front of a queue. -/
def after (c : Instr) (s : State) : State :=
  match step { s with pending := [c] } with
  | .next t => t
  | _ => s

/-- The packets that a port is about to send: opcode, tag and words. -/
def sent (port : Nat) (s : State) : List (Nat × Nat × List Nat) := (s.port port).out.map fun o => (o.opcode, o.tag, o.params)

/-- R378, R356: DEV.NOP echoes its parameters behind the status word. -/
theorem test_nop : sent 16 (after (.devNop { pk 0 0 [7, 9] with tag := 5 }) R) = [(0x0105, 5, [0, 7, 9])] := by
  decide +kernel

/-- R377: an opcode that no row has replies NOT_PERMITTED. -/
theorem test_unknown : sent 16 (after (.unknownOpcode 16 ([0x7F, 0x7F, 0, 0, 5, 0, 0, 0, 0, 0, 0, 0, 0, 0, 0, 0] ++
    leBytes 4 (trailer 0 [0x7F, 0x7F, 0, 0, 5, 0, 0, 0, 0, 0, 0, 0, 0, 0, 0, 0]))) R) = [(0x7F7F, 5, [4])] := by
  decide +kernel

/-- The packet of the S-port example, trailer and all. -/
def expectBytes : List Byte :=
  [0x01, 0x0E, 0x03, 0x00, 0x25, 0x00, 0x00, 0x01, 0x40, 0x34, 0x00, 0x00, 0x00, 0x00, 0x00, 0x00, 0x05, 0x00, 0x2B, 0x1A,
   0x07, 0x00, 0x00, 0x00, 0xF1, 0xA5, 0x80, 0xD5, 0x70, 0x90, 0x02, 0x03]

/-- After reset, with the S-port's inbound counter at 0x0100 and head 52 about to compare frame 0x1A2B. -/
def alive : State := (R.modPort 16 fun q => { q with rxSeq := 0x100 }).modHead 52 fun h => { h with seq := 0x1A2B }

/-- The example's first line: one flipped bit fails the trailer, BAD_CRC, and the counter stays. -/
theorem test_bad_crc : sent 16 (after (.send (expectBytes.set 20 0x06)) alive) = [(0x0E01, 0x25, [0x01000001])] ∧
    ((after (.send (expectBytes.set 20 0x06)) alive).port 16).rxSeq = 0x100 := by
  decide +kernel

/-- The example's third line: all checks pass, OK is queued, and the counter moves. -/
theorem test_good : sent 16 (after (.send expectBytes) alive) = [(0x0E01, 0x25, [0, 1, 0])] ∧
    ((after (.send expectBytes) alive).port 16).rxSeq = 0x101 := by
  decide +kernel

/-- The example's last line: a second copy fails check 3. -/
theorem test_bad_seq : sent 16 (after (.sendQuad expectBytes) (alive.modPort 16 fun q => { q with rxSeq := 0x101 })) =
    [(0x0E01, 0x25, [0x01010002])] := by
  decide +kernel

/-- R365: S_IRQ_N falls with the first packet queued. -/
theorem test_idle : step R = .next (advance 2 R) := rfl

/-- The table gives no row bits, so no word spells a command. -/
theorem test_no_words : decodeTableWord 32 0 = none ∧ R.withFetchWord 32 0 = R := ⟨rfl, rfl⟩

/-- R534, R67: a write of a captured or copied block into the mirror set goes to its holder as one mirror write, and a flip
queued behind a plane outside the set waits for the copy's two writes (R535). -/
theorem test_mirror_copy :
    let s := after (.layerFlip (pk 0 0 [0, 7, 0, 0, 0, 0, 4096, 0])) mirrored
    (s.layer 0).queue.map (fun f => (f.id, f.mirrored, f.pendingHolders)) = [(7, 2, [{ pkg := 1, left := 2 }])] ∧
    s.casc.mirrorPend = [(1, 0), (1, 0)] ∧ (s.birton 0).out.length = 2 ∧ s.casc.gen = 1 := by
  decide +kernel

/-- R67: with every mirror write acknowledged the flip is forwarded, and it is not selected before the holder answers. -/
theorem test_mirror_forward :
    let s := after (.mirrorAckReceived 1 0 false) { mirrored with
      casc := { mirrored.casc with mirrorPend := [(1, 0)] }
      layers := mirrored.layers.map fun e => (e.1, { e.2 with
        queue := [{ id := 7, bases := [4096], mirrored := 2, pendingHolders := [{ pkg := 1, left := 1 }] }] }) }
    (s.layer 0).queue.map (·.pendingHolders) = [[{ pkg := 1, left := 0, sent := true }]] ∧
    s.casc.forwards.map (fun f => (f.pkg, f.port, f.op, f.params.take 2)) = [(1, 19, 0x0704, [0, 7])] ∧
    (s.layer 0).current.map (·.bases) = some [0] := by
  decide +kernel

/-- R67: when the last holder has answered, the flip may take effect. -/
theorem test_mirror_receipt :
    ((mirrored.modLayer 0 fun l => { l with queue := [
      { id := 7, bases := [4096], mirrored := 2, pendingHolders := [{ pkg := 1, sent := true }] }] }).receipt 1 (0 + 1024 * 7)).settleFlips.layers.map
        (fun e => (e.2.queue.length, e.2.current.map (·.bases), e.2.recent)) = [(0, some [4096], [[4096]])] := by
  decide +kernel
theorem meets_dev_1 :
    Meets opDevIdentify (pk 0 0 []) R (fun _ c => c.params = []) ∧
    Meets opDevCaps (pk 0 0 []) R (fun _ c => c.params = []) ∧
    Meets opDevTime (pk 0 0 []) R (fun _ c => c.params = []) ∧
    Meets opDevNop (pk 0 0 (List.replicate 16 7)) R (fun _ c => c.params.length ≤ 16) ∧
    Meets opDevEvents (pk 0 0 [0xFFFFFFFF]) R (fun _ c => c.params = [0xFFFFFFFF]) :=
  ⟨meets (by decide +kernel) (by decide +kernel),
   meets (by decide +kernel) (by decide +kernel),
   meets (by decide +kernel) (by decide +kernel),
   meets (by decide +kernel) (by decide +kernel),
   meets (by decide +kernel) (by decide +kernel)⟩

theorem meets_dev_2 :
    Meets opDevRegread (pk 1 0 [0x3FFFFFC]) R (fun u c => c.params = [0x3FFFFFC] ∧ u.regOf c.idx 0x3FFFFFC = none) ∧
    Meets opDevRegread (pk 1 0 [0x8]) R (fun u c => c.params = [0x8] ∧ u.regOf c.idx 0x8 = some ⟨0, 0, 8⟩ ∧
      u.mayRead 0 0 c.master ∧ (regAddr 0x8).1 = false ∧
      (u.readReg 16 c.master ⟨0, 0, 8⟩ true).2.pwr.step ≠ .aoBoot) ∧
    Meets opDevRegread (pk 1 1 [0x80000020]) R (fun u c => u.regOf c.idx 0x80000020 = some ⟨1, 1, 4⟩ ∧
      u.mayRead 0 ((⟨1, 1, 4⟩ : RegAt).table.2) c.master ∧ (regAddr 0x80000020).1 = true ∧
      (u.iaRead c.idx (regAddr 0x80000020).2).2.1 = false ∧
      (u.iaRead c.idx (regAddr 0x80000020).2).2.2.pwr.step ≠ .aoBoot) ∧
    Meets opDevRegwrite (pk 1 0 [0x10018, 1]) R (fun u c => c.params.length % 2 = 0 ∧ c.params ≠ [] ∧ c.params.length ≤ 16 ∧
      (∀ x ∈ regPairs c.params, ∀ r, u.regOf c.idx x.1 = some r →
        r.block = 3 ∨ u.mayWrite r.table.1 r.table.2 c.master) ∧
      ((regPairs c.params).foldl (fun t x => t.cmdWrite c x) u).pwr.step ≠ .aoBoot) :=
  ⟨meets (by decide +kernel) (by decide +kernel),
   meets (by decide +kernel) (by decide +kernel),
   meets (by decide +kernel) (by decide +kernel),
   meets (by decide +kernel) (by decide +kernel)⟩

theorem meets_pwr_1 :
    Meets opPwrSet (pk 0 0 [3]) R (fun u c => PState.ofCode 3 = some .active ∧ u.starting = false ∧ u.pwrAllowed .active c.cls = stOk) ∧
    Meets opPwrSet (pk 0 0 [0]) { R with pwr := { R.pwr with wakeNow := 4 } } (fun u c => c.params = [0] ∧ PState.ofCode 0 = some .standby ∧ PState.standby.sleep = true ∧ u.starting = false ∧
      u.pwrAllowed .standby c.cls = stOk ∧ u.sleepBusy = false ∧ u.pwr.wakeNow &&& u.pwr.wakeMask ≠ 0) ∧
    Meets opPwrSet (pk 0 0 [0]) R (fun u c => u.sleepBusy = false ∧ u.pwr.wakeNow &&& u.pwr.wakeMask = 0 ∧ PState.standby.sleep = true ∧
      u.pwrAllowed .standby c.cls = stOk ∧ u.anyArmed = false) ∧
    Meets opPwrSet (pk 0 0 [5]) R (fun _ c => c.params = [5]) ∧
    Meets opPwrWake (pk 0 0 [0xFFFFFFFF]) R (fun _ c => c.params = [0xFFFFFFFF]) :=
  ⟨meets (by decide +kernel) (by decide +kernel),
   meets (by decide +kernel) (by decide +kernel),
   meets (by decide +kernel) (by decide +kernel),
   meets (by decide +kernel) (by decide +kernel),
   meets (by decide +kernel) (by decide +kernel)⟩

theorem meets_pwr_2 :
    Meets opPwrRead (pk 0 0 []) R (fun _ c => c.params = []) :=
  meets (by decide +kernel) (by decide +kernel)

theorem meets_clk_1 :
    Meets opClkSeed (pk 0 0 [139, 0, 2]) R (fun u c => c.params = [139, 0, 2] ∧ u.dieState (synthDie 139) = 1) ∧
    Meets opClkGenlock (pk 0 0 [0, 0, 16666667]) R (fun u _ => (u.clk.genlock.enable ↔ (0 : Nat) ≠ 0) ∧
      (u.clk.genlock.falling ↔ (0 : Nat) ≠ 0) ∧ u.clk.genlock.tg = clampN 5000 1000000000 16666667) ∧
    Meets opClkGenlock (pk 0 0 [1, 0, 1]) R (fun u _ => ¬(u.clk.genlock.enable ↔ (1 : Nat) ≠ 0) ∧
      (State.leaderLost { u with clk := { u.clk with genlock := { enable := true, tg := 5000 } } } .genlock 0 0).pwr.step ≠
        .aoBoot) ∧
    Meets opClkReflost (pk 0 0 [0x10]) R (fun _ c => c.params = [0x10] ∧ reactionOk 2 0x10) ∧
    Meets opClkRead (pk 1 1 [69]) R (fun _ c => c.params = [69]) :=
  ⟨meets (by decide +kernel) (by decide +kernel),
   meets (by decide +kernel) (by decide +kernel),
   meets (by decide +kernel) (by decide +kernel),
   meets (by decide +kernel) (by decide +kernel),
   meets (by decide +kernel) (by decide +kernel)⟩

theorem meets_clk_2 :
    Meets opClkRegion (pk 2 7 [0]) R (fun _ c => c.params = [0]) ∧
    Judges opClkRegion (pk 2 7 [0]) R (fun u c => c.params = [0] ∧ admissionFails u (u.startRegion c.idx (clampN 400000000 1100000000 0)) = none) :=
  ⟨meets (by decide +kernel) (by decide +kernel),
   judges (by decide +kernel) (by decide +kernel)⟩

theorem meets_heel :
    Meets opClkHeel (pk 4 127 [0, 0, 1, 0, 1, 1, 0, 100, 1000, 0, 200]) R (fun u c => (c.params.length = 11 ∧ c.level = 4 ∧
      (heelWords c).getD 0 0 = 0 ∧ u.mayWrite 2 c.idx c.master ∧ (heelWords c).getD 2 0 ≠ 2 ∧ (heelWords c).getD 2 0 ≠ 3 ∧
      u.role ≠ 2 ∧ (u.setHeelWords 127 ((heelWords c).set 3 0)).chainsOk ∧ (u.head 127).stretching = false) ∧ directKept u (u.setHeelWords 127 ((heelWords c).set 3 0))) ∧
    Meets opClkHeel (pk 0 0 [1, 31, 0, 0, 1, 1, 0, 100, 1000, 0, 200]) R (fun u c => (c.params.length = 11 ∧ c.level = 0 ∧
      (heelWords c).getD 0 0 = 1 ∧ c.p 1 < 32 ∧ (u.setHeelWords 287 ((heelWords c).set 3 0)).chainsOk) ∧ directKept u (u.setHeelWords 287 ((heelWords c).set 3 0))) ∧
    Meets opClkHeel (pk 4 0 [0, 0, 3, 1, 2, 1, 0, 100, 1000, 0, 200]) R (fun u c => (heelWords c).getD 2 0 = 3 ∧
      u.leaderHead 16 ((heelWords c).getD 3 0) = 1 ∧ u.mayRead 2 1 c.master ∧ u.headState 1 = 1 ∧
      (u.setHeelWords 0 ((heelWords c).set 3 1)).chainsOk) ∧
    Meets opClkHeel (pk 4 0 [0, 0, 3, 133, 1, 1, 0, 100, 1000, 0, 200]) { R with casc := { R.casc with members := [(1, 0, 1)] } } (fun u c => ((heelWords c).getD 2 0 = 3 ∧ u.leaderHead 16 ((heelWords c).getD 3 0) = 1157 ∧ u.mayWrite 2 c.idx c.master ∧
      u.isMember ((1157 - 1024) / 128) = true ∧ u.streamOver (u.setHeelWords 0 ((heelWords c).set 3 1157)) = none ∧
      (u.setHeelWords 0 ((heelWords c).set 3 1157)).chainsOk)) ∧
    Meets opClkHeel (pk 4 0 [0, 0, 2, 15, 1, 1, 0, 100, 1000, 0, 200]) (R.modHead 0 (fun h => { h with stretching := true })) (fun u c => (heelWords c).getD 2 0 = 2 ∧ u.inputState ((heelWords c).getD 3 0) = 1 ∧ (u.head 0).stretching = true ∧
      (u.setHeelWords 0 ((heelWords c).set 3 15)).chainsOk) :=
  ⟨meets (by decide +kernel) ⟨by decide +kernel, direct_of (by decide +kernel)⟩,
   meets (by decide +kernel) ⟨by decide +kernel, direct_of (by decide +kernel)⟩,
   meets (by decide +kernel) (by decide +kernel),
   meets (by decide +kernel) (by decide +kernel),
   meets (by decide +kernel) (by decide +kernel)⟩

theorem meets_mem_1 :
    Meets opMemRate (pk 1 1 [8000]) R (fun u c => c.params = [8000] ∧ (u.memRate c.idx).target = none) ∧
    Meets opMemRate (pk 1 0 [8000]) (R.modMemRate 0 (fun r => { r with target := some 6400 })) (fun u c => c.params = [8000] ∧ (u.memRate c.idx).target ≠ none) ∧
    Judges opMemRate (pk 1 1 [8000]) R (fun u c => admissionFails u (u.modMemRate c.idx fun r =>
      { r with target := some (memTarget c), phase := 0, issuer := some (16, c.tag) }) = none) ∧
    Meets opMemRowprot (pk 0 0 [0]) R (fun _ c => c.params = [0]) ∧
    Meets opMemErrlog (pk 2 7 [64, 0, 1]) R (fun _ c => c.params = [64, 0, 1] ∧ c.cls ≠ clsV) :=
  ⟨meets (by decide +kernel) (by decide +kernel),
   meets (by decide +kernel) (by decide +kernel),
   judges (by decide +kernel) (by decide +kernel),
   meets (by decide +kernel) (by decide +kernel),
   meets (by decide +kernel) (by decide +kernel)⟩

theorem meets_mem_2 :
    Meets opMemRead (pk 1 1 []) R (fun _ c => c.params = []) :=
  meets (by decide +kernel) (by decide +kernel)

theorem meets_acc_1 :
    Meets opAccWindow (pk 2 7 [255, 0, 0, 0, 0, 3, 0, 0, 0, 0]) R (fun u c => c.params.length = 10 ∧ c.p 0 ≤ 255 ∧ c.p 5 ≤ 3 ∧
      c.p64 1 < regionData ∧ c.p64 1 + c.p64 3 ≤ regionData ∧
      (∀ e ∈ u.windows c.idx, e.1 ≠ c.p 0 → e.2.overlaps (windowOf c (tget {} (u.windows c.idx) (c.p 0)).prot) = false) ∧
      u.protectedOk c.idx (c.p 0) (windowOf c (tget {} (u.windows c.idx) (c.p 0)).prot) = true) ∧
    Meets opAccTable (pk 0 0 [0, 2047, 0, 0, 0, 0]) R (fun u c => c.params.length = 6 ∧ c.p 0 ≤ 3 ∧ c.p 1 < objCount (c.p 0) ∧
      u.objState (c.p 0) (c.p 1) = 1 ∧ c.p 0 ≠ 1) ∧
    Meets opAccTable (pk 0 0 [1, 1023, 0, 0, 0, 0]) R (fun u c => c.params.length = 6 ∧ c.p 1 < objCount (c.p 0) ∧
      u.objState (c.p 0) (c.p 1) = 1 ∧ c.p 0 = 1 ∧ (u.cancelFlips 1023 fun _ => true).pwr.step ≠ .aoBoot) ∧
    Meets opAccRead (pk 2 0 [4, 255]) R (fun _ c => c.params = [4, 255] ∧ c.level = 2) ∧
    Meets opAccRead (pk 0 0 [3, 31]) R (fun u c => c.params = [3, 31] ∧ c.level = 0 ∧ 31 < objCount 3 ∧ u.objState 3 31 = 1) :=
  ⟨meets (by decide +kernel) (by decide +kernel),
   meets (by decide +kernel) (by decide +kernel),
   meets (by decide +kernel) (by decide +kernel),
   meets (by decide +kernel) (by decide +kernel),
   meets (by decide +kernel) (by decide +kernel)⟩

theorem meets_acc_2 :
    Meets opCanvasWindow (pk 0 0 [15, 0xFFFFFFFF]) R (fun u c => c.params = [15, 0xFFFFFFFF] ∧ u.framed = false ∧ u.role = 0) ∧
    Meets opCanvasWindow (pk 0 0 [15, 0xFFFFFFFF]) { R with casc := { R.casc with role := some 1, members := [(1, 0, 1)] } } (fun u _ => u.framed = false ∧ ¬(u.role = 0 ∨ u.role ≠ 2 ∧ u.casc.members = [])) ∧
    Meets opCanvasWindow (pk 0 0 [8, 8]) { R with framed := true } (fun u _ => u.framed = true) ∧
    Meets opCanvasRead (pk 0 0 []) R (fun _ c => c.params = []) :=
  ⟨meets (by decide +kernel) (by decide +kernel),
   meets (by decide +kernel) (by decide +kernel),
   meets (by decide +kernel) (by decide +kernel),
   meets (by decide +kernel) (by decide +kernel)⟩

theorem meets_layer_changes_1 :
    Meets opLayerPlace (pk 0 0 [1023, 0, 0, 64, 64, 0, 0, 64, 64, 0, 0, 0]) R (fun u c => c.params.length = 12 ∧ c.p 0 < 1024 ∧
      u.mayWrite 1 (c.p 0) c.master = true) ∧
    Meets opLayerScale (pk 0 0 [1023, 6, 1, 1, 1, 0, 1]) R (fun u c => c.params.length = 7 ∧ c.p 0 < 1024 ∧
      u.mayWrite 1 (c.p 0) c.master = true) ∧
    Meets opLayerRemove (pk 0 0 [1023]) R (fun u c => c.params.length = 1 ∧ c.p 0 < 1024 ∧ u.mayWrite 1 (c.p 0) c.master = true) ∧
    Meets opLayerSource (pk 0 0 [1023, 0, 0, 64, 64, 0, 0, 256]) R (fun u c => c.params.length = 5 + 3 * fmtPlanes (sourceFormat c) ∧
      c.p 0 < 1024 ∧ u.mayWrite 1 (c.p 0) c.master = true) ∧
    Meets opLayerFlip (pk 0 0 [0, 65535, 0, 0, 0, 0, 0, 4]) scene (fun u c => c.p 0 < 1024 ∧ u.mayWrite 1 (c.p 0) c.master = true ∧
      c.params.length = 6 + 2 * fmtPlanes (u.layer 0).source.format ∧ (u.layer 0).placed = true ∧
      (u.layer 0).bindMode = 0 ∧ u.flipBusy (c.p 0) (bits (c.p 1) 15 0) = false ∧ (u.layer 0).queue.length < 4 ∧
      (∃ b ∈ regionsOf (flipOf 16 c (u.layer 0).source).bases,
        b ∉ regionsOf (((u.layer 0).current.map (·.bases)).getD []))) :=
  ⟨meets (by decide +kernel) (by decide +kernel),
   meets (by decide +kernel) (by decide +kernel),
   meets (by decide +kernel) (by decide +kernel),
   meets (by decide +kernel) (by decide +kernel),
   meets (by decide +kernel) (by decide +kernel)⟩

theorem meets_layer_changes_2 :
    Meets opLayerFlip (pk 0 0 [0, 65535, 0, 0, 0, 0, 256, 0]) scene (fun u c => (u.layer 0).placed = true ∧
      (∀ b ∈ regionsOf (flipOf 16 c (u.layer 0).source).bases,
        b ∈ regionsOf (((u.layer 0).current.map (·.bases)).getD []))) ∧
    Meets opLayerFlip (pk 0 0 [0, 65535, 0, 0, 0, 0, 256, 0]) { scene with
      casc := { scene.casc with role := some 2 }
      layers := scene.layers.map fun e => (e.1, { e.2 with shared := true }) } (fun u c => c.p 0 < 1024 ∧
      u.mayWrite 1 (c.p 0) c.master = true ∧ (u.layer 0).placed = true ∧ u.role = 2 ∧ (u.layer 0).shared = true ∧
      c.params.length = 6 + 2 * fmtPlanes (u.layer 0).source.format) ∧
    Judges opLayerPlace (pk 0 0 [1, 0, 0, 64, 64, 0, 0, 64, 64, 0, 0, 0]) scene (fun u c => ((u.modLayer 1 fun l => ({ l with requested := some c.place, applied := clampPlace (u.layer 1).source c.place } :
        Layer).unreduced).reduce 1).any (fun t => (admissionFails u t).isNone) = true ∧ placingKept u (u.modLayer 1 fun l =>
        ({ l with requested := some c.place, applied := clampPlace (u.layer 1).source c.place } : Layer).unreduced) ∧ directKept u (u.modLayer 1 fun l =>
        ({ l with requested := some c.place, applied := clampPlace (u.layer 1).source c.place } : Layer).unreduced)) ∧
    Judges opLayerScale (pk 0 0 [0, 2, 1, 1, 1, 0, 1]) scene (fun u c => ((u.modLayer 0 fun l => ({ l with scale := .ofWords (scaleWords c) } : Layer).unreduced).reduce 0).any
        (fun t => (admissionFails u t).isNone) = true) ∧
    Judges opLayerRemove (pk 0 0 [0]) scene (fun u _ => admissionFails u
      (((u.cancelFlips 0 fun _ => true).modLayer 0 Layer.removed).releaseRing 0) = none) :=
  ⟨meets (by decide +kernel) (by decide +kernel),
   meets (by decide +kernel) (by decide +kernel),
   judges (by decide +kernel) ⟨by decide +kernel, placing_of (by decide +kernel), direct_of (by decide +kernel)⟩,
   judges (by decide +kernel) (by decide +kernel),
   judges (by decide +kernel) (by decide +kernel)⟩

theorem meets_layer_changes_3 :
    Judges opLayerSource (pk 0 0 [0, 9, 0, 64, 64, 0, 0, 256]) scene (fun u c => ((sourceOf c).format = 9 ∧ admissionFails u
      { (u.cancelFlips 0 fun _ => true).modLayer 0 (·.resourced (sourceOf c)) with palettes := [] } = none) ∧ placingKept u { (u.cancelFlips 0 fun _ => true).modLayer 0 (·.resourced (sourceOf c)) with palettes := [] } ∧ directKept u { (u.cancelFlips 0 fun _ => true).modLayer 0 (·.resourced (sourceOf c)) with palettes := [] }) ∧
    Judges opLayerFlip (pk 0 0 [0, 65535, 0, 0, 0, 0, 0, 4]) scene (fun u c => (u.layer 0).queue.length < 4 ∧ (u.layer 0).placed = true ∧
      (match u.queueFlip 16 c with | .ok _ _ t => (admissionFails u t).isNone | _ => false) = true) :=
  ⟨judges (by decide +kernel) ⟨by decide +kernel, placing_of (by decide +kernel), direct_of (by decide +kernel)⟩,
   judges (by decide +kernel) (by decide +kernel)⟩

theorem meets_layer_settings_1 :
    Meets opLayerColour (pk 0 0 (1023 :: List.replicate 32 0)) R (fun u c => c.params.length = 33 ∧ c.p 0 < 1024 ∧
      u.mayWrite 1 (c.p 0) c.master = true) ∧
    Meets opLayerFill (pk 0 0 [1023, 0xFFFFFFFF, 0xFFFFFFFF]) R (fun u c => c.params = [1023, 0xFFFFFFFF, 0xFFFFFFFF] ∧
      u.mayWrite 1 (c.p 0) c.master = true) ∧
    Meets opLayerPolicy (pk 0 0 [1023, 3]) R (fun u c => c.params = [1023, 3] ∧ u.mayWrite 1 (c.p 0) c.master = true) ∧
    Meets opLayerPalette (pk 0 0 [1023, 255, 2, 7, 8]) R (fun u c => c.params.length = 3 + clampN 1 240 (c.p 2) ∧
      min (clampN 1 240 (c.p 2)) (256 - min 255 (c.p 1)) = 1 ∧ u.mayWrite 1 (c.p 0) c.master = true) ∧
    Meets opLayerCoefset (pk 0 0 ([15, 63, 1, 0] ++ List.replicate 7 0)) R (fun u c => c.params.length = 4 + 7 * clampN 1 32 (c.p 2) ∧
      u.coefStage = none) :=
  ⟨meets (by decide +kernel) (by decide +kernel),
   meets (by decide +kernel) (by decide +kernel),
   meets (by decide +kernel) (by decide +kernel),
   meets (by decide +kernel) (by decide +kernel),
   meets (by decide +kernel) (by decide +kernel)⟩

theorem meets_layer_settings_2 :
    Meets opLayerCoefset (pk 0 0 ([15, 63, 1, 0] ++ List.replicate 7 0)) { R with coefStage := some (3, linearSet) } (fun u c => c.params.length = 4 + 7 * clampN 1 32 (c.p 2) ∧ (u.coefStage.map (·.1)) = some 3 ∧ 3 ≠ clampN 3 15 (c.p 0)) ∧
    Meets opLayerEotftable (pk 0 0 [15, 1024, 1, 1, 0xFFFFFFFF]) R (fun u c => c.params.length = 4 + clampN 1 240 (c.p 2) ∧
      u.eotfStage = none) ∧
    Meets opLayerEotftable (pk 0 0 [15, 1024, 1, 1, 0]) { R with eotfStage := some (0, linearEotf) } (fun u c => c.params.length = 4 + clampN 1 240 (c.p 2) ∧ (u.eotfStage.map (·.1)) = some 0 ∧ 0 ≠ min 15 (c.p 0)) ∧
    Meets opLayerTonetable (pk 0 0 [15, 4095, 1, 0, 0xFFFFFFFF]) R (fun u c => c.params.length = 4 + (clampN 1 480 (c.p 2) + 1) / 2 ∧
      u.toneStage = none) ∧
    Meets opLayerTonetable (pk 0 0 [15, 4095, 1, 1, 0]) { R with toneStage := some (0, unityTone) } (fun u c => c.params.length = 4 + (clampN 1 480 (c.p 2) + 1) / 2 ∧ (u.toneStage.map (·.1)) = some 0 ∧ 0 ≠ min 15 (c.p 0)) :=
  ⟨meets (by decide +kernel) (by decide +kernel),
   meets (by decide +kernel) (by decide +kernel),
   meets (by decide +kernel) (by decide +kernel),
   meets (by decide +kernel) (by decide +kernel),
   meets (by decide +kernel) (by decide +kernel)⟩

theorem meets_layer_settings_3 :
    Meets opLayerRead (pk 0 0 [1023]) R (fun u c => c.params = [1023] ∧ u.mayRead 1 1023 c.master) :=
  meets (by decide +kernel) (by decide +kernel)

theorem meets_head_changes_1 :
    Meets opHeadPlace (pk 4 127 [0, 0, 0, 0]) R (fun u c => c.params.length = 4 ∧ ∀ h ∈ u.pairHeads c.idx, u.mayWrite 2 h c.master = true) ∧
    Meets opHeadTiming (pk 4 127 (List.replicate 7 0)) R (fun u c => c.params.length = 7 ∧
      ∀ h ∈ u.pairHeads c.idx, u.mayWrite 2 h c.master = true) ∧
    Meets opHeadGroup (pk 4 127 [255]) R (fun u c => c.params = [255] ∧ ∀ h ∈ u.pairHeads c.idx, u.mayWrite 2 h c.master = true) ∧
    Meets opHeadPair (pk 4 126 [1]) R (fun u c => c.params.length = 1 ∧ c.idx % 2 = 0 ∧
      ∀ h ∈ [c.idx, c.idx + 1], u.mayWrite 2 h c.master = true) ∧
    Judges opHeadPlace (pk 4 0 [100, 100, 1, 0]) scene (fun u c => ((u.placeAny c.idx (c.p 0) (c.p 1) 1 false).any fun t =>
      t.badHeads.all (u.badHeads.contains ·) && t.layers.all (fun e => (t.directFault e.1).isNone) &&
        (admissionFails u t).isNone) = true) :=
  ⟨meets (by decide +kernel) (by decide +kernel),
   meets (by decide +kernel) (by decide +kernel),
   meets (by decide +kernel) (by decide +kernel),
   meets (by decide +kernel) (by decide +kernel),
   judges (by decide +kernel) (by decide +kernel)⟩

theorem meets_head_changes_2 :
    Judges opHeadTiming (pk 4 0 [1, 10000000, 64 + 65536 * 96, 0, 64 + 65536 * 67, 0, 0]) R (fun u c => ((u.timingFor c.idx c).any fun m => (u.setModes m (u.pairHeads c.idx)).any fun v =>
        (v.placeAny c.idx 0 0 0 false).any fun w =>
          let t := ((w.pairHeads c.idx).foldl State.setDepth w).settleCommits
          t.badHeads.all (u.badHeads.contains ·) && t.layers.all (fun e => (t.directFault e.1).isNone) &&
            (admissionFails u t).isNone) = true) ∧
    Judges opHeadGroup (pk 4 0 [31]) scene (fun u c => c.params = [31] ∧
      (((u.pairHeads c.idx).foldl (fun (t : Option State) j => t.bind (·.joinGroup j 31)) (some u)).any fun v =>
        v.chainsOk &&
          let t := ((v.pairHeads c.idx).foldl State.setDepth v).settleCommits
          t.layers.all (fun e => (t.directFault e.1).isNone) && (admissionFails u t).isNone) = true) ∧
    Judges opHeadPair (pk 4 0 [0]) scene (fun u c => c.params = [0] ∧
      (let t := (((u.breakPair c.idx).setDepth c.idx).setDepth (c.idx + 1)).settleCommits
       t.chainsOk && t.badHeads.all (u.badHeads.contains ·) && t.layers.all (fun e => (t.directFault e.1).isNone) &&
         (admissionFails u t).isNone) = true) :=
  ⟨judges (by decide +kernel) (by decide +kernel),
   judges (by decide +kernel) (by decide +kernel),
   judges (by decide +kernel) (by decide +kernel)⟩

theorem meets_head_settings_1 :
    Meets opHeadBind (pk 4 127 [255, 0, 0]) R (fun u c => c.params.length = 3 ∧ u.mayWrite 2 c.idx c.master ∧ (c.bind 0).link = 255 ∧
      (c.bind 0).mst = false) ∧
    Meets opHeadBind (pk 4 127 [95, 0, 0]) R (fun u c => u.mayWrite 2 c.idx c.master ∧ (c.bind 0).link < 96 ∧
      u.linkState (c.bind 0).link = 1 ∧ (c.bind 0).link / 48 = c.idx / 64 ∧ (c.bind 0).mst = false ∧
      u.bindClash c.idx (c.bind 0) = false) ∧
    Meets opHeadColour (pk 4 127 (List.replicate 15 0)) R (fun u c => c.params.length = 15 ∧ u.mayWrite 2 c.idx c.master ∧
      (HeadColour.ofWords (headColourWords c)).lutOn = false) ∧
    Meets opHeadColour (pk 4 127 (List.replicate 12 0 ++ [1, 0, 0])) R (fun u c => c.params.length = 15 ∧
      (HeadColour.ofWords (headColourWords c)).lutOn = true ∧ u.stagingBusy (c.idx / 4) = false) ∧
    Meets opHeadColour (pk 4 127 (List.replicate 12 0 ++ [1, 0, 0])) (R.modHead 127 (fun h => { h with lutBusy := some (0, 16) })) (fun u c => u.mayWrite 2 c.idx c.master ∧ (HeadColour.ofWords (headColourWords c)).lutOn = true ∧
      u.stagingBusy (c.idx / 4) = true) :=
  ⟨meets (by decide +kernel) (by decide +kernel),
   meets (by decide +kernel) (by decide +kernel),
   meets (by decide +kernel) (by decide +kernel),
   meets (by decide +kernel) (by decide +kernel),
   meets (by decide +kernel) (by decide +kernel)⟩

theorem meets_head_settings_2 :
    Meets opHeadCommit (pk 4 127 [1]) R (fun u c => c.params = [1] ∧ u.mayWrite 2 c.idx c.master) ∧
    Meets opHeadPolicy (pk 4 127 [2, 0xFFFFFFFF, 0xFFFFFFFF]) R (fun u c => c.params = [2, 0xFFFFFFFF, 0xFFFFFFFF] ∧
      u.mayWrite 2 c.idx c.master) ∧
    Meets opHeadRead (pk 4 127 []) R (fun u c => c.params = [] ∧ u.mayRead 2 c.idx c.master) :=
  ⟨meets (by decide +kernel) (by decide +kernel),
   meets (by decide +kernel) (by decide +kernel),
   meets (by decide +kernel) (by decide +kernel)⟩

theorem meets_link_1 :
    Meets opLinkConfig (pk 0 0 [95, 0, 0, 0, 0, 0]) R (fun u c => c.params.length = 6 ∧ c.p 0 < 96 ∧ u.linkState (c.p 0) = 1 ∧
      (State.dropLink { u with links := [(95, { enabled := false, maxRate := 1620, maxLanes := 1, spread := false })] } 95 0).pwr.step ≠ .aoBoot) ∧
    Meets opLinkTrain (pk 0 0 [95, 0, 0]) (R.modLink 95 (fun l => { l with state := 4 })) (fun u c => c.params = [95, 0, 0] ∧
      u.linkState 95 = 1 ∧ (u.link 95).state = 4 ∧ (u.link 95).retrainAll = false ∧ (u.link 95).retrainCmd = false) ∧
    Meets opLinkTrain (pk 0 0 [95, 1, 1]) R (fun u c => c.params = [95, 1, 1] ∧ u.linkState 95 = 1 ∧ (u.link 95).state ≠ 4) ∧
    Meets opLinkAux (pk 0 0 [95, 1, 0x120, 16, 0, 0, 0, 0]) R (fun u c => c.params.length = 8 ∧ c.p 0 < 96 ∧ u.linkState (c.p 0) = 1 ∧
      (u.link (c.p 0)).state ∉ [2, 3, 5] ∧ c.p 1 ≠ 0 ∧ auxProtected (min 0xFFFFF (c.p 2)) (clampN 1 16 (c.p 3)) = false) ∧
    Meets opLinkAutostart (pk 4 127 [1, 95, 0, 0, 0, 0, 0, 0, 0, 0, 0, 0]) R (fun u c => c.params.length = 12 ∧ u.mayWrite 2 c.idx c.master ∧
      (c.bind 1).link < 96 ∧ u.linkState (c.bind 1).link ≠ 0 ∧ (c.bind 1).link / 48 = c.idx / 64) :=
  ⟨meets (by decide +kernel) (by decide +kernel),
   meets (by decide +kernel) (by decide +kernel),
   meets (by decide +kernel) (by decide +kernel),
   meets (by decide +kernel) (by decide +kernel),
   meets (by decide +kernel) (by decide +kernel)⟩

theorem meets_link_2 :
    Meets opLinkRead (pk 0 0 [95]) R (fun u c => c.params = [95] ∧ u.linkState 95 = 1 ∧ ∀ h ∈ u.boundTo 95, u.mayRead 2 h c.master) :=
  meets (by decide +kernel) (by decide +kernel)

theorem meets_input_1 :
    Meets opInputConfig (pk 0 0 [15, 2]) R (fun u c => c.params = [15, 2] ∧ u.inputState 15 = 1 ∧
      (u.modInput 15 fun i => { i with enabled := true, hpd := true }).pwr.step ≠ .aoBoot) ∧
    Meets opInputConfig (pk 0 0 [15, 0]) (R.modInput 15 (fun i => { i with enabled := true, hpd := true })) (fun u c => c.params = [15, 0] ∧
      u.inputState 15 = 1 ∧ (u.input 15).enabled = true ∧ (u.inputLost 15).pwr.step ≠ .aoBoot) ∧
    Meets opInputEdid (pk 0 0 ([15, 0] ++ List.replicate 32 0)) R (fun u c => c.params.length = 2 + 32 * clampN 1 4 (c.p 1) ∧ c.p 0 < 16 ∧
      u.inputState (c.p 0) = 1) ∧
    Meets opInputCapture (pk 0 0 [15, 0, 0, 64, 64, 2, 0, 0, 0, 0, 256, 256, 60, 200, 1]) R (fun u c => c.params.length = capTailAt c + 4 ∧
      c.p 0 < 16 ∧ u.inputState (c.p 0) = 1) ∧
    Judges opInputCapture (pk 0 0 [15, 0, 0, 64, 64, 2, 0, 0, 0, 0, 256, 256, 60, 200, 1]) R (fun u c => capTailAt c = 11 ∧
      admissionFails u (u.modInput 15 fun i => { i with
        capFormat := capFormatOf c, capTiled := false, capW := 64, capH := 64, bufs := capBases c
        capStrides := capStridesOf c, capToken := none, fmax := 60, timeout := 200, capOn := true
        stamps := [], writeBuf := 0, writing := false, sinceStart := none, newest := none, inUse := [] }) = none) :=
  ⟨meets (by decide +kernel) (by decide +kernel),
   meets (by decide +kernel) (by decide +kernel),
   meets (by decide +kernel) (by decide +kernel),
   meets (by decide +kernel) (by decide +kernel),
   judges (by decide +kernel) (by decide +kernel)⟩

theorem meets_input_2 :
    Meets opInputBind (pk 0 0 [1023, 15, 3, 2, 0, 0]) R (fun u c => c.params.length = 6 ∧ c.p 0 < 1024 ∧
      u.mayWrite 1 (c.p 0) c.master = true ∧ c.p 1 < 16 ∧ u.inputState (c.p 1) = 1) ∧
    Judges opInputBind (pk 0 0 [1023, 15, 0, 0, 0, 0]) R (fun u c => (c.p 2 = 0 ∧
      (((u.releaseRing 1023).modLayer 1023 fun y => { y with bindInput := 15, delta := 0 }).reduce 1023).any
        (fun t => (admissionFails u t).isNone) = true) ∧ placingKept u ((u.releaseRing 1023).modLayer 1023 fun y => { y with bindInput := 15, delta := 0 }) ∧ directKept u ((u.releaseRing 1023).modLayer 1023 fun y => { y with bindInput := 15, delta := 0 })) ∧
    Judges opInputBind (pk 0 0 [1023, 15, 1, 0, 0, 0]) (R.modLayer 1022 (fun y => { y with bindMode := 1, bindInput := 15 })) (fun u c => c.p 2 = 1 ∧
      (u.layers.filter fun e => e.1 ≠ c.p 0 && e.2.bindMode = 1 && e.2.bindInput = c.p 1).length < 8) ∧
    Meets opInputStatus (pk 0 0 [15]) R (fun u c => c.params = [15] ∧ u.inputState 15 = 1) :=
  ⟨meets (by decide +kernel) (by decide +kernel),
   judges (by decide +kernel) ⟨by decide +kernel, placing_of (by decide +kernel), direct_of (by decide +kernel)⟩,
   judges (by decide +kernel) (by decide +kernel),
   meets (by decide +kernel) (by decide +kernel)⟩

theorem meets_audio_1 :
    Meets opInputAudio (pk 0 0 [15, 1, 24, 1, 0, 0, 0, 51]) R (fun u c => c.params.length = 8 ∧ c.p 0 < 16 ∧ u.inputState (c.p 0) = 1) ∧
    Judges opInputAudio (pk 0 0 [15, 1, 24, 1, 0, 0, 0, 51]) R (fun u _ => admissionFails u (u.modAud 31 fun a =>
      { a.restart with enabled := true, width := 24, pack4 := true, base := 0, size := 4096, zc := 50 }) = none) ∧
    Meets opAudioConfig (pk 0 0 [3, 1, 1, 32, 24, 1, 0, 0, 0, 51]) R (fun u c => c.params.length = 10 ∧ c.p 0 < 4 ∧ u.audState (c.p 0) = 1) ∧
    Judges opAudioConfig (pk 0 0 [3, 1, 1, 32, 24, 1, 0, 0, 0, 51]) R (fun u _ => admissionFails u (u.modAud 3 fun a =>
      { a.restart with enabled := true, leftJust := true, slot := 32, width := 24, pack4 := true, base := 0, size := 4096
                       zc := 50 }) = none) ∧
    Meets opAudioRoute (pk 0 0 [31, 0, 127]) R (fun u c => c.params.length = 2 + clampN 1 16 (c.p 1) ∧ u.sourceStatus (c.p 0) = 1 ∧
      (∀ h ∈ c.params.drop 2, h < 128 ∧ u.headState h = 1 ∧ u.mayWrite 2 h c.master) ∧
      (u.audioRouteTo 127 31 16).pwr.step ≠ .aoBoot) :=
  ⟨meets (by decide +kernel) (by decide +kernel),
   judges (by decide +kernel) (by decide +kernel),
   meets (by decide +kernel) (by decide +kernel),
   judges (by decide +kernel) (by decide +kernel),
   meets (by decide +kernel) (by decide +kernel)⟩

theorem meets_audio_2 :
    Meets opAudioMute (pk 4 127 [3, 2]) R (fun u c => c.params = [3, 2] ∧ u.mayWrite 2 c.idx c.master ∧
      ((bitsOf 2 3).foldl (fun v ch => v.audioChange c.idx ch (min 1 2) 16) u).pwr.step ≠ .aoBoot) ∧
    Meets opAudioStatus (pk 0 0 [31]) R (fun u c => c.params = [31] ∧ u.sourceStatus 31 = 1) :=
  ⟨meets (by decide +kernel) (by decide +kernel),
   meets (by decide +kernel) (by decide +kernel)⟩

theorem meets_mantel_1 :
    Meets opMantelArea (pk 0 0 [0, 0, 0, 8]) R (fun u c => c.params.length = 4 ∧ u.areaOk (c.p64 0) ∧ u.areaOk (c.p64 2) ∧
      c.p64 0 / regionSpan / 2 ≠ c.p64 2 / regionSpan / 2 ∧ u.armedOrPending = false) ∧
    Meets opMantelArea (pk 0 0 [0, 0, 0, 8]) (R.modHead 127 (fun h => { h with armed := true })) (fun u c => u.areaOk (c.p64 0) ∧
      u.areaOk (c.p64 2) ∧ c.p64 0 / regionSpan / 2 ≠ c.p64 2 / regionSpan / 2 ∧ u.armedOrPending = true) ∧
    Meets opMantelAtlas (pk 0 0 [0xFFFFFF, 1, 0xFF]) R (fun u c => c.p 1 = 1 ∧ c.params.length = 2 + ceilDiv (c.p 1) 4 ∧
      c.p 0 + c.p 1 ≤ 0x1000000 ∧ (∀ b ∈ (wordBytes (c.params.drop 2)).drop 1, b = 0) ∧
      (u.mantelWrite 0xFFFFFF ((wordBytes (c.params.drop 2)).take 1)).pwr.step ≠ .aoBoot) ∧
    Meets opMantelPalette (pk 0 0 [15, 255, 1, 0x0FFF0FFF, 0x0FFF0FFF]) R (fun u c => c.params.length = 3 + 2 * c.p 2 ∧
      c.p 1 + c.p 2 ≤ 256 ∧ (∀ w ∈ c.params.drop 3, w &&& 0xF000F000 = 0) ∧
      (u.mantelWrite (paletteAt u.pendingBuf 15 + 8 * 255) (wordBytes (c.params.drop 3))).dirty.pwr.step ≠ .aoBoot) ∧
    Meets opMantelPalette (pk 0 0 [0, 0, 1, 0, 0]) { R with mantel := { R.mantel with sealed := some 1 } } (fun u c => u.mantel.sealed.isSome ∧ c.params.length = 3 + 2 * c.p 2 ∧
      (u.mantelWrite (paletteAt u.pendingBuf 0) (wordBytes (c.params.drop 3))).dirty.pwr.step ≠ .aoBoot) :=
  ⟨meets (by decide +kernel) (by decide +kernel),
   meets (by decide +kernel) (by decide +kernel),
   meets (by decide +kernel) (by decide +kernel),
   meets (by decide +kernel) (by decide +kernel),
   meets (by decide +kernel) (by decide +kernel)⟩

theorem meets_mantel_2 :
    Meets opMantelBackdrop (pk 4 127 (List.replicate 34 0x0FFF0FFF)) R (fun u c => c.params.length = 34 ∧
      (∀ w ∈ c.params, w &&& 0xF000F000 = 0) ∧
      (u.mantelWrite (coloursAt u.pendingBuf c.idx) (wordBytes c.params)).dirty.pwr.step ≠ .aoBoot) ∧
    Meets opMantelSprites (pk 4 127 [255, 1, 256, 0x0FFF0E00, 0x00010200, 0, 0x7F]) R (fun u c => c.p 0 = 255 ∧ c.p 1 = 1 ∧ c.p 2 = 256 ∧
      c.params.length = 3 + 4 * c.p 1 ∧ (∀ i < 1, spriteOk (((c.params.drop 3).drop (4 * i)).take 4)) ∧
      (u.mantelWrite (spriteAt u.pendingBuf c.idx + 16 * 255) (wordBytes (c.params.drop 3))).dirty.pwr.step ≠ .aoBoot) ∧
    Meets opMantelCommit (pk 0 0 [65535]) R (fun u c => c.params = [65535] ∧ 65535 ≠ u.mantel.version) ∧
    Meets opMantelArm (pk 4 127 [1]) R (fun u c => c.params = [1] ∧
      ((u.pairHeads c.idx).foldl (fun t h => t.armHead h (decide (1 = 1))) u).pwr.step ≠ .aoBoot) :=
  ⟨meets (by decide +kernel) (by decide +kernel),
   meets (by decide +kernel) (by decide +kernel),
   meets (by decide +kernel) (by decide +kernel),
   meets (by decide +kernel) (by decide +kernel)⟩

theorem meets_store_ctm_1 :
    Meets opMantelStore (pk 0 0 [0, 0, 0]) R (fun _ c => c.p 2 = 0 ∧ c.params.length = 3 + ceilDiv (c.p 2) 4) ∧
    Meets opMantelStore (pk 0 0 [1, imageBytes - 1, 1, 0xFF]) { R with mantel := { R.mantel with staging := some [] } } (fun u c => c.p 1 + c.p 2 ≤ imageBytes ∧ c.params.length = 3 + ceilDiv (c.p 2) 4 ∧
      (∀ b ∈ (wordBytes ((c.params.drop 3).take 1)).drop 1, b = 0) ∧ u.mantel.staging = some []) ∧
    Meets opMantelStore (pk 0 0 [2, 0, 0, 1085596233]) { R with mantel := { R.mantel with staging := some [] } } (fun u c => c.params.length = 4 + ceilDiv (c.p 2) 4 ∧ u.mantel.staging = some [] ∧ sparseCrc [] imageBytes = c.p 3) ∧
    Meets opMantelStore (pk 0 0 [2, 0, 0, 0]) { R with mantel := { R.mantel with staging := some [] } } (fun _ c => c.params.length = 4 + ceilDiv (c.p 2) 4 ∧ sparseCrc [] imageBytes ≠ c.p 3) ∧
    Meets opMantelRead (pk 0 0 []) R (fun _ c => c.params = []) :=
  ⟨meets (by decide +kernel) (by decide +kernel),
   meets (by decide +kernel) (by decide +kernel),
   meets (by decide +kernel) (by decide +kernel),
   meets (by decide +kernel) (by decide +kernel),
   meets (by decide +kernel) (by decide +kernel)⟩

theorem meets_store_ctm_2 :
    Meets opCtmWrite (pk 0 0 [0xFFFFFF, 1, 0x2FFF]) R (fun u c => c.params.length = 2 + ceilDiv (c.p 1) 2 ∧ c.p 0 + c.p 1 ≤ 0x1000000 ∧
      (∀ e ∈ entriesOf (c.p 1) (c.params.drop 2), e / 4096 ≤ 2) ∧ c.p (1 + ceilDiv (c.p 1) 2) < 65536 ∧
      u.mantel.sealed = none) ∧
    Meets opCtmFill (pk 0 0 [0, 0x0FFF0FFF, 12287]) R (fun u c => c.params = [0, 0x0FFF0FFF, 12287] ∧ u.wx = 0 ∧ u.wy = 0 ∧
      0x0FFF0FFF % 65536 < u.wx / 8 + 4096 ∧ 0x0FFF0FFF / 65536 % 65536 < u.wy / 8 + 4096 ∧ u.mantel.sealed = none) ∧
    Meets opCtmRead (pk 0 0 [0xFFFFFF, 1]) R (fun u c => c.params = [0xFFFFFF, 1] ∧ 0xFFFFFF + 1 ≤ 0x1000000 ∧
      (u.mantelRead (ctmPart + 2 * 0xFFFFFF) (2 * 1)).2.2.pwr.step ≠ .aoBoot) :=
  ⟨meets (by decide +kernel) (by decide +kernel),
   meets (by decide +kernel) (by decide +kernel),
   meets (by decide +kernel) (by decide +kernel)⟩

theorem meets_verify_1 :
    Meets opVerifyExpect (pk 4 127 [0xFF + 65536 * 63, 0xFFFF, 0xFFFFFFFF]) R (fun u c => c.params.length = 3 * 1 ∧
      (∀ i < 1, bits (c.p (3 * i)) 15 8 = 0 ∧ bits (c.p (3 * i + 1)) 31 16 = 0 ∧ seqDist (expectAt c i).2.1 0 < 64) ∧
      (((u.modHead c.idx Head.dropStale).storeRefs c.idx [expectAt c 0]).any fun t => decide (t.pwr.step ≠ .aoBoot)) = true) ∧
    Meets opVerifyExpect (pk 4 127 [0xFF, 9, 1]) (R.modHead 127 (fun h => { h with
        refs := (List.range 8).map fun k => { group := 0xFF, ver := k, slot := k } })) (fun u c => ((u.modHead c.idx Head.dropStale).storeRefs c.idx [expectAt c 0]).isNone = true ∧ seqDist (expectAt c 0).2.1 0 < 64) ∧
    Meets opVerifyReact (pk 4 127 [4, 16, 2, 1, 2]) R (fun u c => c.params = [4, 16, 2, 1, 2] ∧ c.level = 4 ∧
      (u.modHead 127 fun d => { d with reacts := [(4, { threshold := 16, notify := 2, errPin := true, action := 2 })] }).pwr.step ≠
        .aoBoot) ∧
    Meets opVerifyReact (pk 0 0 [0, 1, 0, 0, 0]) R (fun u c => c.params = [0, 1, 0, 0, 0] ∧ c.level = 0 ∧
      ((List.range 128).foldl (fun v h => v.modHead h fun d => { d with reacts := tset d.reacts 0 {} }) u).pwr.step ≠ .aoBoot) ∧
    Meets opVerifyRelease (pk 4 127 []) R (fun _ c => c.params = []) :=
  ⟨meets (by decide +kernel) (by decide +kernel),
   meets (by decide +kernel) (by decide +kernel),
   meets (by decide +kernel) (by decide +kernel),
   meets (by decide +kernel) (by decide +kernel),
   meets (by decide +kernel) (by decide +kernel)⟩

theorem meets_verify_2 :
    Meets opVerifyTiles (pk 4 127 [255]) R (fun _ c => c.params = [255]) ∧
    Meets opVerifyEcho (pk 4 127 [1]) R (fun _ c => c.params = [1]) ∧
    Meets opVerifySafefill (pk 4 127 [0x0FFF0FFF, 0xFFF]) R (fun _ c => c.params = [0x0FFF0FFF, 0xFFF] ∧ 0x0FFF0FFF &&& 0xF000F000 = 0) ∧
    Meets opVerifyRead (pk 4 127 []) R (fun _ c => c.params = []) :=
  ⟨meets (by decide +kernel) (by decide +kernel),
   meets (by decide +kernel) (by decide +kernel),
   meets (by decide +kernel) (by decide +kernel),
   meets (by decide +kernel) (by decide +kernel)⟩

theorem meets_fault_1 :
    Meets opFaultRead (pk 2 7 [63]) R (fun _ c => c.params = [63] ∧ c.level = 2) ∧
    Meets opFaultClear (pk 1 1 [15, 0xFFFFFFFF, 0xFFFFFFFF]) R (fun _ c => c.params = [15, 0xFFFFFFFF, 0xFFFFFFFF]) ∧
    Meets opFaultReact (pk 0 0 [0, 26]) R (fun u c => c.params = [0, 26] ∧ srcReserved 0 = false ∧ u.srcAbsent 0 = false ∧
      srcVerify 0 = false ∧ reactionOk 0 26 = true) ∧
    Meets opFaultBark (pk 0 0 [250]) R (fun _ c => c.params = [250]) ∧
    Meets opFaultInject (pk 0 0 [511]) R (fun u c => c.params = [511] ∧ srcReserved 511 = false ∧ u.srcAbsent 511 = false) :=
  ⟨meets (by decide +kernel) (by decide +kernel),
   meets (by decide +kernel) (by decide +kernel),
   meets (by decide +kernel) (by decide +kernel),
   meets (by decide +kernel) (by decide +kernel),
   meets (by decide +kernel) (by decide +kernel)⟩

theorem meets_fault_2 :
    Meets opIrqRoute (pk 0 0 [511, 0x7FFF]) R (fun u c => c.params = [511, 0x7FFF] ∧ u.srcLive 511 ∧ u.frozenFor c (511 / 256) = false ∧
      rProtected (u.react 511) = false ∧ urgentVector 0x7FFF = false) ∧
    Meets opIrqRoute (pk 0 0 [0, 2]) R (fun u c => c.params = [0, 2] ∧ u.srcLive 0 ∧ rProtected (u.react 0) = true ∧ c.cls = clsS ∧
      bits 2 1 0 ≠ 3 ∧ urgentVector 2 = false) ∧
    Meets opIrqMask (pk 0 0 [511, 0xFFFFFFFF]) R (fun u c => c.params = [511, 0xFFFFFFFF] ∧ u.srcLive 511 ∧ rProtected (u.react 511) = false) ∧
    Meets opIrqHoldoff (pk 0 0 [15, 65536]) R (fun u c => c.params = [15, 65536] ∧ u.dieState (15 / 8) ≠ 0 ∧ u.frozenFor c (15 / 8) = false) ∧
    Meets opIrqRead (pk 0 0 [0xFFFFFFFF]) R (fun _ c => c.params = [0xFFFFFFFF]) :=
  ⟨meets (by decide +kernel) (by decide +kernel),
   meets (by decide +kernel) (by decide +kernel),
   meets (by decide +kernel) (by decide +kernel),
   meets (by decide +kernel) (by decide +kernel),
   meets (by decide +kernel) (by decide +kernel)⟩

theorem meets_dma_1 :
    Meets opDmaOwn (pk 0 0 [31, 17]) R (fun u c => c.params = [31, 17] ∧ u.chanState 31 = 1 ∧ c.cls = clsS ∧ (u.chan 31).state ∉ [1, 2, 3] ∧
      (u.chan 31).stopping = false) ∧
    Meets opDmaSetup (pk 0 0 [31, 16, 4]) R (fun u c => c.params = [31, 16, 4] ∧ u.mayWrite 3 31 c.master ∧ u.chanState 31 = 1) ∧
    Meets opDmaToken (pk 0 0 [255, 0, 9]) R (fun _ c => c.params = [255, 0, 9]) ∧
    Meets opDmaToken (pk 0 0 [255, 1, 65536]) R (fun _ c => c.params = [255, 1, 65536]) ∧
    Meets opDmaPause (pk 0 0 [31, 2]) R (fun u c => c.params = [31, 2] ∧ u.mayWrite 3 31 c.master ∧ u.chanState 31 = 1) :=
  ⟨meets (by decide +kernel) (by decide +kernel),
   meets (by decide +kernel) (by decide +kernel),
   meets (by decide +kernel) (by decide +kernel),
   meets (by decide +kernel) (by decide +kernel),
   meets (by decide +kernel) (by decide +kernel)⟩

theorem meets_dma_2 :
    Meets opDmaRead (pk 0 0 [31]) R (fun u c => c.params = [31] ∧ u.mayRead 3 31 c.master ∧ u.chanState 31 = 1) ∧
    Meets opTelemRead (pk 0 0 [0, 0]) R (fun u c => c.params = [0, 0] ∧ u.telemUnit (min 5 0) 0 = 1) ∧
    Meets opTelemPush (pk 0 0 [0, 0, 0, 10001, 64]) R (fun _ c => c.params = [0, 0, 0, 10001, 64]) ∧
    Meets opTelemLimit (pk 0 0 [63, 0xFFFF8000, 0x7FFF, 511]) R (fun u c => c.params = [63, 0xFFFF8000, 0x7FFF, 511] ∧
      u.dieState (63 / 32) ≠ 0 ∧ limitOk 63 0xFFFF8000 ∧ limitOk 63 0x7FFF ∧ limitOf 63 0xFFFF8000 ≤ limitOf 63 0x7FFF ∧
      srcReserved 511 = false ∧ u.srcAbsent 511 = false) ∧
    Meets opTelemLimit (pk 0 0 [71, 0, 0xFFFFFFFF, 224]) R (fun u c => c.params = [71, 0, 0xFFFFFFFF, 224] ∧ u.regionState (71 - 64) ≠ 0 ∧
      limitOk 71 0 ∧ limitOk 71 0xFFFFFFFF ∧ limitOf 71 0 ≤ limitOf 71 0xFFFFFFFF ∧ srcReserved 224 = false ∧
      u.srcAbsent 224 = false) :=
  ⟨meets (by decide +kernel) (by decide +kernel),
   meets (by decide +kernel) (by decide +kernel),
   meets (by decide +kernel) (by decide +kernel),
   meets (by decide +kernel) (by decide +kernel),
   meets (by decide +kernel) (by decide +kernel)⟩

theorem meets_dma_3 :
    Meets opWearOrbit (pk 4 127 [5, 0]) R (fun u c => c.params.length = 2 ∧ u.mayWrite 2 c.idx c.master ∧ u.mantelInView c.idx = false) ∧
    Judges opWearOrbit (pk 4 127 [5, 0]) R (fun u c => c.params = [5, 0] ∧ admissionFails u (u.modHead c.idx fun h =>
      { h with orbitA := min 4 5, orbitP := clampN 1 3600 0, orbitOff := false }) = none) ∧
    Meets opWearCap (pk 4 127 [16777216]) R (fun u c => c.params = [16777216] ∧ u.mayWrite 2 c.idx c.master) ∧
    Meets opWearRead (pk 4 127 [0xFFFFFFFF, 0]) R (fun u c => c.params = [0xFFFFFFFF, 0] ∧ u.mayRead 2 c.idx c.master) :=
  ⟨meets (by decide +kernel) (by decide +kernel),
   judges (by decide +kernel) (by decide +kernel),
   meets (by decide +kernel) (by decide +kernel),
   meets (by decide +kernel) (by decide +kernel)⟩

theorem meets_repair_1 :
    Meets opRepairLedger (pk 0 0 [0, 61]) R (fun _ c => c.params = [0, 61]) ∧
    Meets opRepairRetire (pk 0 0 [0, 287]) R (fun u c => c.params = [0, 287] ∧ u.retireUnit (min 3 0) 287 = 1 ∧
      (u.retireKind (min 3 0) 287).pwr.step ≠ .aoBoot) ∧
    Meets opRepairClear ({ pk 0 0 [] with port := 17 }) { R with pwr := { R.pwr with state := .service } } (fun _ c => c.params = []) ∧
    Meets opCascCeiling (pk 0 0 [4]) R (fun _ c => c.params = [4]) ∧
    Meets opCascCeiling (pk 0 0 [3]) { R with casc := { R.casc with cRun := true } } (fun u _ => u.casc.cRun = true ∧ u.casc.ceiling < 3) :=
  ⟨meets (by decide +kernel) (by decide +kernel),
   meets (by decide +kernel) (by decide +kernel),
   meets (by decide +kernel) (by decide +kernel),
   meets (by decide +kernel) (by decide +kernel),
   meets (by decide +kernel) (by decide +kernel)⟩

theorem meets_repair_2 :
    Meets opCascDeputy (pk 0 0 [8]) R (fun _ c => c.params = [8]) ∧
    Meets opCascRead (pk 0 0 []) R (fun _ c => c.params = []) ∧
    Meets opSvcExit ({ pk 0 0 [2] with port := 17 }) { R with pwr := { R.pwr with state := .service } } (fun u c => c.params = [2] ∧
      u.pwr.state = .service) ∧
    Meets opSvcBist ({ pk 3 31 [0, 8] with port := 17 }) { R with pwr := { R.pwr with state := .service } } (fun u c => c.params = [0, 8] ∧
      c.level = 3 ∧ u.bistUnit c = 1) ∧
    Meets opSvcBist ({ pk 1 1 [4, 47] with port := 17 }) { R with pwr := { R.pwr with state := .service } } (fun u c => c.params = [4, 47] ∧
      c.level = 1 ∧ u.bistUnit c = 1) :=
  ⟨meets (by decide +kernel) (by decide +kernel),
   meets (by decide +kernel) (by decide +kernel),
   meets (by decide +kernel) (by decide +kernel),
   meets (by decide +kernel) (by decide +kernel),
   meets (by decide +kernel) (by decide +kernel)⟩

theorem meets_repair_3 :
    Meets opSvcClkobs ({ pk 1 1 [70, 65] with port := 17 }) { R with pwr := { R.pwr with state := .service } } (fun _ c => c.params = [70, 65]) ∧
    Meets opSvcMemread ({ pk 0 0 [0, 0, 0] with port := 17 }) { R with pwr := { R.pwr with state := .service } } (fun u c => c.params.length = 3 ∧ ((blocksOf (c.p64 0) (4 * 1)).foldl (fun (a : List Byte × List Nat × State) b =>
      (a.1 ++ (a.2.2.memBlock b.1 b.2).1, a.2.1 ++ [(a.2.2.memBlock b.1 b.2).2.1], (a.2.2.memBlock b.1 b.2).2.2))
      ([], [], u)).2.2.pwr.step ≠ .aoBoot) :=
  ⟨meets (by decide +kernel) (by decide +kernel),
   meets (by decide +kernel) (by decide +kernel)⟩

theorem meets_serial :
    (R.sOn = true ∧ R.asleep = false ∧ R.accepts 16 0 = true ∧ (R.port 16).room = true ∧ (R.port 16).rx = [] ∧ R.bureauUp = true ∧
      R.cfg.testMode = false ∧ R.nextBytes 16 = none ∧ (0x00 : Byte).toNat ∉ [0x02, 0x32, 0x0B, 0x6B, 0x05]) ∧
    ((R.modPort 16 fun q => { q with running := List.replicate 64 {} }).accepts 16 0 = true ∧
      ((R.modPort 16 fun q => { q with tags := List.range 64, running := List.replicate 64 {} }).port 16).room = false) ∧
    ((R.modPort 16 fun q => { q with out := [{ opcode := 0x0105 }] }).nextBytes 16).isSome = true ∧
    (({ R with pwr := { R.pwr with state := .standby } } : State).sOn = true ∧
      ({ R with pwr := { R.pwr with state := .standby } } : State).asleep = true) :=
  ⟨by decide +kernel,
   by decide +kernel,
   by decide +kernel,
   by decide +kernel⟩

theorem meets_test_port :
    (R.pwr.aoIoGood = true ∧ R.pwr.state ≠ .service ∧ R.admQ = []) ∧
    ({ R with pwr := { R.pwr with state := .service } } : State).pwr.aoIoGood = true ∧
    (R.accepts 0 (R.casc.upstream.getD 0) = true ∧ (R.port 0).room = true ∧ (R.port 0).rx = []) :=
  ⟨by decide +kernel,
   by decide +kernel,
   by decide +kernel⟩

theorem meets_rings_1 :
    Writes 0 0 (doorOff 0 0x0C) ⟨0, 16, 0x0C⟩ (R.modDoor 0 (fun d => { d with ctrl := 1, sqTail := 255, sqHead := 255 })) (fun u => (u.door 0).enabled = true ∧ 0 < ringUnits (u.door 0).sqSize ∧
      ringDist 256 (u.door 0).sqTail 254 ≤ ((u.door 0).sqHead + 256 - 1 - (u.door 0).sqTail) % 256 ∧
      bit (u.door 0).ctrl 1 = false ∧ (List.replicate (16 * 255) (0 : Byte)).length = 16 * ringDist 256 (u.door 0).sqHead 254) ∧
    Writes 0 0 (doorOff 0 0x0C) ⟨0, 16, 0x0C⟩ (R.modDoor 0 (fun d => { d with ctrl := 3 })) (fun u => (u.door 0).enabled = true ∧
      bit (u.door 0).ctrl 1 = true ∧ ringUnits (u.door 0).sqSize = 256 ∧
      ringDist 256 (u.door 0).sqTail 255 ≤ ((u.door 0).sqHead + 256 - 1 - (u.door 0).sqTail) % 256 ∧ 256 ≤ 256) ∧
    Writes 0 0 (doorOff 0 0x20) ⟨0, 16, 0x20⟩ (R.modDoor 0 (fun d => { d with ctrl := 1, cqTail := 255, cqHead := 254 })) (fun u => (u.door 0).enabled = true ∧ ringUnits (u.door 0).cqSize = 256 ∧
      ringDist 256 (u.door 0).cqHead 255 ≤ ringDist 256 (u.door 0).cqHead (u.door 0).cqTail) ∧
    Writes 0 0 (doorOff 15 0x2C) ⟨0, 31, 0x2C⟩ R (fun u => bit (1 : Word).toNat 0 = true ∧ (u.door 15).enabled = false ∧
      bit (0 : Word).toNat 0 = false ∧ (u.port 15).busy = false) ∧
    Writes 0 0 (doorOff 15 0x2C) ⟨0, 31, 0x2C⟩ ((R.modDoor 15 fun d => { d with ctrl := 1 }).modPort 15 (fun q => { q with running := [{}] })) (fun u => (u.door 15).enabled = true ∧ (u.port 15).busy = true) :=
  ⟨writes (by decide +kernel) (by decide +kernel),
   writes (by decide +kernel) (by decide +kernel),
   writes (by decide +kernel) (by decide +kernel),
   writes (by decide +kernel) (by decide +kernel),
   writes (by decide +kernel) (by decide +kernel)⟩

theorem meets_rings_2 :
    Writes 15 0 (doorOff 15 0x50) ⟨0, 31, 0x50⟩ { R with regs := { R.regs with numVfs := 15 }, acc := { R.acc with blocks := [(31, { wmask := 0x8000 })] } } (fun _ => True) :=
  writes (by decide +kernel) (by decide +kernel)

theorem meets_pcie :
    (R.portLive 0 = true ∧ R.regs.pcieUp = true ∧ R.bureauUp = true ∧ R.hbmStep = false ∧
      (R.door 0).bar2Ok 0 4096 = true ∧ (R.door 0).bar2Ok (2 ^ 37) 1 = false) ∧
    (({ R with pwr := { R.pwr with step := .hbm } } : State).portLive 0 = true ∧
      ({ R with pwr := { R.pwr with step := .hbm } } : State).hbmStep = true) :=
  ⟨by decide +kernel,
   by decide +kernel⟩

theorem meets_registers_1 :
    Writes 0 1 0x10010 ⟨1, 1, 0x10⟩ R (fun _ => bit (1 : Word).toNat 0 = true) ∧
    Writes 0 1 0x10000 ⟨1, 1, 0⟩ R (fun _ => True) ∧
    Writes 0 1 0x10004 ⟨1, 1, 4⟩ R (fun u => ((u.iaSettle 1).ia 1).owner = 0) ∧
    Writes 0 1 0x10004 ⟨1, 1, 4⟩ (R.modIa 1 (fun p => { p with owner := 16 })) (fun u => ((u.iaSettle 1).ia 1).owner ≠ 0) ∧
    Reads 0 1 0x10004 ⟨1, 1, 4⟩ R (fun _ => ((R.iaSettle 1).ia 1).owner = 0 ∧ ((advance 10000 (R.iaSettle 1)).ia 1).owner = 0) :=
  ⟨writes (by decide +kernel) (by decide +kernel),
   writes (by decide +kernel) (by decide +kernel),
   writes (by decide +kernel) (by decide +kernel),
   writes (by decide +kernel) (by decide +kernel),
   reads (by decide +kernel) (by decide +kernel)⟩

theorem meets_registers_2 :
    Reads 0 1 0x10004 ⟨1, 1, 4⟩ (R.modIa 1 (fun p => { p with owner := 16 })) (fun _ => True) :=
  reads (by decide +kernel) (by decide +kernel)

theorem meets_pairs :
    Writes 16 1 (0x20000 + 8 * 0) ⟨1, 2, 8 * 0⟩ R (fun _ => R.regs.pairs = [] ∧
      R.regTarget 1 (0x20000 + 8 * 0 + 4) = some ⟨1, 2, 8 * 0 + 4⟩ ∧ R.isLocked 1 = false ∧ R.srcLive (256 * 1 + 0) = true ∧
      srcVerify (256 * 1 + 0) = false ∧ reactionOk (256 * 1 + 0) ((26 : Word).toNat % 32) = true) ∧
    Writes 16 1 0x20800 ⟨1, 2, 0x800⟩ R (fun _ => R.regTarget 1 0x20804 = some ⟨1, 2, 0x804⟩ ∧ 2 ≤ (250 : Word).toNat % 256 ∧
      (250 : Word).toNat % 256 ≤ 250) ∧
    Writes 16 0 0x20810 ⟨0, 2, 0x810⟩ { R with faults := { R.faults with errLow := true, barkEnd := 0, pulseDone := true } } (fun u => R.regTarget 0 0x20814 = some ⟨0, 2, 0x814⟩ ∧ bit (1 : Word).toNat 0 = true ∧ u.faults.errLow = true ∧
      u.barkOver = true) ∧
    Writes 16 1 (0x20000 + 8 * 255) ⟨1, 2, 8 * 255⟩ R (fun u => u.isLocked 1 = false) ∧
    ({ R with regs := { R.regs with pairs := [{ master := 16, die := 1, off := 0x20000 }] } } : State).openPair 16 1 =
      some { master := 16, die := 1, off := 0x20000 } :=
  ⟨writes (by decide +kernel) (by decide +kernel),
   writes (by decide +kernel) (by decide +kernel),
   writes (by decide +kernel) (by decide +kernel),
   writes (by decide +kernel) (by decide +kernel),
   by decide +kernel⟩

theorem meets_fault_registers_1 :
    Writes 16 1 (0x40800 + 8 * 255) ⟨1, 4, 0x800 + 8 * 255⟩ R (fun u => rProtected (u.react (256 * 1 + 255)) = false ∧ u.isLocked 1 = false) ∧
    Writes 16 1 (0x40020 + 4 * 7) ⟨1, 4, 0x20 + 4 * 7⟩ R (fun _ => True) ∧
    Writes 16 (recReg 39 0).1 (recReg 39 4).2 ⟨(recReg 39 0).1, (recReg 39 4).2 / 65536, (recReg 39 4).2 % 65536⟩ R (fun _ => R.recLive 39 = true) ∧
    Reads 0 1 0x10 ⟨1, 0, 0x10⟩ R (fun _ => True) ∧
    Reads 0 0 (doorOff 15 0x30) ⟨0, 31, 0x30⟩ R (fun _ => True) :=
  ⟨writes (by decide +kernel) (by decide +kernel),
   writes (by decide +kernel) (by decide +kernel),
   writes (by decide +kernel) (by decide +kernel),
   reads (by decide +kernel) (by decide +kernel),
   reads (by decide +kernel) (by decide +kernel)⟩

theorem meets_fault_registers_2 :
    Reads 0 1 0x08 ⟨1, 0, 0x08⟩ R (fun _ => True) ∧
    Reads 0 (recReg 7 0).1 (recReg 7 0x1C).2 ⟨(recReg 7 0).1, (recReg 7 0x1C).2 / 65536, (recReg 7 0x1C).2 % 65536⟩ R (fun _ => R.recLive 7 = true) ∧
    Reads 0 0 0x0C ⟨0, 0, 0x0C⟩ R (fun _ => (tget [] R.regs.latches 0).find? (·.src = .devTime) = none) ∧
    Reads 0 (recReg 7 0).1 (recReg 7 0x20).2 ⟨(recReg 7 0).1, (recReg 7 0x20).2 / 65536, (recReg 7 0x20).2 % 65536⟩ R (fun _ => (tget [] R.regs.latches 0).find? (·.src = .fcFirst 7) = none) :=
  ⟨reads (by decide +kernel) (by decide +kernel),
   reads (by decide +kernel) (by decide +kernel),
   reads (by decide +kernel) (by decide +kernel),
   reads (by decide +kernel) (by decide +kernel)⟩

theorem meets_channel_registers_1 :
    Writes 0 (31 / 16) (0x10000 * (32 + 31 % 16) + 8) ⟨31 / 16, 32 + 31 % 16, 8⟩ R (fun _ => bit (1 : Word).toNat 0 = true) ∧
    Writes 0 (31 / 16) (0x10000 * (32 + 31 % 16) + 4) ⟨31 / 16, 32 + 31 % 16, 4⟩ (R.modChan 31 (fun c => { c with state := 6 })) (fun u => (u.chan 31).stopping = false ∧ (u.chan 31).state ∈ [0, 4, 5, 6]) ∧
    Writes 0 (31 / 16) (0x10000 * (32 + 31 % 16) + 0x0C) ⟨31 / 16, 32 + 31 % 16, 0x0C⟩ R (fun _ => True) ∧
    Writes 0 (31 / 16) (0x10000 * (32 + 31 % 16) + 0x38) ⟨31 / 16, 32 + 31 % 16, 0x38⟩ (R.modChan 31 (fun c => { c with irqDone := true })) (fun u => (u.chan 31).irqDone = true) ∧
    Writes 0 (7 / 4) (0x300000 + 64 * (7 % 4)) ⟨7 / 4, 48, 64 * (7 % 4)⟩ R (fun u => (u.cv 7).dma = false ∧ bits (2 : Word).toNat 1 0 ≠ 3) :=
  ⟨writes (by decide +kernel) (by decide +kernel),
   writes (by decide +kernel) (by decide +kernel),
   writes (by decide +kernel) (by decide +kernel),
   writes (by decide +kernel) (by decide +kernel),
   writes (by decide +kernel) (by decide +kernel)⟩

theorem meets_channel_registers_2 :
    Writes 0 (7 / 4) (0x300000 + 64 * (7 % 4) + 0x0C) ⟨7 / 4, 48, 64 * (7 % 4) + 0x0C⟩ R (fun u => (u.cv 7).dma = false ∧ 1 % 16 ≠ 0) ∧
    Reads 0 (7 / 4) (0x300000 + 64 * (7 % 4) + 0x10) ⟨7 / 4, 48, 64 * (7 % 4) + 0x10⟩ R (fun _ => True) ∧
    ((R.modCv 7 fun c => { c with pend := [1] }).cv 7).pend = 1 :: [] :=
  ⟨writes (by decide +kernel) (by decide +kernel),
   reads (by decide +kernel) (by decide +kernel),
   by decide +kernel⟩

theorem meets_frame_1 :
    (R.headState 127 = 1 ∧ (running.head 0).running = true ∧ (running.head 0).coming = none ∧ (running.head 0).inFrame = true ∧
      (running.head 0).mode = some mode1080 ∧ (running.head 0).frozen = some {} ∧ (running.head 0).line + 1 < mode1080.ha) ∧
    ((running.modHead 0 fun h => { h with line := 1079 }).head 0 = { running.head 0 with line := 1079 } ∧
      ({ running.head 0 with line := 1079 } : Head).line + 1 = mode1080.ha) ∧
    (((running.modHead 0 fun h => { h with inFrame := false }).head 0).inFrame = false ∧
      32 ≤ ((running.modHead 0 fun h => { h with inFrame := false }).head 0).group) ∧
    (running.clusterState (0 / 4) = 1 ∧ (running.head 0).fetchFor 1079 = some {} ∧ (running.head 0).orphan = false ∧ 1079 < mode1080.ha) ∧
    (((running.modHead 0 fun h => { h with lineNow := [{}, {}] }).head 0).lineNow.length = 2 ∧ (running.head 0).urLine = none) :=
  ⟨by decide +kernel,
   by decide +kernel,
   by decide +kernel,
   by decide +kernel,
   by decide +kernel⟩

theorem meets_frame_2 :
    (({ R with heads := [(0, { echo := true, testCrcs := [(1, 0)], bind := { link := 0 } })], links := [(0, { state := 4, sink := some { rates := [1620], maxLanes := 4, spread := false, mstCap := false, paths := [], lttprs := 0, baseOk := true, depths := [], audioRates := [], testCrc := true, modes := [], tiled := none } })] } :
      State).echoLink 0 = true ∧ crcWord [0, 0, 0] = 0 ∧ crcWord [1, 0, 0] ≠ 0) ∧
    (running.clusterState 0 = 1 ∧ running.drives 0 = true) ∧
    ({ R with now := 50000, pwr := { R.pwr with state := .active } } : State).regionIdle 7 = true :=
  ⟨by decide +kernel,
   by decide +kernel,
   by decide +kernel⟩

theorem meets_memory_requests_1 :
    (R.pcOn 127 = true ∧ (R.pc 127).selfRef = false ∧ (R.pc 127).stepping = false ∧ (R.region (127 / 16)).rehoming = false ∧
      (R.pc 127).mostDebt (fun b => 8 ≤ b.debt) = none ∧ R.chosen 127 = none ∧ R.regionOn 7 = true) ∧
    ((R.modRegion 7 fun r => { r with rehoming := true }).regionOn 7 = true ∧
      ((R.modRegion 7 fun r => { r with rehoming := true }).region (127 / 16)).rehoming = true) ∧
    ((R.modPc 127 fun c => { c with banks := [(47, { debt := 8 })] }).pc 127).mostDebt (fun b => 8 ≤ b.debt) = some 47 ∧
    ((R.modPc 127 fun c => { c with banks := [(47, { row := some 5, queue := [{ pc := 127, bank := 47, row := 5 }] })] }).chosen
      127).map (·.column) = some true ∧
    ((R.modPc 127 fun c => { c with banks := [(47, { queue := [{ pc := 127, bank := 47, row := 5 }] })] }).chosen 127).map
      (·.column) = some false :=
  ⟨by decide +kernel,
   by decide +kernel,
   by decide +kernel,
   by decide +kernel,
   by decide +kernel⟩

theorem meets_memory_requests_2 :
    (R.modPc 127 fun c => { c with issued := [{ id := 9, pc := 127 }] }).issuedRead 9 = some { id := 9, pc := 127 } ∧
    (tget {} ((R.modPc 127 fun c => { c with banks := tmod {} c.banks 47 fun b => { b with debt := min 8 (7 + 1), row := none } }).pc 127).banks 47).debt = 8 ∧
    (tget {} ((R.modPc 127 fun c => { c with banks := [(47, { row := some 5 })] }).pc 127).banks 47).row.isSome = true ∧
    (({ R with mem := { R.mem with regions := [(7, { input := [{ cls := 3, at_ := 4, pc := 127 }] })] } } : State).waiting 7).filter
      (fun m => 3 ≤ m.cls && m.cls ≤ 6 && m.urg = 0) = [{ cls := 3, at_ := 4, pc := 127 }] ∧
    (R.inputState 15 = 1 ∧ R.audState 3 = 1) :=
  ⟨by decide +kernel,
   by decide +kernel,
   by decide +kernel,
   by decide +kernel,
   by decide +kernel⟩

theorem meets_training_1 :
    (R.pcOn 127 = true ∧ (R.pc 127).stepDue = none ∧ (R.pc 127).stepping = false ∧ (R.pc 127).selfRef = false ∧
      (R.pc 127).issued = [] ∧ (R.pc 127).queued = [] ∧ (R.pc 127).banks.any (0 < ·.2.debt) = false ∧
      (R.waiting (127 / 16)).any (·.pc = 127) = false) ∧
    ((R.modPc 127 fun c => { c with stepDue := some 3, skips := 2 }).pc 127).stepDue = some 3 ∧
    ((R.modPc 127 fun c => { c with stepping := true }).pc 127).stepping = true ∧
    tfind R.mem.cache 10 = none ∧
    (R.dieState 1 = 1 ∧ ((R.modMemRate 1 fun r => { r with target := some 6400 }).memRate 1).target.isSome = true ∧
      ((R.modMemRate 1 fun r => { r with target := some 6400 }).memRate 1).phase = 0) :=
  ⟨by decide +kernel,
   by decide +kernel,
   by decide +kernel,
   by decide +kernel,
   by decide +kernel⟩

theorem meets_training_2 :
    ((R.modMemRate 1 fun r => { r with target := some 6400, phase := 1 }).memRate 1).phase = 1 :=
  by decide +kernel

theorem meets_clock_events_1 :
    (R.clk.refOn = true ∧ R.dieState (synthDie 139) = 1 ∧ ({ target := 1000000000, n := 40, p := 1, src := 0 } : Synth).src ≠ 3) ∧
    ((R.synth 139).src = 3 ∧ 136 ≤ 139) ∧
    ((R.modSynth 139 fun y => { y with ramp := some {} }).synth 139).ramp.isSome = true ∧
    (((R.modSynth 127 fun y => { y with lostAt := some 7 }).synth 127).lostAt = some 7 ∧
      ((R.modSynth 127 fun y => { y with lostAt := some 7 }).head 127).modeP = none) ∧
    (((running.modSynth 0 fun y => { y with lostAt := some 7 }).head 0).migration = none ∧
      ((running.modSynth 0 fun y => { y with lostAt := some 7 }).head 0).modeP ≠ none) :=
  ⟨by decide +kernel,
   by decide +kernel,
   by decide +kernel,
   by decide +kernel,
   by decide +kernel⟩

theorem meets_clock_events_2 :
    (R.clk.genlock.valid = false) ∧
    (offBy (16666667 - 0) (2 * 16666667) 200 = true ∧ offBy (33333334 - 0) (2 * 16666667) 200 = false) :=
  ⟨by decide +kernel,
   by decide +kernel⟩

theorem meets_link_events_1 :
    (R.linkOn 95 = true ∧ (R.link 95).enabled = true ∧ (R.link 95).hpd = false) ∧
    ((R.modLink 95 fun x => { x with hpd := true, state := 4 }).postHotplug 95 2).link 95 =
      (R.modLink 95 fun x => { x with hpd := true, state := 4 }).link 95 ∧
    ((((List.range 48).map (48 * 1 + ·)).filter fun l => ((R.modLink 95 fun x => { x with waiting := true }).link l).waiting) = [95] ∧
      (R.modLink 95 fun x => { x with waiting := true }).placesUsed 1 < 16) ∧
    (R.modLink 95 fun x => { x with state := 2, auxDefers := 7, auxTries := 3 }).auxBusy 95 = true ∧
    (R.modLink 95 fun x => { x with state := 4, auxWait := some (16, 0, 0) }).auxBusy 95 = true :=
  ⟨by decide +kernel,
   by decide +kernel,
   by decide +kernel,
   by decide +kernel,
   by decide +kernel⟩

theorem meets_link_events_2 :
    ((R.modLink 95 fun x => { x with state := 2, restartDue := true }).link 95).restartDue = true ∧
    (R.modLink 95 fun x => { x with state := 3, cands := [{ rate := 1620, lanes := 1 }] }).trainingOn 95 = true ∧
    (R.modLink 95 fun x => { x with state := 6, failedIn := 2 }).linkOn 95 = true :=
  ⟨by decide +kernel,
   by decide +kernel,
   by decide +kernel⟩

theorem meets_input_events :
    ((R.modInput 15 fun i => { i with enabled := true, hpd := true }).inputOn 15 = true ∧
      8100 ∈ [8100, 10000, 13500] ∧ 4 ∈ [1, 2, 4] ∧ 0 ∉ [8100, 10000, 13500]) ∧
    ((R.modInput 15 fun i => { i with enabled := true, lostAt := some 5 }).input 15).lostAt = some 5 ∧
    (((R.modInput 15 fun i => { i with enabled := true, trained := some {}, acquired := true, linePs := 100 }).input 15).trained.isSome = true ∧
      100 * (101 - 100) ≤ 100 ∧ 100 * (100 - 99) ≤ 100) ∧
    ((R.modInput 15 fun i => { i with enabled := true, writing := true }).input 15).writing = true :=
  ⟨by decide +kernel,
   by decide +kernel,
   by decide +kernel,
   by decide +kernel⟩

theorem meets_audio_events :
    (R.modAud 3 fun a => { a with enabled := true }).audioOn 3 = true ∧
    (({ refEdges := 1, refTicks := 8 } : Audio).isGlitch 8 = false ∧ ({ refEdges := 1, refTicks := 8 } : Audio).isGlitch 10 = true ∧
      ({ refEdges := 1, refTicks := 8 } : Audio).isGlitch 9 = false) ∧
    (windowInRange 2 3125 = true ∧ windowInRange 2 3126 = false ∧ windowInRange 2 125 = true ∧ windowInRange 2 124 = false ∧
      windowSteady 2 1000 875 1125 = true) ∧
    ((R.modAud 3 fun a => { a with enabled := true, blockAt := some 0 }).aud 3).blockAt = some 0 ∧
    ((R.modHead 127 fun h => { h with audioWait := [some (0, 5), none] }).head 127).audioWait.getD 0 none = some (0, 5) :=
  ⟨by decide +kernel,
   by decide +kernel,
   by decide +kernel,
   by decide +kernel,
   by decide +kernel⟩

theorem meets_fault_events :
    ((∀ n, n < 512 → R.irq.pend.getLsbD n = true → R.irq.mask.getLsbD n = true)) ∧
    tget 0 ({ R with irq := { R.irq with running := [(15, 8)] } } : State).irq.running 15 = 7 + 1 ∧
    (R.recLive 39 = true ∧ R.recLive 7 = true ∧ wasReset R (R.detect 39 63 0 false) = false ∧
      wasReset R (R.detect 7 11 0 false) = false ∧ (R.detect 7 11 0 false).clusterState (4 * 7 + 11 % 4) = 1 ∧
      wasReset R (R.detect 7 31 0 false) = false ∧ (R.detect 7 31 0 false).clusterState (4 * 7 + 31 % 4) = 1) ∧
    ((R.modFrec 7 fun r => { r with open_ := some (32, 0) }).frec 7).open_ = some (32, 0) ∧
    ({ R with faults := { R.faults with errLow := true } } : State).faults.errLow = true :=
  ⟨by decide +kernel,
   by decide +kernel,
   by decide +kernel,
   by decide +kernel,
   by decide +kernel⟩

theorem meets_mantel_events :
    (R.pairState 31 = 1 ∧ (R.pair 31).state = 0 ∧ R.clusterState 31 = 1) ∧
    ((R.modPair 31 fun p => { p with state := 1, tested := 1 }).pair 31).state = 1 ∧
    ((R.modPair 31 fun p => { p with state := 1, tested := 2, firstFail := true }).pair 31).tested ≠ 1 ∧
    ({ R with mantel := { R.mantel with newAreas := some (0, 0, 16, 0), sealing := some (16, 0) } } : State).mantel.newAreas.isSome ∧
    ((lutScene 0).head 124 = { lutBusy := some (regionSpan, 16) } ∧ ((lutScene 0).read regionSpan 287496 ⟨6, 16, 0⟩).1 = .ok ∧ ((lutScene 0).head (4 * 31 + 1)).lutBusy = none) :=
  ⟨by decide +kernel,
   by decide +kernel,
   by decide +kernel,
   by decide +kernel,
   ⟨by decide +kernel, lut_read, by decide +kernel⟩⟩

theorem meets_dma_events_1 :
    ((R.modChan 31 fun c => { c with state := 1, fetching := true, curHost := true }).chanGoes 31 true = true ∧
      (R.modChan 31 fun c => { c with state := 1, fetching := true, curHost := true }).hostOk 31 = true) ∧
    ({ R with regs := { R.regs with pcieUp := false } } : State).hostOk 31 = false ∧
    ((R.read (31 * 64) 32 ⟨4, 0, 0⟩).1 ≠ .ok ∧ (R.read (regionSpan + 31 * 64) 32 ⟨4, 0, 0⟩).1 = .ok) ∧
    ((R.modChan 31 fun c => { c with state := 2, desc := some { len := 64, src := regionSpan }, src := regionSpan, remain := 64 }).chanGoes 31
      false = true ∧ ({ len := 64, src := regionSpan } : Desc).bad = false ∧ ({ len := 64 } : Desc).srcHost = false ∧
      ({ len := 64 } : Desc).dstHost = false ∧ ({ remain := 64 } : Chan).storeDue { len := 64 } = false ∧
      ({ len := 64 } : Desc).op = 0 ∧ ({ len := 64 } : Desc).flag 7 = false) ∧
    (({ ctl := 1 <<< 31 } : Desc).bad = true ∧ ({} : Chan).storeDue { ctl := 1 <<< 31 } = false) :=
  ⟨by decide +kernel,
   by decide +kernel,
   by decide +kernel,
   by decide +kernel,
   by decide +kernel⟩

theorem meets_dma_events_2 :
    (((R.modChan 31 fun c => { c with state := 4, reread := true, curHost := true }).chan 31).reread = true ∧
      (R.modChan 31 fun c => { c with state := 4, reread := true, curHost := true }).hostOk 31 = true) ∧
    ((R.modChan 31 fun c => { c with stopping := true }).chan 31).stopping = true :=
  ⟨by decide +kernel,
   by decide +kernel⟩

theorem meets_repair_events_1 :
    ((R.modCluster 31 fun r => { r with lastRot := R.now, heldRot := false }).clusterState 31 = 1 ∧
      (R.modCluster 31 fun r => { r with lastRot := R.now, heldRot := false }).kennelSlot 31 = some 8 ∧
      (R.modCluster 31 fun r => { r with lastRot := R.now, heldRot := false }).repairWork 31 = false ∧
      ((R.modCluster 31 fun r => { r with lastRot := R.now, heldRot := false }).slot (9 * 31 + 8)).role ≠ some 2) ∧
    (((R.modCluster 31 fun r => { r with hand := some (0, 8) }).cluster 31).hand = some (0, 8) ∧ (R.slot (9 * 31 + 8)).role ≠ some 2) ∧
    (R.slotState (9 * 31 + 0) = 1 ∧ R.kennelSlot 31 ≠ some 0 ∧ (R.slot (9 * 31 + 0)).faulty = false ∧
      rReset (R.react (leSource 31)) ≠ 1 ∧
      (((R.modSlot (9 * 31 + 0) fun x => { x with faulty := true }).withhold 31 0).cluster 31).takeover = none ∧
      ((R.modSlot (9 * 31 + 0) fun x => { x with faulty := true }).withhold 31 0).kennelSlot 31 = some 8) ∧
    rReset (State.react { R with faults := { R.faults with reacts := [(312, (5, 1))] } } (leSource 31)) = 1 ∧
    ((R.modCluster 31 fun r => { r with takeover := some (0, 8) }).cluster 31).takeover = some (0, 8) :=
  ⟨by decide +kernel,
   by decide +kernel,
   by decide +kernel,
   by decide +kernel,
   by decide +kernel⟩

theorem meets_repair_events_2 :
    (((R.modSlot (9 * 31 + 8) fun x => { x with faulty := true }).slot (9 * 31 + 8)).faulty = true ∧
      (R.slot (9 * 31 + 8)).transients.any (R.now < · + dayNs) = false ∧
      ({ transients := [0] } : LeSlot).transients.any (0 < · + dayNs) = true) ∧
    (R.kennelSlot 31 = some 8 ∧ (R.cluster 31).hand = none) ∧
    ((R.modHead 127 fun x => { x with migration := some { target := some 126, locked := true } }).head 127).migration =
      some { target := some 126, locked := true } ∧
    (R.dieState 1 = 1 ∧ (R.bureau 1).failedPair = none ∧ (R.bureau 1).retired.contains (1 - (R.bureau 1).active) = false ∧
      ((R.modBureau 1 fun b => { b with failedPair := some 0 }).bureau 1).failedPair = some 0) :=
  ⟨by decide +kernel,
   by decide +kernel,
   by decide +kernel,
   by decide +kernel⟩

theorem meets_background :
    (({ R with heads := [(127, { running := true, orbitA := 4 })] } : State).orbits 127 = true ∧ R.regionState 7 = 1 ∧
      R.dieState (63 / 32) = 1 ∧ R.telem.failed.contains 63 = false) ∧
    ({ R with telem := { R.telem with period := 1 } } : State).telem.period ≠ 0 :=
  ⟨by decide +kernel,
   by decide +kernel⟩

theorem meets_power_events :
    ({ R with pwr := { R.pwr with target := some .active } } : State).mayMove .active = true ∧
    (bit 63 5 = true ∧ bit 0 5 = false ∧ R.pwr.por = false ∧ R.pwr.state ∉ [.off, .standby, .retain] ∧ R.pwr.step ≠ .supplies) :=
  ⟨by decide +kernel,
   by decide +kernel⟩

theorem meets_start :
    (({ R with pwr := { R.pwr with por := true, step := .supplies } } : State).pwr.aoIoGood = true ∧ R.pwr.switchedGood = true ∧
      R.pwr.trip = false) ∧
    (({ R with pwr := { R.pwr with step := .reference } } : State).startSynths.pwr.start.kind ≠ 2 ∧
      ({ R with pwr := { R.pwr with step := .reference, start := { kind := 2 } } } : State).startSynths.pwr.start.kind = 2) :=
  ⟨by decide +kernel,
   by decide +kernel⟩

theorem meets_birton :
    (R.linkLive 7 = true ∧ (R.birton 7).state = 0 ∧
      ((R.modBirton 7 fun l => { l with state := 1, cand := 11 }).birton 7).cand = 11) ∧
    ((partner 1).pkg ≠ R.cfg.pkgId ∧ R.cfg.cascMaster = false ∧
      (List.range 8).find? (fun n => n ≠ 7 && (R.modBirton 7 fun l => { l with state := 2, partner := some (partner 1) }).birtonUp n &&
        ((R.modBirton 7 fun l => { l with state := 2, partner := some (partner 1) }).birton n).partner.map (·.pkg) = some 1) = none ∧
      R.isMaster = false ∧ ({ R with casc := { R.casc with role := some 1 } } : State).isMaster = true) ∧
    frameWords [] = none :=
  ⟨by decide +kernel,
   by decide +kernel,
   by decide +kernel⟩

theorem meets_cascade_1 :
    ({ R with casc := { R.casc with role := some 1 } } : State).isMaster = true ∧
    (({ R with casc := { R.casc with role := some 2, lastTiming := 1 } } : State).isMaster = false ∧
      ({ R with casc := { R.casc with role := some 2, lastTiming := 1 } } : State).role ≠ 0) ∧
    (({ R with casc := { R.casc with role := some 1, members := [(7, 7, 1)] } } : State).isMember 7 = true ∧
      ({ R with casc := { R.casc with role := some 1, members := [(7, 7, 1)] } } : State).routeUp 7 = false) ∧
    ({ R with casc := { R.casc with role := some 2, master := some 7, upstream := some 7, links := [(7, { downAt := some 0 })] } } :
      State).birtonUp 7 = false ∧
    ({ R with casc := { R.casc with role := some 2, master := some 1, upstream := some 7, timingLost := true, links := [(7, { state := 3 })] } } :
      State).birtonUp 7 = true :=
  ⟨by decide +kernel,
   by decide +kernel,
   by decide +kernel,
   by decide +kernel,
   by decide +kernel⟩

theorem meets_cascade_2 :
    ({ R with casc := { R.casc with role := some 2, master := none, deputy := 0, lostMaster := some 0 } } : State).casc.deputy =
      R.cfg.pkgId ∧
    (({ R with casc := { R.casc with role := some 3, handback := true } } : State).role = 3 ∧
      ({ R with casc := { R.casc with role := some 4 } } : State).role = 4) ∧
    (mirrored.isMaster = true ∧ mirrored.casc.members ≠ [] ∧
      (mirrored.layers.any fun e => e.1 = 0 && e.2.holders.contains 1 && e.2.mirrorSet.any fun r => r.1 < 0 + 8 && 0 < r.1 + r.2) = true) ∧
    ((R.modBirton 7 fun l => { l with state := 3 }).linkLive 7 = true ∧ (R.modBirton 7 fun l => { l with state := 3 }).birtonUp 7 = true) :=
  ⟨by decide +kernel,
   by decide +kernel,
   by decide +kernel,
   by decide +kernel⟩

theorem meets_packets_1 :
    (packetRows.all (fun r => !(pk 0 0 []).wf || decide (r.2.code < 65536)) = true ∧ (pk 0 0 []).wf = true) ∧
    (sequenced { pk 0 0 [] with seq := 1 } = true ∧ ({ pk 0 0 [] with seq := 1 } : Pkt).seq ≠ (R.port 16).rxSeq) ∧
    (pk 0 0 []).tag ∈ ((R.modPort 16 fun q => { q with tags := [0] }).port 16).tags ∧
    R.permits opRepairClear 16 (R.cmdOf opRepairClear.code (pk 0 0 [])) = false ∧
    (framedOk 16 [] = false ∧ framedOk 16 (pktBytes (pk 0 0 []) 0x1701) = true ∧ trailerOk (pktBytes (pk 0 0 []) 0x1701) = true ∧
      headerWord (pktBytes (pk 0 0 []) 0x1701) 0 % 65536 ∉ packetRows.map (·.2.code) ∧
      trailerOk ((pktBytes (pk 0 0 []) 0x0105).dropLast ++ [0]) = false) :=
  ⟨by decide +kernel,
   by decide +kernel,
   by decide +kernel,
   by decide +kernel,
   by decide +kernel⟩

theorem meets_packets_2 :
    (({ out := List.replicate 256 { kind := 2 } } : Port).out.length = 256 ∧ ({ kind := 2 } : OutPkt).discardable = true ∧
      ({ kind := 0 } : OutPkt).discardable = false) ∧
    (({ pk 0 0 [] with port := 18 } : Pkt).port = 18 ∧ R.casc.ceiling ≤ 3 ∧ (∃ r ∈ packetRows, ∀ k ∈ r.2.cls, k = clsS ∨ k = clsV)) :=
  ⟨by decide +kernel,
   by decide +kernel⟩

theorem meets_memory :
    ((∀ w ∈ wordsOf 3 2, (8 * w < 3 ∨ 3 + 2 < 8 * w + 8) → (({} : Memory).judge w).kind < 2)) ∧
    ((∀ w ∈ wordsOf 0 7, (({ err := [(0, 3)] } : Memory).judge w).kind = 2)) ∧
    (tget 0 ({ err := [(5, 8)] } : Memory).err 5 = BitVec.ofNat 72 (2 ^ 3) ∧ ({ err := [(5, 8)] } : Memory).rawWord 5 = none) :=
  ⟨by decide +kernel,
   by decide +kernel,
   by decide +kernel⟩

theorem meets_colour :
    (widen 1 1 = 65535 ∧ widen 16 0xFFFF = 0xFFFF) ∧
    gamutOf {} 0 = [16384, 0, 0, 0, 16384, 0, 0, 0, 16384] ∧
    ((fixPhase 63 (-3) [2047, 2047, 2047, 2047, 2047, 2047, 2047, 2047]).length = 8 ∧ (fixPhase 0 0 [0, 0]).foldl (· + ·) 0 = 1024) :=
  ⟨by decide +kernel,
   by decide +kernel,
   by decide +kernel⟩

theorem quiet_R :
    (Quiet R) :=
  ⟨.inr (by decide), by decide, rfl, by decide, by decide, rfl, by decide, by decide +kernel, by decide +kernel, rfl⟩

theorem ready_R :
    (ok opLayerFill (pk 0 0 [1023, 1, 2]) R = true ∧ ok opLayerColour (pk 0 0 []) R = true ∧ ok opLayerPolicy (pk 0 0 []) R = true ∧
      R.mayWrite 1 1023 16 = true) ∧
    readRows.all (fun r => ok r.2 (pk (r.2.levels.headD 0) 0 []) R) = true ∧
    (∀ k i, R.mayRead k i 16 = true) :=
  ⟨by decide +kernel,
   by decide +kernel,
   fun k i => by
    show admits (R.objTab k i).rmask 16 = true
    unfold State.objTab
    split <;> exact (by decide : admits 0x03FF0001 16 = true)⟩

end Sys2Proof.Tests
end

/-! Bit replication of the Layer Engine (R84): the copies of a code side by side, and the top 16 bits of
them that `widen` keeps. -/

namespace Sys2Proof.Machine

/-! ## The copies of a code side by side -/

/-- `r` copies of the `n`-bit code `c` side by side: the number that `widen` shifts down. -/
def copies (n c r : Nat) : Nat := (List.range r).foldl (fun v _ => v * 2 ^ n + c) 0

theorem widen_eq_copies_div (n c : Nat) :
    widen n c = copies n c (ceilDiv 16 n) / 2 ^ (n * ceilDiv 16 n - 16) := rfl

@[simp] theorem copies_zero (n c : Nat) : copies n c 0 = 0 := rfl

@[simp] theorem copies_succ (n c r : Nat) : copies n c (r + 1) = 2 ^ n * copies n c r + c := by
  simp [copies, List.range_succ, Nat.mul_comm]

theorem copies_lt {n c : Nat} (hc : c < 2 ^ n) (r : Nat) : copies n c r < 2 ^ (n * r) := by
  induction r with
  | zero => simp
  | succ r ih =>
    rw [copies_succ, Nat.mul_succ, Nat.add_comm (n * r), Nat.pow_add]
    calc 2 ^ n * copies n c r + c
      _ < 2 ^ n * (copies n c r + 1) := by rw [Nat.mul_succ]; omega
      _ ≤ 2 ^ n * 2 ^ (n * r) := Nat.mul_le_mul_left _ ih

/-- Bit `k` of the copies is the bit of the code at `k`'s place within its copy. -/
theorem testBit_copies {n c : Nat} (hc : c < 2 ^ n) {r k : Nat} (hk : k < n * r) :
    (copies n c r).testBit k = c.testBit (k % n) := by
  induction r generalizing k with
  | zero => simp at hk
  | succ r ih =>
    rw [copies_succ, Nat.testBit_two_pow_mul_add _ hc]
    rw [Nat.mul_succ] at hk
    split
    next h => rw [Nat.mod_eq_of_lt h]
    next h => rw [ih (by omega), ← Nat.mod_eq_sub_mod (by omega)]

/-! ## The 16 bits kept -/

theorem sixteen_le_mul_ceilDiv {n : Nat} (hn : 1 ≤ n) : 16 ≤ n * ceilDiv 16 n := by
  have hdiv := Nat.div_add_mod (16 + n - 1) n
  have hmod := Nat.mod_lt (16 + n - 1) hn
  unfold ceilDiv
  omega

/-- Counted from the top of `r` copies, bit `j` is bit `j % n` from the top of one copy. -/
theorem mod_from_top {n r j : Nat} (hn : 1 ≤ n) (hj : j < n * r) :
    (n * r - 1 - j) % n = n - 1 - j % n := by
  have hmod := Nat.mod_lt j hn
  have hdiv := Nat.div_add_mod j n
  have hcopy : j / n < r := Nat.div_lt_of_lt_mul hj
  obtain ⟨below, rfl⟩ := Nat.exists_eq_add_of_lt hcopy
  have hplace : n * (j / n + below + 1) - 1 - j = n - 1 - j % n + n * below := by
    rw [Nat.mul_succ, Nat.mul_add]
    omega
  rw [hplace, Nat.add_mul_mod_self_left, Nat.mod_eq_of_lt (by omega)]

theorem testBit_widen {n c j : Nat} (hn : 1 ≤ n) (hc : c < 2 ^ n) (hj : j < 16) :
    (widen n c).testBit (15 - j) = c.testBit (n - 1 - j % n) := by
  have h16 := sixteen_le_mul_ceilDiv hn
  have hbit : 15 - j + (n * ceilDiv 16 n - 16) = n * ceilDiv 16 n - 1 - j := by omega
  rw [widen_eq_copies_div, Nat.testBit_div_two_pow, hbit, testBit_copies hc (by omega),
    mod_from_top hn (by omega)]

theorem widen_lt {n c : Nat} (hn : 1 ≤ n) (hc : c < 2 ^ n) : widen n c < 65536 := by
  have h16 := sixteen_le_mul_ceilDiv hn
  rw [widen_eq_copies_div]
  refine Nat.div_lt_of_lt_mul ?_
  calc copies n c (ceilDiv 16 n)
    _ < 2 ^ (n * ceilDiv 16 n) := copies_lt hc _
    _ = 2 ^ (n * ceilDiv 16 n - 16) * 65536 := by
      rw [show 65536 = 2 ^ 16 from rfl, ← Nat.pow_add, Nat.sub_add_cancel h16]

theorem widen_ten {c : Nat} (hc : c < 1024) : widen 10 c = c <<< 6 ||| c >>> 4 := by
  have hcopies : copies 10 c 2 = 1024 * c + c := by simp
  have hlow : c >>> 4 < 2 ^ 6 := by rw [Nat.shiftRight_eq_div_pow]; omega
  rw [← Nat.shiftLeft_add_eq_or_of_lt hlow, Nat.shiftLeft_eq, Nat.shiftRight_eq_div_pow,
    widen_eq_copies_div, show ceilDiv 16 10 = 2 from rfl, hcopies]
  omega

theorem widen_two (c : Nat) : widen 2 c = c * 0x5555 := by
  have hcopies : copies 2 c 8 = c * 0x5555 := by simp; omega
  rw [widen_eq_copies_div, show ceilDiv 16 2 = 8 from rfl, hcopies]
  exact Nat.div_one _

/-! ## The alpha of a format without one -/

theorem unpackPixel_rgb565_alpha (v : Nat) (palette : Tab Nat) (fill : Fill) :
    (unpackPixel 2 v palette fill).a = 65535 := rfl

theorem bufferSampler_ycbcr_alpha {s : State} {f : FrozenLayer} {src : Source} {x y : Nat} {t : Texel}
    (hformat : src.format = 5 ∨ src.format = 6 ∨ src.format = 7)
    (hown : (s.bufferSampler f src).own x y = some t) : t.a = 65535 := by
  rcases hformat with h | h | h <;>
  · simp only [State.bufferSampler, h, Option.map_eq_some_iff] at hown
    obtain ⟨_, _, rfl⟩ := hown
    rfl

/-- Settles O54: every clause from the copies of the code side by side, of which `widen` keeps the top 16 bits. -/
theorem bitReplicationRule : Obligations.BitReplicationRule :=
  ⟨fun _ _ _ hn _ hc hj => testBit_widen hn hc hj,
   fun _ _ hn _ hc => widen_lt hn hc,
   fun _ hc => widen_ten hc,
   fun c _ => widen_two c,
   unpackPixel_rgb565_alpha,
   fun _ _ _ _ _ _ hformat hown => bufferSampler_ycbcr_alpha hformat hown⟩

end Sys2Proof.Machine

/-! The gamut stage of the Layer Engine (R125, R126): one row of the matrix in force per component, rounded
and clamped alone, and the identity matrix of equal primaries. -/

namespace Sys2Proof.Machine

/-! ## The parts of a component -/

theorem clampI_bounds {lo hi : Int} (h : lo ≤ hi) (v : Int) : lo ≤ clampI lo hi v ∧ clampI lo hi v ≤ hi := by
  unfold clampI
  omega

theorem clampI_of_le {lo hi v : Int} (h : v ≤ hi) : clampI lo hi v = max lo v := by
  rw [clampI, Int.min_eq_right h]

/-- A whole multiple of the coefficients' one is divided out without rounding. -/
theorem s14_one_mul (v : Int) : s14 (16384 * v) = v := by
  unfold s14
  omega

/-- The identity matrix in s3.14 (R125). -/
def gamutIdentity : List Int := [16384, 0, 0, 0, 16384, 0, 0, 0, 16384]

theorem mat3_gamutIdentity (p : List Int) {i : Nat} (hi : i < 3) : mat3 gamutIdentity p i = 16384 * cmp p i := by
  match i, hi with
  | 0, _ => simp [mat3, gamutIdentity]
  | 1, _ => simp [mat3, gamutIdentity]
  | 2, _ => simp [mat3, gamutIdentity]

/-! ## The matrix of equal primaries -/

theorem gamutTable_self : ∀ n, gamutTable n n = [1000000, 0, 0, 0, 1000000, 0, 0, 0, 1000000]
  | 0 | 1 | 2 | _ + 3 => rfl

/-- Of the preset primaries each is its own gamut: only CUSTOM (3) brings a matrix of its own. -/
theorem gamutOf_eq_gamutIdentity {k : Colour} (hpreset : k.primaries ≠ 3) : gamutOf k k.primaries = gamutIdentity := by
  rw [gamutOf, if_neg hpreset, gamutTable_self]
  decide

/-! ## A component of the stage -/

theorem cmp_stage7 (k : Colour) (head : Nat) (p : List Int) {i : Nat} (hi : i < 3) :
    cmp (stage7 k head p) i = clampI 0 134217727 (s14 (mat3 (gamutOf k head) p i)) := by
  simp [cmp, stage7, hi]

theorem cmp_stage7_bounds (k : Colour) (head : Nat) (p : List Int) {i : Nat} (hi : i < 3) :
    0 ≤ cmp (stage7 k head p) i ∧ cmp (stage7 k head p) i ≤ 134217727 := by
  rw [cmp_stage7 k head p hi]
  exact clampI_bounds (by decide) _

theorem cmp_stage7_of_gamutIdentity {k : Colour} {head i : Nat} {p : List Int} (hi : i < 3)
    (hid : gamutOf k head = gamutIdentity) (hle : cmp p i ≤ 134217727) :
    cmp (stage7 k head p) i = max 0 (cmp p i) := by
  rw [cmp_stage7 k head p hi, hid, mat3_gamutIdentity p hi, s14_one_mul, clampI_of_le hle]

/-- Settles O55: each component from its own row of the matrix in force, which for equal primaries is the identity (R125). -/
theorem gamutMatrixRule : Obligations.GamutMatrixRule := by
  rintro k head i p _ hi rfl
  obtain ⟨hlow, hhigh⟩ := cmp_stage7_bounds k head p hi
  refine ⟨cmp_stage7 k head p hi, hlow, hhigh, cmp_stage7_of_gamutIdentity hi, ?_⟩
  rintro hpreset rfl
  exact gamutOf_eq_gamutIdentity (Nat.ne_of_lt hpreset)

end Sys2Proof.Machine

/-! The latches of the 64-bit time registers (R443): what settling leaves of a state with nothing under way, what a
latch holds after a low and after a high read, and where the reads of the two time registers find their halves. -/

namespace Sys2Proof.Machine

/-! ## A quiet state stays as it is -/

/-- What the default and every entry of a table satisfy, each of its values satisfies. -/
theorem tget_of_forall {α : Type} {P : α → Prop} {d : α} (hd : P d) :
    ∀ {t : Tab α} (_ : ∀ e ∈ t, P e.2) (i : Nat), P (tget d t i)
  | [], _, _ => hd
  | (k, v) :: t, ht, i => by
    obtain ⟨hv, htail⟩ := List.forall_mem_cons.mp ht
    unfold tget
    split
    · exact hv
    · exact tget_of_forall hd htail i

namespace Quiet

variable {s : State}

theorem port_idle (h : Quiet s) (i : Nat) : (s.port i).running = [] ∧ (s.port i).held = [] ∧ (s.port i).rx = [] :=
  tget_of_forall (P := fun q : Port => q.running = [] ∧ q.held = [] ∧ q.rx = []) ⟨rfl, rfl, rfl⟩ h.ports i

theorem startHeads_eq (h : Quiet s) : s.startHeads = s := by
  unfold State.startHeads
  split
  case isFalse => rfl
  case isTrue hon =>
    have hheads := h.heads.resolve_left (by simp [hon])
    refine foldl_same _ fun e he => if_neg ?_
    rcases hheads e he with hrun | hmode
    · simp [hrun]
    · simp [hmode]

theorem settleFlips_eq (h : Quiet s) : s.settleFlips = s :=
  foldl_same _ fun e he => by
    obtain ⟨hshowing, hqueue⟩ := h.flips e he
    simp [hshowing, hqueue]

theorem settleCommits_eq (h : Quiet s) : s.settleCommits = s := by
  have hsame : ∀ e ∈ s.heads,
      (if e.2.running then e else (e.1, { e.2 with commitNow := s.commitFor e.1 })) = e := by
    intro e he
    rcases h.commits e he with hrun | hcommit
    · rw [if_pos hrun]
    · rw [← hcommit, ite_self]
  rw [State.settleCommits, List.map_congr_left hsame, List.map_id']

theorem settleMantel_eq (h : Quiet s) : s.settleMantel = s := by
  rw [State.settleMantel, h.mantel]

theorem endOrphans_eq (h : Quiet s) : s.endOrphans = s :=
  foldl_same _ fun e he => by rw [(h.ports e he).1, List.foldl_nil]

theorem startAll_eq (h : Quiet s) : s.startAll = s :=
  foldl_same _ fun i _ => by simp [State.startHeld, (h.port_idle i).2.1]

theorem flush_eq (h : Quiet s) : s.flush = s := by
  have hrings : (List.range 16).foldl (fun s fn =>
      if (s.door fn).enabled then State.flushA ((s.port fn).out.length + 130) fn s else s) s = s :=
    foldl_same _ fun fn hfn => by simp [h.rings fn (List.mem_range.mp hfn)]
  rw [State.flush, hrings, if_neg h.role, sendOut_same h.sends]

theorem tidy_eq (h : Quiet s) : s.tidy = s := by
  rw [State.tidy, h.startHeads_eq, settleMirror_same h.mirrors, h.settleFlips_eq, h.settleCommits_eq, h.settleMantel_eq,
    h.endOrphans_eq, h.startAll_eq, h.flush_eq]

/-- A quiet state is settled (R149, R195, R353, R361, R574). -/
theorem settle_eq (h : Quiet s) : settle s = s := by
  rw [settle, h.tidy_eq]
  exact foldl_same _ fun i _ => by rw [(h.port_idle i).2.2]; rfl

/-- Neither latches nor the values returned to paths make a quiet state stir. -/
theorem of_latches_lastRead (h : Quiet s) (l : Tab (List LatchSt)) (r : Tab Nat) :
    Quiet { s with regs := { s.regs with latches := l }, lastRead := r } :=
  ⟨h.heads, h.mirrors, h.sends, h.flips, h.commits, h.mantel, h.ports, h.rings, h.role, h.gather⟩

end Quiet

/-! ## What a latch holds -/

/-- The half latched for a path from a register, if any. -/
def State.latched (s : State) (path : Nat) (src : LatchSrc) : Option LatchSt :=
  (tget [] s.regs.latches path).find? (·.src = src)

@[simp] theorem returned_regs (s : State) (path v : Nat) : (s.returned path v).regs = s.regs := rfl

@[simp] theorem returned_lastRead (s : State) (path v : Nat) : tget 0 (s.returned path v).lastRead path = v :=
  tget_tset _ _ _ _

theorem latched_congr {s t : State} (h : s.regs.latches = t.regs.latches) (path : Nat) (src : LatchSrc) :
    s.latched path src = t.latched path src := by
  rw [State.latched, State.latched, h]

theorem latch_latched (s : State) (path : Nat) (src : LatchSrc) (v : Nat) :
    (s.latch path src v).latched path src = some ⟨src, v⟩ := by
  simp [State.latched, State.latch, tmod]

theorem latch_latches_ne (s : State) {path j : Nat} (src : LatchSrc) (v : Nat) (h : j ≠ path) :
    tget [] (s.latch path src v).regs.latches j = tget [] s.regs.latches j :=
  tget_tset_ne _ _ _ h.symm

theorem unlatch_value_of_latched {s : State} {path : Nat} {src : LatchSrc} {l : LatchSt}
    (h : s.latched path src = some l) (live : Nat) : (s.unlatch path src live).1 = l.value := by
  rw [State.latched] at h
  rw [State.unlatch, h]

theorem unlatch_of_empty {s : State} {path : Nat} {src : LatchSrc} (h : s.latched path src = none) (live : Nat) :
    s.unlatch path src live = (live, s) := by
  rw [State.latched] at h
  rw [State.unlatch, h]

theorem unlatch_empties (s : State) (path : Nat) (src : LatchSrc) (live : Nat) :
    (s.unlatch path src live).2.latched path src = none := by
  cases h : s.latched path src with
  | none => rw [unlatch_of_empty h, h]
  | some l =>
    rw [State.latched] at h
    rw [State.unlatch, h]
    simp [State.latched, tmod]

/-! ## Reads of a half from a quiet state -/

/-- A path reads, at an offset of a die, the low or the high half of the 64-bit value `n` behind the latch `src`. -/
def ReadsHalf (s : State) (path die off : Nat) (src : LatchSrc) (hi : Bool) (n : Nat) : Prop :=
  ∃ r, ReadsReg s path die off r ∧ s.readReg path path r true = s.readHalf path src hi n

section
variable {s : State} {path die off n : Nat} {src : LatchSrc}

theorem settle_lowRead (hq : Quiet s) (h : ReadsHalf s path die off src false n) :
    settle (s.regRead path die off) = (s.latch path src (hi32 n)).returned path (lo32 n) := by
  obtain ⟨r, hread, hhalf⟩ := h
  rw [regRead_past hread, hhalf]
  exact (hq.of_latches_lastRead _ _).settle_eq

theorem settle_highRead (hq : Quiet s) (h : ReadsHalf s path die off src true n) :
    settle (s.regRead path die off) =
      (s.unlatch path src (hi32 n)).2.returned path (s.unlatch path src (hi32 n)).1 := by
  obtain ⟨r, hread, hhalf⟩ := h
  rw [regRead_past hread, hhalf]
  refine Quiet.settle_eq ?_
  simp only [State.readHalf, State.unlatch, if_true]
  split
  · exact hq.of_latches_lastRead _ _
  · exact hq.of_latches_lastRead _ _

/-- The low read returns the low word and latches the high half for its path alone. -/
theorem lowRead_latches (hq : Quiet s) (h : ReadsHalf s path die off src false n) :
    tget 0 (settle (s.regRead path die off)).lastRead path = lo32 n ∧
    (settle (s.regRead path die off)).latched path src = some ⟨src, hi32 n⟩ ∧
    ∀ j, j ≠ path → tget [] (settle (s.regRead path die off)).regs.latches j = tget [] s.regs.latches j := by
  rw [settle_lowRead hq h]
  exact ⟨returned_lastRead _ _ _, latch_latched _ _ _ _, fun j hj => latch_latches_ne s src _ hj⟩

/-- The high read returns the latched half and empties the latch. -/
theorem highRead_of_latched {l : LatchSt} (hq : Quiet s) (h : ReadsHalf s path die off src true n)
    (hl : s.latched path src = some l) :
    tget 0 (settle (s.regRead path die off)).lastRead path = l.value ∧
    (settle (s.regRead path die off)).latched path src = none := by
  rw [settle_highRead hq h]
  exact ⟨(returned_lastRead _ _ _).trans (unlatch_value_of_latched hl _), unlatch_empties _ _ _ _⟩

/-- With an empty latch the high read returns the live half. -/
theorem highRead_of_empty (hq : Quiet s) (h : ReadsHalf s path die off src true n) (hl : s.latched path src = none) :
    tget 0 (settle (s.regRead path die off)).lastRead path = hi32 n := by
  rw [settle_highRead hq h, returned_lastRead, unlatch_of_empty hl]

end

/-! ## Where the halves of the two time registers are -/

/-- The offset of a fault record's register leads back to the record (R421, R431). -/
theorem recordAt_recReg {rec off : Nat} (hrec : rec < 40) (hoff : off < 64) :
    recordAt (recReg rec 0).1 ((recReg rec off).2 / 65536) ((recReg rec off).2 % 65536) = (rec, off) := by
  unfold recReg
  split
  case isTrue hregion =>
    have hblock : (0x10000 * (8 + rec % 4) + off) / 65536 = 8 + rec % 4 := by omega
    simp only [recordAt, hblock, if_neg (show ¬ 8 + rec % 4 = 12 by omega), Prod.mk.injEq]
    omega
  case isFalse hdie =>
    have hblock : (0xC0000 + 64 * ((rec - 8) % 16) + off) / 65536 = 12 := by omega
    simp only [recordAt, hblock, if_true, dieRec, Prod.mk.injEq]
    omega

/-- The registers of fault records lie in blocks 8 to 12, those of a die's records in the first 1,024 bytes (R431). -/
theorem recReg_block {rec off : Nat} (hoff : off < 64) :
    (5 ≤ (recReg rec off).2 / 65536 ∧ (recReg rec off).2 / 65536 ≤ 12) ∧
    ¬ ((recReg rec off).2 / 65536 = 12 ∧ 1024 ≤ (recReg rec off).2 % 65536) := by
  unfold recReg
  split <;> dsimp only <;> omega

theorem readReg_devTimeLo (s : State) (path die : Nat) :
    s.readReg path path ⟨die, 0, 0x08⟩ true = s.readHalf path .devTime false s.ticks := rfl

theorem readReg_devTimeHi (s : State) (path die : Nat) :
    s.readReg path path ⟨die, 0, 0x0C⟩ true = s.readHalf path .devTime true s.ticks := rfl

theorem readReg_firstTimeLo {s : State} {rec : Nat} (path : Nat) (hrec : rec < 40) (hlive : s.recLive rec = true) :
    s.readReg path path ⟨(recReg rec 0).1, (recReg rec 0x1C).2 / 65536, (recReg rec 0x1C).2 % 65536⟩ true =
      s.readHalf path (.fcFirst rec) false (s.frec rec).firstTime := by
  obtain ⟨hfault, hplace⟩ := recReg_block (rec := rec) (off := 0x1C) (by decide)
  rw [readReg_fault hfault]
  simp [State.readFault, recordAt_recReg hrec, hlive, hplace]

theorem readReg_firstTimeHi {s : State} {rec : Nat} (path : Nat) (hrec : rec < 40) (hlive : s.recLive rec = true) :
    s.readReg path path ⟨(recReg rec 0).1, (recReg rec 0x20).2 / 65536, (recReg rec 0x20).2 % 65536⟩ true =
      s.readHalf path (.fcFirst rec) true (s.frec rec).firstTime := by
  obtain ⟨hfault, hplace⟩ := recReg_block (rec := rec) (off := 0x20) (by decide)
  rw [readReg_fault hfault]
  simp [State.readFault, recordAt_recReg hrec, hlive, hplace]

/-! ## The reads of the two registers -/

theorem exec_devTimeLoRead (path die : Nat) (s : State) :
    exec (.devTimeLoRead path die) s = .next (settle (s.regRead path die 0x08)) := rfl

theorem exec_fcFirstTimeLoRead (path rec : Nat) (s : State) :
    exec (.fcFirstTimeLoRead path rec) s = .next (settle (s.regRead path (recReg rec 0).1 (recReg rec 0x1C).2)) := rfl

theorem exec_devTimeHiRead (path : Nat) (s : State) :
    exec (.latchedHighRead path .devTime) s = .next (settle (s.regRead path 0 0x0C)) := rfl

theorem exec_fcFirstTimeHiRead (path rec : Nat) (s : State) :
    exec (.latchedHighRead path (.fcFirst rec)) s =
      .next (settle (s.regRead path (recReg rec 0).1 (recReg rec 0x20).2)) := rfl

/-- Settles O60, the latch rule of R443: each low read latches for its path, and each high read is judged by what the
latch of its path holds. That DEV_TIME of either die has the one latch of its path is log entry 124. -/
theorem timeRegistersReadConsistently : Obligations.TimeRegistersReadConsistently := by
  intro s path hquiet
  refine ⟨fun die hread => ?_, fun rec r hrec hlive hread hr => ?_, fun hempty hread => ?_,
    fun rec r hrec hlive hread hr hempty => ?_⟩
  · obtain ⟨hvalue, hlatched, hothers⟩ := lowRead_latches hquiet ⟨_, hread, readReg_devTimeLo s path die⟩
    refine ⟨_, exec_devTimeLoRead path die s, hvalue, hothers, fun u hu hsame hhigh => ⟨_, exec_devTimeHiRead path u, ?_⟩⟩
    exact highRead_of_latched hu ⟨_, hhigh, readReg_devTimeHi u path 0⟩ ((latched_congr hsame _ _).trans hlatched)
  · subst hr
    obtain ⟨hvalue, hlatched, hothers⟩ := lowRead_latches hquiet ⟨_, hread, readReg_firstTimeLo path hrec hlive⟩
    refine ⟨_, exec_fcFirstTimeLoRead path rec s, hvalue, hothers, fun u r' hu hsame hstill hhigh hr' =>
      ⟨_, exec_fcFirstTimeHiRead path rec u, ?_⟩⟩
    subst hr'
    exact highRead_of_latched hu ⟨_, hhigh, readReg_firstTimeHi path hrec hstill⟩
      ((latched_congr hsame _ _).trans hlatched)
  · exact ⟨_, exec_devTimeHiRead path s, highRead_of_empty hquiet ⟨_, hread, readReg_devTimeHi s path 0⟩ hempty⟩
  · subst hr
    exact ⟨_, exec_fcFirstTimeHiRead path rec s,
      highRead_of_empty hquiet ⟨_, hread, readReg_firstTimeHi path hrec hlive⟩ hempty⟩

end Sys2Proof.Machine

/-! Packets on the ports (R345, R351, R363): the bytes that the S-port is sent run the row that they spell, a packet
that fails a check gets its reply alone, and a C-port command runs with the lower of two classes. -/

namespace Sys2Proof.Machine

/-! ## Where the checks of a packet begin -/

section
variable {s : State} {p : Pkt} {sp : OpSpec}

/-- A port that takes packets, with nothing waiting, checks a packet at once. -/
theorem runPacket_at_once (ha : s.accepts p.port p.link = true) (hr : (s.port p.port).room = true)
    (hx : (s.port p.port).rx = []) : runPacket sp p s = s.runPkt sp.code (some sp) p := by
  simp [runPacket, ha, hr, hx]

/-- Bytes at a port that takes packets, with nothing waiting, are checked at once. -/
theorem arrive_at_once {port link claimed : Nat} (ha : s.accepts port link = true) (hr : (s.port port).room = true)
    (hx : (s.port port).rx = []) (b : List Byte) : s.arrive port link claimed b = s.runBytes port link claimed b := by
  simp [State.arrive, ha, hr, hx]

theorem select_awake (hon : s.sOn = true) (hawake : s.asleep = false) (k : State → State) : s.select k = k s := by
  simp [State.select, hon, hawake]

theorem sendS_awake (hon : s.sOn = true) (hawake : s.asleep = false) (b : List Byte) :
    s.sendS b = s.arrive 16 0 0 b := select_awake hon hawake _

/-- Only the C-port asks over which link a packet came (R345, R367). -/
theorem accepts_link {port link : Nat} (hport : port ≠ 18) : s.accepts port link = s.accepts port 0 := by
  simp [State.accepts, hport]

theorem exec_send (b : List Byte) (s : State) : exec (.send b) s = .next (settle (s.sendS b)) := rfl
theorem exec_sendQuad (b : List Byte) (s : State) : exec (.sendQuad b) s = .next (settle (s.sendS b)) := rfl

/-! ## The bytes of a packet (R347, R350) -/

/-- The bytes of a packet arrive as the packet, whether it runs at once or finds no room. -/
theorem arrive_pktBytes (hcode : sp.code < 65536) (hrow : opOf sp.code = some sp) (hwf : p.wf = true)
    (hport : p.port = 16) (hlink : p.link = 0) (hclaimed : p.claimed = 0) :
    s.arrive 16 0 0 (pktBytes p sp.code) = runPacket sp p s := by
  rw [State.arrive, runPacket, runBytes_pktBytes hwf hport hlink hclaimed hcode, hrow, hport, hlink, hclaimed]

/-- Settles O48: the S-port hands the bytes to the port, where they arrive as the packet of their row. -/
theorem serialBytesSpellTheCommand : Obligations.SerialBytesSpellTheCommand := by
  intro r hr p s hwf hport hlink hclaimed hon hawake
  obtain ⟨hexec, hcode, hrow⟩ := packetRows_ok r hr
  have hsend : s.sendS (pktBytes p r.2.code) = runPacket r.2 p s :=
    (sendS_awake hon hawake _).trans (arrive_pktBytes hcode hrow hwf hport hlink hclaimed)
  rw [exec_send, exec_sendQuad, hexec, packet, hsend]
  exact ⟨rfl, rfl⟩

/-! ## Checks 1 to 5 (R351) -/

theorem opTable_eq_packetRows : opTable = packetRows.map (·.2) := rfl

/-- An opcode that no packet row has names no row (R377). -/
theorem opOf_unknown {op : Nat} (h : op ∉ packetRows.map (·.2.code)) : opOf op = none := by
  rw [opOf, opTable_eq_packetRows, List.find?_eq_none]
  intro sp hsp
  obtain ⟨r, hr, rfl⟩ := List.mem_map.mp hsp
  simpa using fun he : r.2.code = op => h (List.mem_map.mpr ⟨r, hr, he⟩)

variable {op : Nat} {row : Option OpSpec}

/-- Check 3: a wrong sequence number is answered with the one expected. -/
theorem runPkt_badSeq (hchk : sequenced p = true) (hseq : p.seq ≠ (s.port p.port).rxSeq) :
    s.runPkt op row p = s.turnAway p.port op p.tag (s.classOf p.port p.claimed) p.scope.toNat stBadSeq
      (s.port p.port).rxSeq := by
  rw [State.runPkt, if_pos ⟨hchk, hseq⟩]
  rfl

/-- Check 4: a busy tag is refused once the sequence number is noted. -/
theorem runPkt_tagBusy (hseq : sequenced p = true → p.seq = (s.port p.port).rxSeq)
    (htag : p.tag ∈ (s.port p.port).tags) :
    s.runPkt op row p = (s.noteSeq p).turnAway p.port op p.tag (s.classOf p.port p.claimed) p.scope.toNat
      stTagBusy 0 := by
  rw [State.runPkt, if_neg fun h => h.2 (hseq h.1), if_pos (List.contains_iff_mem.mpr htag)]
  rfl

/-- A reply with a status from a body that changed nothing. -/
theorem answer_err (s : State) (port : Nat) (c : Cmd) (st : Nat) : s.answer port c (.err st) = s.replyErr port c st := by
  have hsame : wasReset s s = false := by simp [wasReset]
  simp only [State.answer, Res.words, hsame]
  rfl

/-- Check 5: an opcode without a row, or one that the class does not permit, is refused once number and tag are
noted. -/
theorem runPkt_notPermitted (hseq : sequenced p = true → p.seq = (s.port p.port).rxSeq)
    (htag : p.tag ∉ (s.port p.port).tags) (hrow : ∀ sp ∈ row, s.permits sp p.port (s.cmdOf op p) = false) :
    s.runPkt op row p = ((s.noteSeq p).noteTag p).replyErr p.port (s.cmdOf op p) stNotPermitted := by
  rw [State.runPkt, if_neg fun h => h.2 (hseq h.1), if_neg (by simpa using htag)]
  cases row with
  | none => exact answer_err _ _ _ _
  | some sp =>
    simp only [permits_note, hrow sp rfl, Bool.not_false, if_true]
    exact answer_err _ _ _ _

/-- Checks 1 and 2 on the bytes of the S-port. -/
theorem runBytes_unframed {port link claimed : Nat} {b : List Byte} (h : framedOk port b = false) :
    s.runBytes port link claimed b = s.framingError port := by
  simp [State.runBytes, h]

theorem runBytes_badTrailer {b : List Byte} (hf : framedOk 16 b = true) (ht : trailerOk b = false) :
    s.runBytes 16 0 0 b = s.turnAway 16 (headerWord b 0 % 65536) (headerWord b 1 % 4096) clsS
      (headerWord b 2 % 2 ^ 32) stBadCrc (s.port 16).rxSeq := by
  simp [State.runBytes, hf, ht, pktOf, sequenced, State.classOf]

theorem runBytes_checked {port link claimed : Nat} {b : List Byte} (hf : framedOk port b = true)
    (ht : trailerOk b = true) :
    s.runBytes port link claimed b =
      s.runPkt (headerWord b 0 % 65536) (opOf (headerWord b 0 % 65536)) (pktOf port link claimed b) := by
  simp [State.runBytes, hf, ht]

end

/-- Settles O49: one lemma per check of R351. -/
theorem turnedAwayPacketsChangeNothing : Obligations.TurnedAwayPacketsChangeNothing := by
  intro p s bytes haccepts hroom hrx
  refine ⟨fun r hr => ?_, fun hport hon hawake => ?_⟩
  · obtain ⟨hexec, -, -⟩ := packetRows_ok r hr
    rw [hexec, packet, runPacket_at_once haccepts hroom hrx]
    refine ⟨fun hchk hseq => ?_, fun hseq htag => ?_, fun hseq htag hclass => ?_⟩
    · rw [runPkt_badSeq hchk hseq]
    · rw [runPkt_tagBusy hseq htag]
    · rw [runPkt_notPermitted hseq htag (by rintro _ ⟨⟩; exact hclass)]
  · rw [hport] at haccepts hroom hrx
    rw [accepts_link (by decide)] at haccepts
    rw [exec_send, sendS_awake hon hawake, arrive_at_once haccepts hroom hrx]
    refine ⟨fun hframed => ?_, fun hframed htrailer => ?_, fun hframed htrailer hp hop hseq htag => ?_⟩
    · rw [runBytes_unframed hframed]
    · rw [runBytes_badTrailer hframed htrailer]
    · subst hp
      rw [runBytes_checked hframed htrailer, opOf_unknown hop]
      rw [runPkt_notPermitted (fun _ => hseq) htag (by simp)]
      rfl

/-! ## The class of a C-port command (R345, R368) -/

theorem classRank_of_rank : ∀ {r : Nat}, r ≤ 3 → classRank (if r = 0 then 0 else 4 - r) = r
  | 0, _ => rfl
  | 1, _ => rfl
  | 2, _ => rfl
  | 3, _ => rfl
  | _ + 4, h => absurd h (by omega)

theorem classRank_cClass {s : State} (h : s.casc.ceiling ≤ 3) (claimed : Nat) :
    classRank (s.cClass claimed) = min (classRank claimed) s.casc.ceiling :=
  classRank_of_rank (Nat.le_trans (Nat.min_le_right _ _) h)

theorem cClass_of_ceiling_none {s : State} (h : s.casc.ceiling = 0) (claimed : Nat) : s.cClass claimed = 0 := by
  simp [State.cClass, h]

/-- The C-port gives no class that ranks above the ceiling, and never the M-port's. -/
theorem cClass_low {s : State} (h : s.casc.ceiling < 3) (claimed : Nat) :
    s.cClass claimed ≠ clsS ∧ s.cClass claimed ≠ clsV := by
  simp only [State.cClass, clsS, clsV]
  split <;> omega

/-- Code 0 is no class: no row takes it. -/
theorem packetRows_cls_pos : ∀ r ∈ packetRows, 0 ∉ r.2.cls := by decide

theorem permits_of_not_mem {s : State} {sp : OpSpec} {port : Nat} {c : Cmd} (h : c.cls ∉ sp.cls) :
    s.permits sp port c = false := by
  simp [State.permits, h]

/-- Settles O51: a C-port command has the class of the lower rank, and a row takes no class that it does not list. -/
theorem cPortClassIsTheLower : Obligations.CPortClassIsTheLower := by
  intro r hr p s hport hceiling
  have hcls : (s.cmdOf r.2.code p).cls = s.cClass p.claimed := by
    rw [State.cmdOf, State.classOf, hport]
    rfl
  refine ⟨by rw [hcls, classRank_cClass hceiling], fun hnone => permits_of_not_mem ?_,
    fun hlow hrow => permits_of_not_mem fun hmem => ?_⟩
  · rw [hcls, cClass_of_ceiling_none hnone]
    exact packetRows_cls_pos r hr
  · obtain ⟨hS, hV⟩ := cClass_low hlow p.claimed
    rw [hcls] at hmem
    exact (hrow _ hmem).elim hS hV

end Sys2Proof.Machine

/-! Writes of package memory read back (R314), and the code that corrects one bit and finds two (R313). -/

namespace Sys2Proof.Machine

/-! ## Lists and bits -/

theorem getD_of_lt {α : Type} {l : List α} {i : Nat} {d : α} (h : i < l.length) : l.getD i d = l[i] := by
  rw [List.getD_eq_getElem?_getD, List.getElem?_eq_getElem h, Option.getD_some]

theorem getElem_ne_of_nodup {l : List Nat} (hl : l.Nodup) {i j : Nat} {hi : i < l.length} {hj : j < l.length} (h : i ≠ j) :
    l[i] ≠ l[j] := by
  have hlt := List.pairwise_iff_getElem.mp hl
  rcases Nat.lt_or_gt_of_ne h with hij | hij
  · exact hlt i j hi hj hij
  · exact (hlt j i hj hi hij).symm

theorem eq_of_xor_eq_zero {a b : Nat} (h : a ^^^ b = 0) : a = b := by
  rw [← Nat.xor_zero a, ← Nat.xor_self b, ← Nat.xor_assoc, h, Nat.zero_xor]

/-! ## The words of a write (R314) -/

/-- The bytes that a write of `d` at `a` brings to word `w`; none where it does not reach. -/
def newBytes (a : Nat) (d : List Byte) (w : Nat) : List (Option Byte) :=
  (List.range 8).map fun i => if a ≤ 8 * w + i then d[8 * w + i - a]? else none

theorem newBytes_length (a : Nat) (d : List Byte) (w : Nat) : (newBytes a d w).length = 8 := by simp [newBytes]

theorem write_eq_writeSteps (m : Memory) (a : Nat) (d : List Byte) :
    m.write a d = (wordsOf a d.length).foldl (writeStep (newBytes a d)) (m, false) := rfl

/-- What a byte reads after a write: the byte written, or the delivered one outside the range. -/
def byteAfterWrite (m : Memory) (a : Nat) (d : List Byte) (x : Nat) : Byte :=
  if a ≤ x ∧ x < a + d.length then d.getD (x - a) 0 else (m.readWord (x / 8)).getD (x % 8) 0

theorem byteAfterWrite_inside {m : Memory} {a x : Nat} {d : List Byte} (h : a ≤ x ∧ x < a + d.length) :
    byteAfterWrite m a d x = d.getD (x - a) 0 := if_pos h

theorem byteAfterWrite_outside {m : Memory} {a w i : Nat} {d : List Byte} (hi : i < 8)
    (h : 8 * w + i < a ∨ a + d.length ≤ 8 * w + i) :
    byteAfterWrite m a d (8 * w + i) = (m.readWord w).getD i 0 := by
  rw [byteAfterWrite, if_neg (by omega), show (8 * w + i) / 8 = w by omega, show (8 * w + i) % 8 = i by omega]

theorem mergedWord_newBytes (m : Memory) (a : Nat) (d : List Byte) (w : Nat) :
    mergedWord m w (newBytes a d w) = (List.range 8).map fun i => byteAfterWrite m a d (8 * w + i) := by
  refine List.map_congr_left fun i hi => ?_
  have hi : i < 8 := List.mem_range.mp hi
  have hnew : (newBytes a d w).getD i none = if a ≤ 8 * w + i then d[8 * w + i - a]? else none := by
    simp [newBytes, hi]
  rw [hnew]
  by_cases hin : a ≤ 8 * w + i ∧ 8 * w + i < a + d.length
  · have hd : 8 * w + i - a < d.length := by omega
    rw [if_pos hin.1, byteAfterWrite_inside hin, List.getElem?_eq_getElem hd, Option.getD_some,
      getD_of_lt hd]
  · rw [byteAfterWrite_outside hi (by omega)]
    split
    · rw [List.getElem?_eq_none (by omega), Option.getD_none]
    · rfl

/-- A write brings all eight bytes of the words that it covers, and of no others. -/
theorem newBytes_all (a : Nat) (d : List Byte) (w : Nat) :
    (newBytes a d w).all Option.isSome = true ↔ ¬(8 * w < a ∨ a + d.length < 8 * w + 8) := by
  simp only [newBytes, List.all_map, List.all_eq_true, List.mem_range, Function.comp_apply]
  refine ⟨fun hall => ?_, fun hcover i hi => ?_⟩
  · have hfirst := hall 0 (by decide)
    have hlast := hall 7 (by decide)
    split at hfirst <;> split at hlast <;> simp at hfirst hlast
    omega
  · rw [if_pos (by omega), List.getElem?_eq_getElem (by omega), Option.isSome_some]

theorem badMerge_newBytes (m : Memory) (a : Nat) (d : List Byte) (w : Nat) :
    badMerge m w (newBytes a d w) = true ↔ (8 * w < a ∨ a + d.length < 8 * w + 8) ∧ 2 ≤ (m.judge w).kind := by
  have hall := newBytes_all a d w
  rw [badMerge, Bool.and_eq_true, Bool.not_eq_true', ← Bool.not_eq_true, hall, Classical.not_not, decide_eq_true_eq]

/-! ## Reading back -/

section
variable {m : Memory} {a : Nat} {d : List Byte}

/-- A word that the write does not touch stays as it was. -/
theorem write_other {w : Nat} (h : w ∉ wordsOf a d.length) :
    (m.write a d).1.readWord w = m.readWord w ∧ (m.write a d).1.judge w = m.judge w := by
  obtain ⟨hother, -, -⟩ := writeSteps (newBytes a d) (newBytes_length a d) _ (wordsOf_nodup a d.length) (m, false)
  obtain ⟨hjudge, hread, -⟩ := hother w h
  exact ⟨hread, hjudge⟩

theorem write_flag :
    (m.write a d).2 = (wordsOf a d.length).any fun w => badMerge m w (newBytes a d w) := by
  obtain ⟨-, -, hflag⟩ := writeSteps (newBytes a d) (newBytes_length a d) _ (wordsOf_nodup a d.length) (m, false)
  rw [write_eq_writeSteps, hflag, Bool.false_or]

/-- A word that the write touches reads the bytes written, among those that it delivered before. -/
theorem write_readWord {w : Nat} (hw : w ∈ wordsOf a d.length) (hgood : badMerge m w (newBytes a d w) = false) :
    (m.write a d).1.readWord w = (List.range 8).map fun i => byteAfterWrite m a d (8 * w + i) := by
  obtain ⟨-, htouched, -⟩ := writeSteps (newBytes a d) (newBytes_length a d) _ (wordsOf_nodup a d.length) (m, false)
  exact ((htouched w hw).1 hgood).trans (mergedWord_newBytes m a d w)

/-- A merge into an uncorrectable word leaves it poisoned. -/
theorem write_poisons {w : Nat} (hw : w ∈ wordsOf a d.length) (hbad : badMerge m w (newBytes a d w) = true) :
    tget 0 (m.write a d).1.err w = poisonPat := by
  obtain ⟨-, htouched, -⟩ := writeSteps (newBytes a d) (newBytes_length a d) _ (wordsOf_nodup a d.length) (m, false)
  exact (htouched w hw).2 hbad

theorem write_read (hgood : ∀ w ∈ wordsOf a d.length, badMerge m w (newBytes a d w) = false) :
    (m.write a d).1.read a d.length = d := by
  rw [read_of_words _ a d.length (byteAfterWrite m a d) fun w hw => write_readWord hw (hgood w hw)]
  refine List.ext_getElem (by simp) fun i hi hi' => ?_
  rw [List.getElem_map, List.getElem_range, byteAfterWrite_inside (by omega), Nat.add_sub_cancel_left,
    getD_of_lt hi']

end

/-- Settles O52: word by word, each word merged with what it delivered, and poisoned where that is uncorrectable. -/
theorem memoryReadsWhatWasWritten : Obligations.MemoryReadsWhatWasWritten := by
  refine fun m a d => ⟨fun hpartial => ?_, fun w hw hcut hkind => ?_⟩
  · have hgood : ∀ w ∈ wordsOf a d.length, badMerge m w (newBytes a d w) = false := fun w hw => by
      rw [← Bool.not_eq_true, badMerge_newBytes]
      exact fun ⟨hcut, hkind⟩ => absurd (hpartial w hw hcut) (by omega)
    refine ⟨?_, write_read hgood, fun w hw => write_other hw, fun w hw i hi hout => ?_⟩
    · rw [write_flag, List.any_eq_false]
      exact fun w hw => by rw [hgood w hw]; exact Bool.false_ne_true
    · rw [write_readWord hw (hgood w hw), ← byteAfterWrite_outside hi hout]
      simp [hi]
  · have hbad : badMerge m w (newBytes a d w) = true := (badMerge_newBytes m a d w).mpr ⟨hcut, hkind⟩
    exact ⟨by rw [write_flag]; exact List.any_eq_true.mpr ⟨w, hw, hbad⟩, write_poisons hw hbad⟩

/-! ## The columns of the code (R313) -/

theorem eccCols_length : eccCols.length = 72 := by decide +kernel
theorem eccCols_nodup : eccCols.Nodup := by decide +kernel
theorem eccCols_odd : ∀ c ∈ eccCols, weight8 c % 2 = 1 := by decide +kernel

/-- The bits of an exclusive-or, counted twice where both have them, are those of both. -/
theorem filter_xor_length (a b : Nat) (l : List Nat) :
    (l.filter fun i => (a ^^^ b).testBit i).length + 2 * (l.filter fun i => a.testBit i && b.testBit i).length =
      (l.filter fun i => a.testBit i).length + (l.filter fun i => b.testBit i).length := by
  induction l with
  | nil => rfl
  | cons i l ih =>
    simp only [List.filter_cons, Nat.testBit_xor] at ih ⊢
    cases a.testBit i <;> cases b.testBit i <;> simp <;> omega

/-- Two columns of odd weight give an even weight. -/
theorem weight8_xor_even {a b : Nat} (ha : weight8 a % 2 = 1) (hb : weight8 b % 2 = 1) : weight8 (a ^^^ b) % 2 = 0 := by
  have hcount := filter_xor_length a b (List.range 8)
  unfold weight8 at *
  omega

/-! ## The syndrome -/

theorem eccSum_zero : ∀ cols, eccSum cols 0 = 0
  | [] => rfl
  | _ :: cols => by simp [eccSum, eccSum_zero cols]

/-- The code is linear. -/
theorem eccSum_xor : ∀ (cols : List Nat) (v w : Nat), eccSum cols (v ^^^ w) = eccSum cols v ^^^ eccSum cols w
  | [], _, _ => (Nat.xor_self 0).symm
  | c :: cols, v, w => by
    have hbit : (v ^^^ w) % 2 = v % 2 ^^^ w % 2 := Nat.xor_mod_two_pow (n := 1)
    have hrest : (v ^^^ w) / 2 = v / 2 ^^^ w / 2 := Nat.xor_div_two_pow (n := 1)
    have hmove (x y : Nat) : x ^^^ (c ^^^ y) = c ^^^ (x ^^^ y) := by
      rw [← Nat.xor_assoc, Nat.xor_comm x, Nat.xor_assoc]
    have hcancel (x y : Nat) : c ^^^ x ^^^ (c ^^^ y) = x ^^^ y := by
      rw [Nat.xor_assoc, hmove, ← Nat.xor_assoc c c, Nat.xor_self, Nat.zero_xor]
    rw [eccSum, eccSum, eccSum, hrest, eccSum_xor cols, hbit]
    rcases Nat.mod_two_eq_zero_or_one v with hv | hv <;> rcases Nat.mod_two_eq_zero_or_one w with hw | hw <;>
      simp [hv, hw, hcancel, hmove, Nat.xor_assoc]

theorem eccSum_bit : ∀ (cols : List Nat) (i : Nat), eccSum cols (2 ^ i) = cols.getD i 0
  | [], i => by simp [eccSum]
  | c :: cols, 0 => by simp [eccSum, eccSum_zero]
  | c :: cols, i + 1 => by
    rw [eccSum, show 2 ^ (i + 1) / 2 = 2 ^ i by omega, eccSum_bit cols i, if_neg (by omega)]
    simp

/-- Column `i` of the 72. -/
def eccCol (i : Nat) : Nat := eccCols.getD i 0

theorem eccCol_eq_getElem {i : Nat} (hi : i < 72) : eccCol i = eccCols[i]'(by rw [eccCols_length]; exact hi) :=
  getD_of_lt _

theorem eccCol_odd {i : Nat} (hi : i < 72) : weight8 (eccCol i) % 2 = 1 := by
  rw [eccCol_eq_getElem hi]
  exact eccCols_odd _ (List.getElem_mem _)

theorem eccCol_ne {i j : Nat} (hi : i < 72) (hj : j < 72) (h : i ≠ j) : eccCol i ≠ eccCol j := by
  rw [eccCol_eq_getElem hi, eccCol_eq_getElem hj]
  exact getElem_ne_of_nodup eccCols_nodup h

theorem syndrome_bit {i : Nat} (hi : i < 72) : eccSum eccCols (BitVec.ofNat 72 (2 ^ i)).toNat = eccCol i := by
  rw [BitVec.toNat_ofNat, Nat.mod_eq_of_lt (Nat.pow_lt_pow_right (by decide) hi), eccSum_bit]
  rfl

/-- Two different bits as a pattern are their exclusive-or. -/
theorem two_pow_add_eq_xor {i j : Nat} (h : i < j) : 2 ^ i + 2 ^ j = 2 ^ i ^^^ 2 ^ j := by
  have hor : 2 ^ j + 2 ^ i = 2 ^ j ||| 2 ^ i := by
    simpa using Nat.two_pow_add_eq_or_of_lt (Nat.pow_lt_pow_right (by decide) h) 1
  rw [Nat.add_comm, hor]
  refine Nat.eq_of_testBit_eq fun k => ?_
  simp only [Nat.testBit_or, Nat.testBit_xor, Nat.testBit_two_pow]
  by_cases hik : i = k
  · simp [hik, show j ≠ k by omega]
  · simp [hik]

theorem syndrome_two_bits {i j : Nat} (hi : i < 72) (hj : j < 72) (h : i ≠ j) :
    eccSum eccCols (BitVec.ofNat 72 (2 ^ i + 2 ^ j)).toNat = eccCol i ^^^ eccCol j := by
  have hxor : 2 ^ i + 2 ^ j = 2 ^ i ^^^ 2 ^ j := by
    rcases Nat.lt_or_gt_of_ne h with hlt | hlt
    · exact two_pow_add_eq_xor hlt
    · rw [Nat.add_comm, two_pow_add_eq_xor hlt, Nat.xor_comm]
  have hlt : 2 ^ i ^^^ 2 ^ j < 2 ^ 72 :=
    Nat.xor_lt_two_pow (Nat.pow_lt_pow_right (by decide) hi) (Nat.pow_lt_pow_right (by decide) hj)
  rw [hxor, BitVec.toNat_ofNat, Nat.mod_eq_of_lt hlt, eccSum_xor, eccSum_bit, eccSum_bit]
  rfl

/-! ## What the code makes of a pattern -/

/-- A syndrome that is a column is a corrected error of that column's bit. -/
theorem eccJudge_of_col {p : BitVec 72} {i : Nat} (hi : i < 72) (h : eccSum eccCols p.toNat = eccCol i) :
    (eccJudge p).kind = 1 ∧ (eccJudge p).bit = i := by
  have hodd := eccCol_odd hi
  have hzero : eccCol i ≠ 0 := fun he => by rw [he] at hodd; exact absurd hodd (by decide)
  have hpoison : eccCol i ≠ 0xFF := fun he => by rw [he] at hodd; exact absurd hodd (by decide)
  have hfind : eccCols.findIdx? (· = eccCol i) = some i := by
    rw [List.findIdx?_eq_some_iff_getElem]
    refine ⟨by rw [eccCols_length]; exact hi, by simp [eccCol_eq_getElem hi], fun j hj => ?_⟩
    have hne := eccCol_ne (Nat.lt_trans hj hi) hi (Nat.ne_of_lt hj)
    rw [eccCol_eq_getElem (Nat.lt_trans hj hi)] at hne
    simpa using hne
  simp only [eccJudge, h, if_neg hzero, if_neg hpoison, hfind, and_self]

/-- A syndrome of even weight other than 0 is no column's: nothing is corrected. -/
theorem eccJudge_of_even {p : BitVec 72} (hzero : eccSum eccCols p.toNat ≠ 0)
    (heven : weight8 (eccSum eccCols p.toNat) % 2 = 0) : 2 ≤ (eccJudge p).kind := by
  have hfind : eccCols.findIdx? (· = eccSum eccCols p.toNat) = none := by
    rw [List.findIdx?_eq_none_iff]
    intro c hc
    have hodd := eccCols_odd c hc
    simp only [decide_eq_false_iff_not]
    rintro rfl
    omega
  simp only [eccJudge, if_neg hzero, hfind]
  split
  · exact Nat.le_succ 2
  · exact Nat.le_refl 2

theorem judge_of_stored {m : Memory} {w : Nat} (h : m.rawWord w = none) : m.judge w = eccJudge (tget 0 m.err w) := by
  rw [Memory.judge, h]

/-- A read corrects the one wrong bit of a word. -/
theorem readWord_one_bit {m : Memory} {w i : Nat} (hi : i < 72) (herr : tget 0 m.err w = BitVec.ofNat 72 (2 ^ i))
    (hraw : m.rawWord w = none) : m.readWord w = m.bytes (8 * w) 8 := by
  obtain ⟨hkind, hbit⟩ := eccJudge_of_col hi (syndrome_bit hi)
  rw [← herr, ← judge_of_stored hraw] at hkind hbit
  have hpat : (tget 0 m.err w).toNat = 2 ^ i := by
    rw [herr, BitVec.toNat_ofNat, Nat.mod_eq_of_lt (Nat.pow_lt_pow_right (by decide) hi)]
  simp only [Memory.readWord, hkind, hbit, hpat, true_and]
  rw [if_pos]
  by_cases h64 : i < 64
  · rw [if_pos h64, Nat.mod_eq_of_lt (Nat.pow_lt_pow_right (by decide) h64), Nat.xor_self]
  · rw [if_neg h64, Nat.mod_eq_zero_of_dvd (Nat.pow_dvd_pow 2 (by omega)), Nat.xor_self]

/-- Settles O53: the syndrome of one bit is its column, and of two bits a sum of even weight, which no column is. -/
theorem errorCodeCorrectsOneFindsTwo : Obligations.ErrorCodeCorrectsOneFindsTwo := by
  refine ⟨by decide, by decide, eccCols_length, eccCols_nodup, eccCols_odd, fun i hi => eccJudge_of_col hi (syndrome_bit hi),
    fun i hi j hj hne => ?_, fun m w i hi herr hraw => readWord_one_bit hi herr hraw⟩
  refine eccJudge_of_even ?_ ?_
  · rw [syndrome_two_bits hi hj hne]
    exact fun h => eccCol_ne hi hj hne (eq_of_xor_eq_zero h)
  · rw [syndrome_two_bits hi hj hne]
    exact weight8_xor_even (eccCol_odd hi) (eccCol_odd hj)

end Sys2Proof.Machine

/-! The coefficients of a phase are made to sum to 1,024 (R99): each tap takes up what it can, and the taps of every
form can take up any difference together. -/

namespace Sys2Proof.Machine

/-! ## One tap -/

/-- Every coefficient lies in the range of the table. -/
def TapsInRange (k : List Int) : Prop := ∀ v ∈ k, -2048 ≤ v ∧ v ≤ 2047

/-- The bound at which the taps stand that could not take up a difference. -/
def tapBound (k : List Int) : Int := if k.sum < 1024 then 2047 else -2048

/-- One tap takes up what is missing from 1,024, as far as its range allows. -/
def fillTap (k : List Int) (i : Nat) : List Int := k.set i (clampI (-2048) 2047 (k.getD i 0 + (1024 - k.sum)))

theorem foldl_add_eq_sum (k : List Int) : k.foldl (· + ·) 0 = k.sum := (List.sum_eq_foldl).symm

theorem sum_set_of_lt (a : Int) : ∀ (k : List Int) {i : Nat}, i < k.length → (k.set i a).sum = k.sum - k.getD i 0 + a
  | [], _, h => absurd h (Nat.not_lt_zero _)
  | x :: k, 0, _ => by
    rw [List.set_cons_zero, List.sum_cons, List.sum_cons, List.getD_cons_zero]
    omega
  | x :: k, i + 1, h => by
    rw [List.set_cons_succ, List.sum_cons, List.sum_cons, List.getD_cons_succ, sum_set_of_lt a k (Nat.lt_of_succ_lt_succ h)]
    omega

theorem sum_fillTap (k : List Int) {i : Nat} (hi : i < k.length) :
    (fillTap k i).sum = k.sum - k.getD i 0 + clampI (-2048) 2047 (k.getD i 0 + (1024 - k.sum)) := by
  rw [fillTap, sum_set_of_lt _ k hi]

theorem getD_fillTap (k : List Int) {i : Nat} (hi : i < k.length) (j : Nat) :
    (fillTap k i).getD j 0 = if i = j then clampI (-2048) 2047 (k.getD i 0 + (1024 - k.sum)) else k.getD j 0 := by
  simp only [fillTap, List.getD_eq_getElem?_getD, List.getElem?_set]
  split
  · simp [hi]
  · rfl

theorem fillTap_inRange {k : List Int} (hk : TapsInRange k) (i : Nat) : TapsInRange (fillTap k i) := fun v hv => by
  rcases List.mem_or_eq_of_mem_set hv with hv | rfl
  · exact hk v hv
  · exact clampI_bounds (by decide) _

theorem TapsInRange.getD {k : List Int} (hk : TapsInRange k) {i : Nat} (hi : i < k.length) :
    -2048 ≤ k.getD i 0 ∧ k.getD i 0 ≤ 2047 := by
  rw [getD_of_lt hi]
  exact hk _ (List.getElem_mem hi)

/-- A tap that cannot take up the whole difference stands at the bound, which stays the same. -/
theorem fillTap_full_or_bound {k : List Int} (hk : TapsInRange k) {i : Nat} (hi : i < k.length) :
    (fillTap k i).sum = 1024 ∨
    (fillTap k i).getD i 0 = tapBound k ∧ tapBound (fillTap k i) = tapBound k := by
  have hrange := hk.getD hi
  have hnew := sum_fillTap k hi
  rw [getD_fillTap k hi i, if_pos rfl]
  unfold tapBound clampI at *
  split <;> split <;> omega

/-! ## One tap after another -/

theorem resum_of_sum {k : List Int} (h : k.sum = 1024) (first : Int) (order : List Int) : resum first k order = k := by
  cases order with
  | nil => rfl
  | cons d order => simp [resum, foldl_add_eq_sum, h]

theorem resum_cons {k : List Int} (h : k.sum ≠ 1024) (first d : Int) (order : List Int) :
    resum first k (d :: order) =
      if d < first ∨ k.length ≤ (d - first).toNat then resum first k order
      else resum first (fillTap k (d - first).toNat) order := by
  rw [resum, foldl_add_eq_sum, if_neg (by omega)]
  rfl

theorem resum_length (first : Int) : ∀ (order k : List Int), (resum first k order).length = k.length
  | [], _ => rfl
  | d :: order, k => by
    by_cases h : k.sum = 1024
    · rw [resum_of_sum h]
    · rw [resum_cons h]
      split
      · exact resum_length first order k
      · rw [resum_length first order, fillTap, List.length_set]

theorem resum_inRange (first : Int) : ∀ (order : List Int) {k : List Int}, TapsInRange k → TapsInRange (resum first k order)
  | [], _, hk => hk
  | d :: order, k, hk => by
    by_cases h : k.sum = 1024
    · rwa [resum_of_sum h]
    · rw [resum_cons h]
      split
      · exact resum_inRange first order hk
      · exact resum_inRange first order (fillTap_inRange hk _)

/-- What a list becomes whose difference no order of taps uses up: the bound stays, and every tap in turn stands at it. -/
structure StuckAtBound (first : Int) (order k r : List Int) : Prop where
  bound : tapBound r = tapBound k
  keeps : ∀ i, k.getD i 0 = tapBound k → r.getD i 0 = tapBound k
  taken : ∀ d ∈ order, first ≤ d → (d - first).toNat < k.length → r.getD (d - first).toNat 0 = tapBound k

/-- The taps take up the difference, or all of them stand at the bound. -/
theorem resum_sum_or_stuck (first : Int) : ∀ (order : List Int) {k : List Int}, TapsInRange k →
    (resum first k order).sum = 1024 ∨ StuckAtBound first order k (resum first k order)
  | [], _, _ => .inr ⟨rfl, fun _ h => h, fun _ h => absurd h List.not_mem_nil⟩
  | d :: order, k, hk => by
    by_cases hsum : k.sum = 1024
    · exact .inl (by rw [resum_of_sum hsum]; exact hsum)
    rw [resum_cons hsum]
    split
    case isTrue hout =>
      refine (resum_sum_or_stuck first order hk).imp_right fun ⟨hbound, hkeeps, htaken⟩ => ⟨hbound, hkeeps, ?_⟩
      refine List.forall_mem_cons.mpr ⟨fun hfirst hlen => ?_, htaken⟩
      omega
    case isFalse hin =>
      have hi : (d - first).toNat < k.length := by omega
      rcases fillTap_full_or_bound hk hi with hfull | ⟨htap, hsame⟩
      · exact .inl (by rw [resum_of_sum hfull]; exact hfull)
      refine (resum_sum_or_stuck first order (fillTap_inRange hk _)).imp_right fun ⟨hbound, hkeeps, htaken⟩ => ?_
      rw [hsame] at hbound hkeeps htaken
      refine ⟨hbound, fun j hj => hkeeps j ?_, List.forall_mem_cons.mpr ⟨fun _ _ => hkeeps _ htap, fun e he hfirst hlen => ?_⟩⟩
      · by_cases hij : (d - first).toNat = j
        · rw [← hij]; exact htap
        · rw [getD_fillTap k hi, if_neg hij]; exact hj
      · exact htaken e he hfirst (by rw [fillTap, List.length_set]; exact hlen)

/-- All taps at the bound is too far: so, where every tap has its turn, the sum is restored. -/
theorem resum_sum {first : Int} {order k : List Int} (hk : TapsInRange k) (hne : k ≠ [])
    (hall : ∀ i < k.length, first + i ∈ order) : (resum first k order).sum = 1024 := by
  refine (resum_sum_or_stuck first order hk).resolve_right fun ⟨hbound, _, htaken⟩ => ?_
  have hlen := resum_length first order k
  have hsame : ∀ v ∈ resum first k order, v = tapBound k := fun v hv => by
    obtain ⟨i, hi, rfl⟩ := List.getElem_of_mem hv
    have hturn := htaken _ (hall i (hlen ▸ hi)) (by omega) (by omega)
    rwa [show (first + i - first).toNat = i by omega, getD_of_lt hi] at hturn
  have hsum : (resum first k order).sum = k.length * tapBound k := by
    rw [List.eq_replicate_of_mem hsame, List.sum_replicate_int, hlen]
  have hpos : 0 < k.length := List.length_pos_iff.mpr hne
  rw [tapBound, hsum] at hbound
  split at hbound
  all_goals
    rename_i hside
    rw [← hbound] at hside
    omega

/-! ## The order of taps (R99) -/

theorem mem_tapOrder {phase : Nat} {d : Int} (h : -3 ≤ d ∧ d ≤ 4) : d ∈ tapOrder phase := by
  unfold tapOrder
  split <;> simp <;> omega

/-- The centre tap, which has the first turn. -/
theorem tapOrder_eq (phase : Nat) : ∃ order, tapOrder phase = (if phase < 32 then 0 else 1) :: order := by
  unfold tapOrder
  split
  · exact ⟨_, rfl⟩
  · exact ⟨_, rfl⟩

/-- Where the first tap in turn can take up the whole difference, no other changes. -/
theorem resum_first {first d : Int} {order k : List Int} (hfirst : first ≤ d) (hlen : (d - first).toNat < k.length)
    (hlow : -2048 ≤ k.getD (d - first).toNat 0 + (1024 - k.sum)) (hhigh : k.getD (d - first).toNat 0 + (1024 - k.sum) ≤ 2047) :
    resum first k (d :: order) = k.set (d - first).toNat (k.getD (d - first).toNat 0 + (1024 - k.sum)) := by
  have hclamp : clampI (-2048) 2047 (k.getD (d - first).toNat 0 + (1024 - k.sum)) =
      k.getD (d - first).toNat 0 + (1024 - k.sum) := by
    unfold clampI
    omega
  by_cases hsum : k.sum = 1024
  · rw [resum_of_sum hsum, hsum, Int.sub_self, Int.add_zero, getD_of_lt hlen, List.set_getElem_self]
  · have hfull : (fillTap k (d - first).toNat).sum = 1024 := by
      rw [sum_fillTap k hlen, hclamp]
      omega
    rw [resum_cons hsum, if_neg (by omega), resum_of_sum hfull, fillTap, hclamp]

/-- Settles O56: the centre tap has the first turn, and every tap of the four forms has one. -/
theorem phaseSumRestored : Obligations.PhaseSumRestored := by
  rintro phase first k c rest i - hform rfl rfl rfl
  have hk : TapsInRange (k.map (clampI (-2048) 2047)) := fun v hv => by
    obtain ⟨x, -, rfl⟩ := List.mem_map.mp hv
    exact clampI_bounds (by decide) x
  have hne : k.map (clampI (-2048) 2047) ≠ [] := fun h => by
    rw [List.map_eq_nil_iff.mp h] at hform
    simp at hform
  simp only [foldl_add_eq_sum, fixPhase]
  refine ⟨by rw [resum_length, List.length_map], resum_sum hk hne fun j hj => ?_, resum_inRange first _ hk, ?_⟩
  · rw [List.length_map] at hj
    exact mem_tapOrder (by omega)
  · obtain ⟨order, horder⟩ := tapOrder_eq phase
    rw [horder]
    refine resum_first ?_ ?_
    · split <;> omega
    · rw [List.length_map]
      split <;> omega

end Sys2Proof.Machine

/-! What a command leaves alone from a state with nothing under way: a read changes its port, and a layer setting its
port and its layer (R353, R388, R414). -/

namespace Sys2Proof.Machine

/-- Settles O57. -/
theorem quietStatesStay : Obligations.QuietStatesStay := fun _ h => h.settle_eq

/-! ## States that stay quiet -/

theorem Quiet.of_onlyPort {n : Nat} {s t : State} (h : Quiet s) (ht : OnlyPort n s t) : Quiet t := by
  obtain ⟨q, rfl, hrunning, hheld, hrx⟩ := ht
  obtain ⟨irunning, iheld, irx⟩ := h.port_idle n
  refine ⟨h.heads, h.mirrors, h.sends, h.flips, h.commits, h.mantel, fun e he => ?_, h.rings, h.role, h.gather⟩
  rcases mem_tset he with rfl | he
  · exact ⟨hrunning.trans irunning, hheld.trans iheld, hrx.trans irx⟩
  · exact h.ports e he

theorem Quiet.layer_idle {s : State} (h : Quiet s) (i : Nat) :
    s.mirrorDue (s.layer i) = false ∧ (s.layer i).showing = [] ∧ (s.layer i).queue = [] := by
  refine tget_of_forall (P := fun l : Layer => s.mirrorDue l = false ∧ l.showing = [] ∧ l.queue = []) ?_
    (fun e he => ⟨h.mirrors e he, h.flips e he⟩) i
  have hplacing : (({} : Layer).placing != ({} : Layer).heldFor) = false := by decide
  simp [State.mirrorDue, hplacing]

/-- Two layers that differ in how they look, not in where they stand or what they wait for. -/
def SameButLook (a b : Layer) : Prop :=
  b = { a with colour := b.colour, fill := b.fill, policy := b.policy, dyn := b.dyn }

/-- The look of a layer sets nothing going. -/
theorem Quiet.setLayer_look {s : State} (h : Quiet s) {i : Nat} {l : Layer} (hl : SameButLook (s.layer i) l) :
    Quiet (s.setLayer i l) := by
  obtain ⟨hmirror, hshowing, hqueue⟩ := h.layer_idle i
  refine ⟨h.heads, fun e he => ?_, h.sends, fun e he => ?_, h.commits, h.mantel, h.ports, h.rings, h.role, h.gather⟩
  · rcases mem_tset he with rfl | he
    · rw [hl]
      exact hmirror
    · exact h.mirrors e he
  · rcases mem_tset he with rfl | he
    · rw [hl]
      exact ⟨hshowing, hqueue⟩
    · exact h.flips e he

/-! ## A row whose answer comes at once -/

/-- A body's answer is a reply with the state that it met, or one that differs in `p` alone. -/
inductive Answers (p : State → Prop) (u : State) : Res → Prop where
  | ok (cl : Bool) (ws : List Nat) {t : State} (h : p t) : Answers p u (.ok cl ws t)
  | err (st : Nat) : Answers p u (.err st)

namespace Answers

variable {p : State → Prop} {u : State} {c : Cmd} {k : Res}

theorem badLength : Answers p u (badLength c) := .err _

theorem ite {b : Prop} [Decidable b] {k' : Res} (h : Answers p u k) (h' : Answers p u k') :
    Answers p u (if b then k else k') := by
  split
  · exact h
  · exact h'

theorem withLen {n : Nat} (h : Answers p u k) : Answers p u (withLen c n k) := h.ite badLength

theorem safe {b : Bool} (h : Answers p u k) : Answers p u (safe b k) := h.ite (.err _)

theorem withRecord (h : Answers p u k) : Answers p u (withRecord c k) := h.ite (.err _)

theorem withUnit {st : Nat} (h : Answers p u k) : Answers p u (withUnit st k) := by
  unfold Machine.withUnit
  split
  · exact h
  · exact .err _

theorem withLink (h : Answers p u k) : Answers p u (withLink u c k) := (Answers.err _).ite h.withUnit

theorem withInput {v : Nat} (h : Answers p u k) : Answers p u (withInput u v k) := (Answers.err _).ite h.withUnit

theorem withRead {kind i : Nat} (hread : u.mayRead kind i c.master = true) (h : Answers p u k) :
    Answers p u (withRead u c kind i k) := by
  rw [Machine.withRead, if_pos hread]
  exact h

theorem withLayer (hwrite : u.mayWrite 1 (c.p 0) c.master = true) (h : Answers p u k) :
    Answers p u (withLayer u c k) := by
  refine badLength.ite ((Answers.err _).ite ?_)
  rw [withWrite, if_pos hwrite]
  exact h

end Answers

/-- A packet row that is not marked m and answers at once: of a command and a state that meet `H`, its body's answer
has a state that meets `P`, or refuses. -/
structure AnswersAtOnce (r : (Pkt → Instr) × OpSpec) (H : State → Cmd → Prop) (P : State → Cmd → State → Prop) : Prop where
  exec : ∀ p s, exec (r.1 p) s = packet r.2 p s
  plain : ∀ c, r.2.m c = false
  body : ∀ port c u, H u c → Answers (P u c) u (r.2.body port c u)

/-- `v` is `t` after a reply on a port. -/
def Replied (port : Nat) (t v : State) : Prop := ∃ op tag cls sc ws, v = t.sendReply port op tag cls sc ws

/-- The next state of a row that answers at once is settled from the state of its answer, with the reply. -/
theorem exec_answers {r : (Pkt → Instr) × OpSpec} {H : State → Cmd → Prop} {P : State → Cmd → State → Prop}
    (hrow : AnswersAtOnce r H P) {p : Pkt} {s : State} (hready : Ready r.2 p s)
    (hmeets : H (s.taken p) (s.cmdOf r.2.code p)) (hpwr : ∀ t, P (s.taken p) (s.cmdOf r.2.code p) t → t.pwr = s.pwr) :
    ∃ t v, (P (s.taken p) (s.cmdOf r.2.code p) t ∨ t = s.taken p) ∧ Replied p.port t v ∧
      exec (r.1 p) s = .next (settle v) := by
  have hpass : Passes r.2 p s (s.taken p) (s.cmdOf r.2.code p) := ⟨hready, rfl, rfl⟩
  have hbody := hrow.body p.port _ _ hmeets
  cases hres : r.2.body p.port (s.cmdOf r.2.code p) (s.taken p) with
  | ok cl ws t =>
    rw [hres] at hbody
    obtain ⟨_, _, ht⟩ := hbody
    have hnext := exec_ok hpass (hrow.exec p s) hres (by rw [hpwr t ht]; exact hready.up)
    rw [State.replyOk, genStep_plain (hrow.plain _)] at hnext
    exact ⟨t, _, .inl ht, ⟨_, _, _, _, _, rfl⟩, hnext⟩
  | err st => exact ⟨_, _, .inr rfl, ⟨_, _, _, _, _, rfl⟩, exec_err hpass (hrow.exec p s) hres⟩
  | denied | notAdmitted | wait | admission =>
    rw [hres] at hbody
    cases hbody

theorem Replied.onlyPort {n : Nat} {s t v : State} (h : Replied n t v) (ht : OnlyPort n s t) (hg : s.casc.gather = []) :
    OnlyPort n s v := by
  obtain ⟨_, _, _, _, _, rfl⟩ := h
  exact onlyPort_reply ht hg _ _ _ _ _

/-- From a quiet state, what changes one port alone is settled, and the port stays idle. -/
theorem Quiet.settle_onlyPort {n : Nat} {s v : State} (h : Quiet s) (hv : OnlyPort n s v) :
    ∃ q : Port, settle v = { s with ports := tset s.ports n q } ∧ q.running = [] ∧ q.held = [] ∧ q.rx = [] := by
  rw [(h.of_onlyPort hv).settle_eq]
  obtain ⟨q, rfl, hrunning, hheld, hrx⟩ := hv
  obtain ⟨irunning, iheld, irx⟩ := h.port_idle n
  exact ⟨q, rfl, hrunning.trans irunning, hheld.trans iheld, hrx.trans irx⟩

/-! ## Reads -/

/-- A row that reads: where every table admits the master, its body answers with the state it met. -/
abbrev ReadsOnly (r : (Pkt → Instr) × OpSpec) : Prop :=
  AnswersAtOnce r (fun u c => ∀ k i, u.mayRead k i c.master = true) fun u _ t => t = u

theorem readsOnly_linkRead : ReadsOnly (.linkRead, opLinkRead) where
  exec _ _ := rfl
  plain _ := rfl
  body _ c u hread := by
    have hnone : (u.boundTo (c.p 0)).find? (fun h => !u.mayRead 2 h c.master) = none := by simp [hread]
    refine .withLen (.withLink ?_)
    rw [hnone]
    exact .ok _ _ rfl

/-- A row that reads, by what its body answers. -/
theorem readsOnly_of_body {r : (Pkt → Instr) × OpSpec} (hexec : ∀ p s, exec (r.1 p) s = packet r.2 p s)
    (hplain : ∀ c, r.2.m c = false)
    (hbody : ∀ port c u, (∀ k i, u.mayRead k i c.master = true) → Answers (· = u) u (r.2.body port c u)) : ReadsOnly r :=
  ⟨hexec, hplain, hbody⟩

/-- Every read row only reads. -/
theorem readRows_readOnly : ∀ r ∈ readRows, ReadsOnly r := by
  simp only [readRows, List.forall_mem_cons]
  refine ⟨?devIdentify, ?devCaps, ?devTime, ?devNop, ?pwrRead, ?clkRead, ?memRead, ?accRead, ?canvasRead, ?layerRead,
    ?headRead, readsOnly_linkRead, ?inputStatus, ?audioStatus, ?mantelRead, ?verifyRead, ?faultRead, ?irqRead, ?dmaRead,
    ?wearRead, ?repairLedger, ?cascRead, fun _ h => nomatch h⟩
  all_goals refine readsOnly_of_body (fun _ _ => rfl) (fun _ => rfl) fun _ _ _ hread => ?_
  case devNop => exact .ite (.ok _ _ rfl) .badLength
  case clkRead => exact .withLen (.ite (.err _) (.ok _ _ rfl))
  case accRead =>
    exact .withLen (.ite (.err _) (.ite (.ite (.err _) (.ok _ _ rfl)) (.ite (.err _) (.withUnit (.ok _ _ rfl)))))
  case layerRead => exact .ite .badLength (.ite (.err _) (.withRead (hread _ _) (.withLen (.ok _ _ rfl))))
  case headRead => exact .withRead (hread _ _) (.withLen (.ok _ _ rfl))
  case wearRead => exact .withRead (hread _ _) (.withLen (.ok _ _ rfl))
  case inputStatus => exact .withLen (.withInput (.ok _ _ rfl))
  case audioStatus => exact .withLen (.ite (.err _) (.withUnit (.ok _ _ rfl)))
  case mantelRead => exact .safe (.ok _ _ rfl)
  case verifyRead => exact .safe (.ok _ _ rfl)
  case faultRead => exact .withLen (.withRecord (.ok _ _ rfl))
  case dmaRead => exact .ite (.err _) (.withRead (hread _ _) (.withLen (.withUnit (.ok _ _ rfl))))
  all_goals exact .withLen (.ok _ _ rfl)

theorem mayRead_taken (s : State) (p : Pkt) (kind i m : Nat) : (s.taken p).mayRead kind i m = s.mayRead kind i m := by
  obtain ⟨t, b, h⟩ := taken_eq s p
  rw [h]
  rfl

theorem layer_taken (s : State) (p : Pkt) (i : Nat) : (s.taken p).layer i = s.layer i := by
  rw [State.layer, taken_layers, State.layer]

theorem mayWrite_taken (s : State) (p : Pkt) (kind i m : Nat) : (s.taken p).mayWrite kind i m = s.mayWrite kind i m := by
  obtain ⟨t, b, h⟩ := taken_eq s p
  rw [h]
  rfl

theorem cmdOf_master (s : State) (op : Nat) {p : Pkt} (hport : p.port = 16) : (s.cmdOf op p).master = 16 := by
  rw [State.cmdOf, hport]
  rfl

/-- Settles O58: the answer of a read has the state that the packet met, in which the S-port alone has changed. -/
theorem readsChangeTheirPortOnly : Obligations.ReadsChangeTheirPortOnly := by
  intro r hr p s hport hquiet hready hread
  obtain ⟨t, v, ht, hreply, hnext⟩ := exec_answers (readRows_readOnly r hr) hready
    (fun k i => by rw [mayRead_taken, cmdOf_master s _ hport]; exact hread k i) (by rintro _ rfl; simp)
  obtain rfl : t = s.taken p := ht.elim id id
  have hv : OnlyPort 16 s v := hport ▸ hreply.onlyPort (onlyPort_taken s p (by rw [hport]; decide)) hquiet.gather
  rw [hnext]
  obtain ⟨q, hsettle, hidle⟩ := hquiet.settle_onlyPort hv
  exact ⟨q, congrArg _ hsettle, hidle⟩

/-! ## Layer settings -/

/-- A row that sets how its layer looks: its body answers with that layer set, all else as it met it. -/
abbrev SetsLook (r : (Pkt → Instr) × OpSpec) : Prop :=
  AnswersAtOnce r (fun u c => u.mayWrite 1 (c.p 0) c.master = true) fun u c t =>
    ∃ l, SameButLook (u.layer (c.p 0)) l ∧ t = u.setLayer (c.p 0) l

/-- The rows of layer settings. -/
def lookRows : List ((Pkt → Instr) × OpSpec) :=
  [(.layerColour, opLayerColour), (.layerFill, opLayerFill), (.layerPolicy, opLayerPolicy)]

theorem lookRows_setLook : ∀ r ∈ lookRows, SetsLook r := by
  simp only [lookRows, List.forall_mem_cons]
  refine ⟨?colour, ?fill, ?policy, fun _ h => nomatch h⟩
  all_goals
    refine ⟨fun _ _ => rfl, fun _ => rfl, fun _ _ _ hwrite => .withLayer hwrite (.withLen ?_)⟩
    exact .ok _ _ ⟨_, by rfl, rfl⟩

theorem onlyPort_setLayer {n : Nat} {s t : State} (h : OnlyPort n s t) (i : Nat) (l : Layer) :
    OnlyPort n (s.setLayer i l) (t.setLayer i l) := by
  obtain ⟨q, rfl, hwork⟩ := h
  exact ⟨q, rfl, hwork⟩

/-- Settles O59: the answer has the layer set, which leaves a quiet state quiet, and the reply changes the S-port. -/
theorem layerSettingsFrame : Obligations.LayerSettingsFrame := by
  rintro r hr p s c hport hquiet hready rfl hwrite
  obtain ⟨t, v, ht, hreply, hnext⟩ := exec_answers (lookRows_setLook r hr) hready
    (by rw [mayWrite_taken, cmdOf_master s _ hport]; exact hwrite) (by rintro _ ⟨l, -, rfl⟩; simp [State.setLayer])
  have htaken : OnlyPort p.port s (s.taken p) := onlyPort_taken s p (by rw [hport]; decide)
  rw [hnext]
  rcases ht with ⟨l, hlook, rfl⟩ | rfl
  case inl =>
    rw [layer_taken] at hlook
    have hv := hport ▸ hreply.onlyPort (onlyPort_setLayer htaken _ l) hquiet.gather
    obtain ⟨q, hsettle, -⟩ := (hquiet.setLayer_look hlook).settle_onlyPort hv
    exact ⟨q, _, congrArg _ hsettle, fun i hi => tget_tset_ne _ _ _ (Ne.symm hi), l, (tget_tset _ _ _ _).trans hlook⟩
  case inr =>
    have hv : OnlyPort 16 s v := hport ▸ hreply.onlyPort htaken hquiet.gather
    obtain ⟨q, hsettle, -⟩ := hquiet.settle_onlyPort hv
    exact ⟨q, s.layers, congrArg _ hsettle, fun _ _ => rfl, s.layer _, rfl⟩

end Sys2Proof.Machine

/-! The step, the state after reset, and the DEV and PWR commands (R378-R383). -/

namespace Sys2Proof.Machine

/-! ## The step and the reset -/

/-- Settles O45: the queue is the model's own (log entry 8). -/
theorem frontCommandRuns : Obligations.FrontCommandRuns := fun _ _ _ => rfl

/-- Settles O46: one idle cycle moves the time alone (log entry 5). -/
theorem emptyQueueIdles : Obligations.EmptyQueueIdles := fun s hempty =>
  ⟨advance 2 s, by rw [step, hempty], rfl, rfl, rfl, rfl, rfl, rfl, rfl, rfl, rfl, rfl, rfl, rfl, hempty⟩

/-- Every table of the reset state admits the S-port (R414). -/
theorem reset_admits_sPort (k i : Nat) :
    admits (State.reset.objTab k i).rmask 16 = true ∧ admits (State.reset.objTab k i).wmask 16 = true := by
  have hobj (safety : Bool) : admits (objReset safety).rmask 16 = true ∧ admits (objReset safety).wmask 16 = true := by
    cases safety <;> decide
  unfold State.objTab
  split <;> exact hobj _

/-- Settles O47: the reset values are the defaults of the fields. That a head starts with orientation 0 is log entry 3's
choice, and which state stands after reset is log entry 1's. -/
theorem resetValues : Obligations.ResetValues :=
  ⟨fun _ => ⟨rfl, rfl, rfl, rfl⟩, by decide, by decide, rfl, reset_admits_sPort, fun _ => ⟨rfl, rfl⟩,
    fun _ => ⟨rfl, rfl, rfl, rfl⟩, fun _ => rfl, rfl, rfl, rfl⟩

/-! ## Parameters of a command -/

section
variable {c : Cmd} {l : List Nat}

theorem Cmd.n_eq (h : c.params = l) : c.n = l.length := by rw [Cmd.n, h]
theorem Cmd.p_eq (h : c.params = l) (i : Nat) : c.p i = l.getD i 0 := by rw [Cmd.p, h]
theorem Cmd.p64_eq (h : c.params = l) (i : Nat) : c.p64 i = cat64 (l.getD i 0) (l.getD (i + 1) 0) := by
  rw [Cmd.p64, Cmd.p_eq h, Cmd.p_eq h]

theorem withLen_eq {n : Nat} (h : c.params.length = n) (k : Res) : withLen c n k = k := if_pos h

end

section
variable {sp : OpSpec} {p : Pkt} {s u : State} {c : Cmd}

theorem Passes.power (h : Passes sp p s u c) : u.pwr.target = none := by
  obtain ⟨hready, rfl, rfl⟩ := h
  have hbusy := hready.power
  simp only [State.powerBusy, Bool.or_eq_false_iff, Option.isSome_eq_false_iff, Option.isNone_iff_eq_none] at hbusy
  rw [taken_pwr]
  exact hbusy.1

/-! ## DEV (R378-R381) -/

theorem cut_length (n v : Nat) : (cut n v).length = n := by simp [cut]

theorem caps_length (s : State) : s.caps.length = 60 := by
  simp [State.caps, stateWords, cut_length, words64]

theorem dev_identity (h : Passes sp p s u c) : u.identity =
    [(if s.cfg.dies = 2 then 0x9128 else 0x9064) + 65536 * b2n s.cfg.nVariant,
     s.cfg.step0 % 256 + 256 * (if u.dieState 1 = 0 then 0xFF else s.cfg.step1 % 256),
     s.cfg.fw % 2 ^ 24, s.cfg.serial.toNat % 2 ^ 32, s.cfg.serial.toNat / 2 ^ 32 % 2 ^ 32,
     s.cfg.pkgId + 8 * b2n s.cfg.cascMaster,
     u.sealedVersion + 65536 * min 65535 s.mantel.seals,
     s.repair.ledger.length % 65536] := by
  obtain ⟨-, rfl, -⟩ := h
  simp [State.identity, State.part, words64, lo32, hi32]

theorem dev_time (h : Passes sp p s u c) : u.ticks = s.ticks ∧ u.us = s.us := by
  obtain ⟨-, rfl, -⟩ := h
  simp [State.ticks, State.us]

end

/-- Settles O1: each body answers from the state it met. -/
theorem devReadsComplete : Obligations.DevReadsComplete := by
  refine fun p s u c => ⟨fun h hparams => ?_, fun h hparams => ⟨caps_length u, ?_⟩, fun h hparams => ?_, fun h hlen => ?_⟩
  · refine exec_ok h rfl ?_ h.up
    rw [← dev_identity h]
    exact withLen_eq (by rw [hparams]; rfl) _
  · exact exec_ok h rfl (withLen_eq (by rw [hparams]; rfl) _) h.up
  · refine exec_ok h rfl ?_ h.up
    obtain ⟨hticks, hus⟩ := dev_time h
    rw [← hticks, ← hus]
    exact withLen_eq (by rw [hparams]; rfl) _
  · exact exec_ok h rfl (if_pos hlen) h.up

/-! ## The registers by packet (R381) -/

theorem withRead_open {u : State} {c : Cmd} {kind i : Nat} (h : u.mayRead kind i c.master = true) (k : Res) :
    withRead u c kind i k = k := if_pos h

theorem withWrite_open {u : State} {c : Cmd} {kind i : Nat} (h : u.mayWrite kind i c.master = true) (k : Res) :
    withWrite u c kind i k = k := if_pos h

/-- Register pairs whose blocks all admit the master go on (R381). -/
theorem withRegs_open {u : State} {c : Cmd} {k : Res} :
    ∀ {l : List (Nat × Nat)}, (∀ x ∈ l, ∀ r, u.regOf c.idx x.1 = some r →
      r.block = 3 ∨ u.mayWrite r.table.1 r.table.2 c.master = true) → withRegs u c l k = k
  | [], _ => rfl
  | x :: l, h => by
    have hrest : withRegs u c l k = k := withRegs_open fun y hy => h y (List.mem_cons_of_mem _ hy)
    rw [withRegs]
    split
    · exact hrest
    next r hr =>
      rcases h x List.mem_cons_self r hr with hblock | hwrite
      · rw [if_pos hblock, hrest]
      · rw [withWrite_open hwrite, hrest, ite_self]

section
variable {port : Nat} {c : Cmd} {u : State} {a : Nat} {r : RegAt}

theorem bodyDevRegread_absent (hparams : c.params = [a]) (hreg : u.regOf c.idx a = none) :
    bodyDevRegread port c u = .ok (regClamped a) [0] u := by
  simp only [bodyDevRegread, withLen, Cmd.n_eq hparams, Cmd.p_eq hparams]
  simp [hreg]

theorem bodyDevRegread_direct (hparams : c.params = [a]) (hreg : u.regOf c.idx a = some r)
    (hread : u.mayRead r.table.1 r.table.2 c.master = true) (hdirect : (regAddr a).1 = false) :
    bodyDevRegread port c u =
      .ok (regClamped a) [(u.readReg port c.master r true).1] (u.readReg port c.master r true).2 := by
  simp only [bodyDevRegread, withLen, Cmd.n_eq hparams, Cmd.p_eq hparams]
  simp [hreg, withRead_open hread, hdirect]

theorem bodyDevRegread_indirect (hparams : c.params = [a]) (hreg : u.regOf c.idx a = some r)
    (hread : u.mayRead r.table.1 r.table.2 c.master = true) (hindirect : (regAddr a).1 = true)
    (hawake : (u.iaRead c.idx (regAddr a).2).2.1 = false) :
    bodyDevRegread port c u =
      .ok (regClamped a) [(u.iaRead c.idx (regAddr a).2).1] (u.iaRead c.idx (regAddr a).2).2.2 := by
  simp only [bodyDevRegread, withLen, Cmd.n_eq hparams, Cmd.p_eq hparams]
  simp [hreg, withRead_open hread, hindirect, hawake]

end

/-- Settles O2: a register that stands is read behind its table, and the writes go in parameter order. -/
theorem devWritesComplete : Obligations.DevWritesComplete := by
  refine fun p s u c => ⟨fun m h hparams => ?_, fun a h hparams hreg => ?_, fun a r h hparams hreg hread hdirect hup => ?_,
    fun a r h hparams hreg hread hindirect hawake hup => ?_, fun h heven hne hlen hopen hup => ?_⟩
  · refine exec_ok h rfl ?_ h.up
    show bodyDevEvents p.port c u = _
    simp [bodyDevEvents, withLen, applied, Cmd.n_eq hparams, Cmd.p_eq hparams]
  · exact exec_ok h rfl (bodyDevRegread_absent hparams hreg) h.up
  · exact exec_ok h rfl (bodyDevRegread_direct hparams hreg hread hdirect) hup
  · exact exec_ok h rfl (bodyDevRegread_indirect hparams hreg hread hindirect hawake) hup
  · refine exec_ok h rfl ?_ hup
    have hn : ¬(c.n % 2 = 1 ∨ c.n = 0 ∨ 16 < c.n) := by
      have hpos := List.length_pos_iff.mpr hne
      unfold Cmd.n
      omega
    exact (if_neg hn).trans (withRegs_open hopen)

/-! ## PWR (R382, R383) -/

theorem code_of_ofCode {v : Nat} {t : PState} (h : PState.ofCode v = some t) : t.code = v := by
  unfold PState.ofCode at h
  split at h <;> cases h <;> rfl

theorem ofCode_beyond {v : Nat} (h : 5 ≤ v) : PState.ofCode v = none := by
  obtain ⟨k, rfl⟩ := Nat.exists_eq_add_of_le' h
  rfl

section
variable {port v : Nat} {c : Cmd} {u : State} {t : PState}

/-- A target of the list that nothing stands against: a wake source that fires turns a sleep back (R382, R511). -/
theorem bodyPwrSet_allowed (hparams : c.params = [v]) (hcode : PState.ofCode v = some t) (hstart : u.starting = false)
    (htarget : u.pwr.target = none) (hallowed : u.pwrAllowed t c.cls = stOk)
    (harmed : t = .ready ∨ t.sleep = true → c.cls = clsH → u.anyArmed = false) (hbusy : t.sleep = true → u.sleepBusy = false) :
    bodyPwrSet port c u =
      if t.sleep = true ∧ u.pwr.wakeNow &&& u.pwr.wakeMask ≠ 0 then .ok false [u.pwr.state.code, 1] u
      else .ok false [t.code, 0] (u.decide t 0x0201) := by
  have harmed' : ¬((t = .ready ∨ t.sleep = true) ∧ c.cls = clsH ∧ u.anyArmed = true) := fun ⟨ht, hcls, harm⟩ => by
    rw [harmed ht hcls] at harm
    exact Bool.false_ne_true harm
  have hbusy' : ¬(t.sleep = true ∧ u.sleepBusy = true) := fun ⟨ht, hb⟩ => by
    rw [hbusy ht] at hb
    exact Bool.false_ne_true hb
  simp only [bodyPwrSet, withLen, Cmd.n_eq hparams, Cmd.p_eq hparams, List.getD_cons_zero, hcode, hstart, htarget, hallowed,
    if_neg harmed', if_neg hbusy']
  simp

theorem bodyPwrSet_beyond (hparams : c.params = [v]) (hv : 5 ≤ v) :
    bodyPwrSet port c u = .ok true [u.pwr.state.code, 0] u := by
  simp [bodyPwrSet, withLen, Cmd.n_eq hparams, Cmd.p_eq hparams, ofCode_beyond hv]

end

/-- Settles O3: what stands against a target of the list, in the order of its checks. -/
theorem pwrCommandsComplete : Obligations.PwrCommandsComplete := by
  refine fun p s u c => ⟨fun v t h hparams hcode hstart hallowed harmed hsleep => ?_,
    fun v t h hparams hcode hsleep hstart hallowed harmed hbusy hwake => ?_, fun v h hparams hv => ?_, fun v h hparams => ?_,
    fun h hparams => ?_⟩
  · refine exec_ok h rfl ?_ h.up
    show bodyPwrSet p.port c u = _
    rw [bodyPwrSet_allowed hparams hcode hstart h.power hallowed harmed fun ht => (hsleep ht).1,
      if_neg fun ⟨ht, hwake⟩ => hwake (hsleep ht).2, code_of_ofCode hcode]
    rfl
  · refine exec_ok h rfl ?_ h.up
    show bodyPwrSet p.port c u = _
    rw [bodyPwrSet_allowed hparams hcode hstart h.power hallowed (fun _ => harmed) fun _ => hbusy, if_pos ⟨hsleep, hwake⟩]
  · exact exec_ok h rfl (bodyPwrSet_beyond (port := p.port) hparams hv) h.up
  · refine exec_ok h rfl ?_ h.up
    show bodyPwrWake p.port c u = _
    simp [bodyPwrWake, withLen, applied, Cmd.n_eq hparams, Cmd.p_eq hparams]
  · exact exec_ok h rfl (withLen_eq (by rw [hparams]; rfl) _) h.up

end Sys2Proof.Machine

/-! The CLK, MEM, ACC and CANVAS commands (R384-R387). -/

namespace Sys2Proof.Machine

/-! ## Admission of a row that is not marked m -/

theorem withUnit_inService (k : Res) : withUnit 1 k = k := rfl

theorem applied_nil (given done : List Nat) (s : State) : applied given done [] s = .ok (decide (given ≠ done)) done s := by
  rw [applied, List.append_nil]

theorem decide_min_one (d : Nat) : decide (min 1 d = 1) = decide (d ≠ 0) := decide_eq_decide.mpr (by omega)

section
variable {sp : OpSpec} {s u t : State} {port : Nat} {c : Cmd} {cl : Bool} {ws : List Nat}

/-- An admitted change of a row that is not marked m (R160, R545). -/
theorem exec_judged_plain (h : Judged sp s u port c) (ho : opOf sp.code = some sp) (hm : sp.m c = false)
    (hb : sp.judge port c u = .ok cl ws t) (ha : admissionFails u t = none) :
    exec .admissionComplete s = .next (settle (t.replan.finish port c (replyWord stOk cl 0 :: ws))) := by
  rw [exec_judged h ho hb ha, genStep_plain hm]

theorem exec_judged_wait_plain (h : Judged sp s u port c) (ho : opOf sp.code = some sp) (hm : sp.m c = false)
    (hb : sp.judge port c u = .wait t) (ha : admissionFails u t = none) :
    exec .admissionComplete s = .next (settle t.replan) := by
  rw [exec_judged_wait h ho hb ha, genStep_plain hm]

end

/-! ## CLK (R384) -/

section
variable {port : Nat} {c : Cmd} {u : State}

theorem bodyClkSeed_present {k sd d : Nat} (hparams : c.params = [k, sd, d]) (hk : k < 140)
    (hdie : u.dieState (synthDie k) = 1) :
    bodyClkSeed port c u = .ok (decide ([sd, d] ≠ [max 1 (min 8388607 sd), min 1 d]))
      [k, max 1 (min 8388607 sd), min 1 d]
      (u.modSynth k fun y => { y with nextSeed := some (max 1 (min 8388607 sd), decide (d ≠ 0)) }) := by
  simp only [bodyClkSeed, withLen, Cmd.n_eq hparams, Cmd.p_eq hparams, List.getD_cons_zero, List.getD_cons_succ, hdie,
    withUnit_inService, applied, if_neg (Nat.not_le.mpr hk), decide_min_one]
  simp [hparams]

/-- Parameters that are as they were leave the conditioner as it is (R304). -/
theorem bodyClkGenlock_same {e f tg : Nat} (hparams : c.params = [e, f, tg])
    (hsame : (u.clk.genlock.enable ↔ e ≠ 0) ∧ (u.clk.genlock.falling ↔ f ≠ 0) ∧
      u.clk.genlock.tg = clampN 5000 1000000000 tg) :
    bodyClkGenlock port c u = .ok (decide ([e, f, tg] ≠ [min 1 e, min 1 f, clampN 5000 1000000000 tg]))
      [min 1 e, min 1 f, clampN 5000 1000000000 tg] u := by
  rw [ne_eq, ne_eq] at hsame
  simp [bodyClkGenlock, withLen, applied, Cmd.n_eq hparams, Cmd.p_eq hparams, hparams, hsame]

/-- The conditioner that new parameters start (R304). -/
def newGenlock (e f tg : Nat) (g : Genlock) : Genlock :=
  { enable := decide (e ≠ 0), falling := decide (f ≠ 0), tg := clampN 5000 1000000000 tg, glitches := g.glitches }

/-- Other parameters start it anew, and its followers coast where its input was valid (R304). -/
theorem bodyClkGenlock_new {e f tg : Nat} {t : State} (hparams : c.params = [e, f, tg])
    (hnew : ¬((u.clk.genlock.enable ↔ e ≠ 0) ∧ (u.clk.genlock.falling ↔ f ≠ 0) ∧
      u.clk.genlock.tg = clampN 5000 1000000000 tg))
    (ht : t = { u with clk := { u.clk with genlock := newGenlock e f tg u.clk.genlock } }) :
    bodyClkGenlock port c u = .ok (decide ([e, f, tg] ≠ [min 1 e, min 1 f, clampN 5000 1000000000 tg]))
      [min 1 e, min 1 f, clampN 5000 1000000000 tg]
      (if u.clk.genlock.valid then t.leaderLost .genlock 0 0 else t) := by
  subst ht
  rw [ne_eq, ne_eq] at hnew
  simp [bodyClkGenlock, withLen, applied, Cmd.n_eq hparams, Cmd.p_eq hparams, hparams, hnew, newGenlock]

end

/-- Settles O4. -/
theorem clkCommandsComplete : Obligations.ClkCommandsComplete := by
  refine fun p s u c => ⟨fun k sd d h hparams hk hdie => ?_, fun e f tg h hparams hsame => ?_,
    fun e f tg t h hparams hnew ht hup => ?_, fun w h hparams hok => ?_, fun r h hparams hr => ?_, fun hz h hparams => ?_,
    fun port hz h hparams hadm => ?_⟩
  · exact exec_ok h rfl (bodyClkSeed_present (port := p.port) hparams hk hdie) h.up
  · exact exec_ok h rfl (bodyClkGenlock_same (port := p.port) hparams hsame) h.up
  · refine exec_ok h rfl (bodyClkGenlock_new (port := p.port) hparams hnew ht) ?_
    split
    · exact hup
    · rw [ht]; exact h.up
  · refine exec_ok h rfl ?_ h.up
    show bodyClkReflost p.port c u = _
    simp [bodyClkReflost, withLen, applied, Cmd.n_eq hparams, Cmd.p_eq hparams, hok, hparams]
    rfl
  · refine exec_ok h rfl ?_ h.up
    show bodyClkRead p.port c u = _
    simp [bodyClkRead, withLen, Cmd.n_eq hparams, Cmd.p_eq hparams, hr]
  · exact exec_admission h rfl (withLen_eq (by rw [hparams]; rfl) _)
  · have htarget : regionTarget c = clampN 400000000 1100000000 hz := by rw [regionTarget, Cmd.p_eq hparams]; rfl
    rw [← htarget] at hadm ⊢
    refine exec_judged_plain h rfl rfl ?_ hadm
    show judgeClkRegion port c u = _
    simp [judgeClkRegion, applied, hparams]

/-! ## CLK.HEEL (R299, R302, R303) -/

section
variable {port key idx : Nat} {c : Cmd} {u : State} {w : List Nat}

theorem withStreams_kept {old new : State} (h : old.streamOver new = none) (k : Res) : withStreams old new k = k := by
  rw [withStreams, h]

/-- What CLK.HEEL does to a Heel of a head or group, once its leader can lead and the chains stay short. -/
def heelAnswer (u : State) (c : Cmd) (w : List Nat) (key idx : Nat) : Res :=
  if key < 128 ∧ (u.head key).stretching = true then
    applied c.params w [] (u.modHeel key fun l => { l with held := some (w.set 3 idx) })
  else withDirect u (u.setHeelWords key (w.set 3 idx)) (applied c.params w [] (u.setHeelWords key (w.set 3 idx)))

theorem bodyClkHeel_eq (hlen : c.params.length = 11) (hw : w = heelWords c)
    (hkey : key = if w.getD 0 0 = 1 then 256 + c.p 1 else c.idx)
    (hidx : idx = if w.getD 2 0 = 3 then u.leaderHead port (w.getD 3 0) else w.getD 3 0)
    (hlevel : c.level = 0 ∧ w.getD 0 0 = 1 ∧ c.p 1 < 32 ∨ c.level = 4 ∧ w.getD 0 0 = 0 ∧ u.mayWrite 2 c.idx c.master = true)
    (hinput : w.getD 2 0 = 2 → u.inputState idx = 1)
    (hhead : w.getD 2 0 = 3 → idx < 128 ∧ u.mayRead 2 idx c.master = true ∧ u.headState idx = 1 ∨
      128 ≤ idx ∧ (u.cSession = true ∨ u.isMember ((idx - 1024) / 128) = true) ∧
        u.streamOver (u.setHeelWords key (w.set 3 idx)) = none)
    (hrole : u.role = 2 → port = 18 ∨ w.getD 0 0 = 0 ∧ w.getD 2 0 ≠ 4 ∧ (w.getD 2 0 = 3 → idx < 128))
    (hchains : (u.setHeelWords key (w.set 3 idx)).chainsOk = true) :
    bodyClkHeel port c u = heelAnswer u c w key idx := by
  have hrefused : ¬(u.role = 2 ∧ port ≠ 18 ∧ (w.getD 0 0 = 1 ∨ w.getD 2 0 = 4 ∨ w.getD 2 0 = 3 ∧ 128 ≤ idx)) := by
    rintro ⟨hr, hp, hmaster⟩
    obtain ⟨h0, h4, h3⟩ := (hrole hr).resolve_left hp
    rcases hmaster with h | h | ⟨h, h'⟩
    · omega
    · exact h4 h
    · exact absurd (h3 h) (by omega)
  have hscope : ¬(w.getD 0 0 = 1) ≠ (c.level = 0) := by
    rw [ne_eq, Classical.not_not, eq_iff_iff]
    omega
  have hgroup : ¬(w.getD 0 0 = 1 ∧ 32 ≤ c.p 1) := by omega
  have hopen (k : Res) : (if c.level = 4 then withWrite u c 2 c.idx k else k) = k := by
    rcases hlevel with ⟨h0, -, -⟩ | ⟨-, -, hwrite⟩
    · rw [if_neg (by omega)]
    · rw [withWrite_open hwrite, ite_self]
  unfold bodyClkHeel
  simp only [← hw, ← hkey, ← hidx, decide_eq_true_eq]
  rw [if_neg hscope, if_neg hgroup, if_neg hrefused, hopen, withLen_eq hlen]
  generalize w.getD 2 0 = kind at hinput hhead
  by_cases h3 : kind = 3
  · rcases hhead h3 with ⟨hnear, hread, hstate⟩ | ⟨hfar, hmember, hstreams⟩
    · simp [h3, hread, hstate, hchains, Nat.not_le.mpr hnear, heelAnswer]
    · have hknown : ¬(u.cSession = false ∧ u.isMember ((idx - 1024) / 128) = false) := fun ⟨hc, hm⟩ => by
        rw [hc, hm] at hmember
        simp at hmember
      simp [h3, hfar, hchains, hknown, withStreams_kept hstreams, heelAnswer]
  · have hin : ¬(kind = 2 ∧ u.inputState idx ≠ 1) := fun ⟨h2, hstate⟩ => hstate (hinput h2)
    simp only [h3, false_and, if_false, or_false, if_neg hin, hchains, decide_false, Bool.not_true, Bool.false_eq_true, heelAnswer]

theorem setHeelWords_pwr (s : State) (key : Nat) (w : List Nat) : (s.setHeelWords key w).pwr = s.pwr := rfl

end

/-- Settles O5: the leader index and the Heel's key are those of log entry 27, the streams of deep pairs those of log
entry 137. -/
theorem heelCommandCompletes : Obligations.HeelCommandCompletes := by
  intro p s u c w key idx h hlen hw hkey hidx hlevel hinput hhead hrole hchains
  have hanswer := bodyClkHeel_eq (port := p.port) hlen hw hkey hidx hlevel hinput hhead hrole hchains
  refine ⟨fun hfree hdirect => ?_, fun hkey hstretch => ?_⟩
  · have hfree' : ¬(key < 128 ∧ (u.head key).stretching = true) := fun ⟨hk, hs⟩ => by
      rw [hfree hk] at hs
      exact Bool.false_ne_true hs
    rw [heelAnswer, if_neg hfree', withDirect_kept hdirect] at hanswer
    exact exec_ok h rfl (hanswer.trans (applied_nil _ _ _)) h.up
  · rw [heelAnswer, if_pos ⟨hkey, hstretch⟩] at hanswer
    exact exec_ok h rfl (hanswer.trans (applied_nil _ _ _)) h.up

/-! ## MEM (R385) -/

/-- Settles O6. A rate that is in force already steps all the same (log entry 37). -/
theorem memCommandsComplete : Obligations.MemCommandsComplete := by
  refine fun p s u c => ⟨fun r h hparams hidle => ?_, fun r h hparams hbusy => ?_, fun port t h ht hadm => ?_,
    fun th h hparams => ?_, fun first n cl es h hparams hclass hes => ?_, fun h hparams => ?_⟩
  · refine exec_admission h rfl ?_
    show bodyMemRate p.port c u = _
    simp [bodyMemRate, withLen, Cmd.n_eq hparams, hidle]
  · refine exec_err h rfl ?_
    show bodyMemRate p.port c u = _
    simp [bodyMemRate, withLen, Cmd.n_eq hparams, Option.isSome_iff_ne_none.mpr hbusy]
  · subst ht
    exact exec_judged_wait_plain h rfl rfl rfl hadm
  · refine exec_ok h rfl ?_ h.up
    show bodyMemRowprot p.port c u = _
    simp [bodyMemRowprot, withLen, applied, Cmd.n_eq hparams, Cmd.p_eq hparams, hparams]
  · refine exec_ok h rfl ?_ ?_
    · show bodyMemErrlog p.port c u = _
      subst hes
      rcases Nat.eq_zero_or_pos cl with rfl | hcl
      · simp [bodyMemErrlog, withLen, Cmd.n_eq hparams, Cmd.p_eq hparams, hparams]
      · have hclear : min 1 cl = 1 := by omega
        have hclears : cl ≠ 0 := Nat.ne_of_gt hcl
        simp [bodyMemErrlog, withLen, Cmd.n_eq hparams, Cmd.p_eq hparams, hparams, hclear, hclass.resolve_left hclears, hclears]
    · split
      · exact h.up
      · exact h.up
  · exact exec_ok h rfl (withLen_eq (by rw [hparams]; rfl) _) h.up

/-! ## ACC and CANVAS (R386, R387) -/

theorem forgetBands_pwr (s : State) (g band n : Nat) : (s.forgetBands g band n).pwr = s.pwr := by
  unfold State.forgetBands
  split <;> rfl

@[simp] theorem setWindow_pwr (s : State) (g n : Nat) (w : Window) : (s.setWindow g n w).pwr = s.pwr := by
  unfold State.setWindow
  dsimp only
  split
  · rfl
  · split <;> simp only [forgetBands_pwr] <;> rfl

section
variable {port : Nat} {c : Cmd} {u : State}

theorem bodyAccWindow_fits {w : Window} (hlen : c.params.length = 10)
    (hw : w = windowOf c (tget {} (u.windows c.idx) (c.p 0)).prot)
    (hindex : c.p 0 ≤ 255) (horder : c.p 5 ≤ 3) (hbase : c.p64 1 < regionData) (hend : c.p64 1 + c.p64 3 ≤ regionData)
    (hapart : ∀ e ∈ u.windows c.idx, e.1 ≠ c.p 0 → e.2.overlaps w = false)
    (hprot : u.protectedOk c.idx (c.p 0) w = true) :
    bodyAccWindow port c u =
      .ok false (words64 (c.p64 1 / bandBytes * bandBytes) ++ words64 (w.bands * bandBytes)) (u.setWindow c.idx (c.p 0) w) := by
  have hrange : ¬(255 < c.p 0 ∨ 3 < c.p 5 ∨ regionData ≤ c.p64 1 ∨ regionData < c.p64 1 + c.p64 3) := by omega
  have hfree : (u.windows c.idx).any (fun e => e.1 ≠ c.p 0 && e.2.overlaps w) = false := by
    rw [List.any_eq_false]
    intro e he
    by_cases hne : e.1 = c.p 0
    · simp [hne]
    · simp [hapart e he hne]
  simp only [bodyAccWindow, withLen_eq hlen, ← hw, if_neg hrange, hfree, hprot]
  simp

/-- The masks of an object with the S-port's bit forced (R413). -/
theorem bodyAccTable_present {rm wm : BitVec 64} {t : State} (hlen : c.params.length = 6) (hkind : c.p 0 ≤ 3)
    (hindex : c.p 1 < objCount (c.p 0)) (hstate : u.objState (c.p 0) (c.p 1) = 1)
    (hrm : rm = BitVec.ofNat 64 (c.p64 2) ||| 0x10000#64) (hwm : wm = BitVec.ofNat 64 (c.p64 4) ||| 0x10000#64)
    (ht : t = u.setObjTab (c.p 0) (c.p 1) { rmask := rm, wmask := wm }) :
    bodyAccTable port c u = .ok false ([c.p 0, c.p 1] ++ words64 rm.toNat ++ words64 wm.toNat)
      (if c.p 0 = 1 then t.cancelFlips (c.p 1) fun f =>
          admits (u.objTab (c.p 0) (c.p 1)).wmask (t.portMaster f.issuer) && !admits wm (t.portMaster f.issuer)
        else t) := by
  have hrange : ¬(3 < c.p 0 ∨ objCount (c.p 0) ≤ c.p 1) := by omega
  subst ht hrm hwm
  simp only [bodyAccTable, withLen_eq hlen, if_neg hrange, hstate, withUnit_inService]
  rfl

theorem bodyAccRead_window {i : Nat} {w : Window} (hparams : c.params = [4, i]) (hlevel : c.level = 2) (hi : i ≤ 255)
    (hw : w = tget {} (u.windows c.idx) i) :
    bodyAccRead port c u = .ok false ([i] ++ words64 (w.band * bandBytes) ++ words64 (w.bands * bandBytes) ++ [w.order] ++
      words64 w.rmask.toNat ++ words64 w.wmask.toNat) u := by
  subst hw
  simp [bodyAccRead, withLen, Cmd.n_eq hparams, Cmd.p_eq hparams, hlevel, hi]

theorem bodyAccRead_object {k i : Nat} (hparams : c.params = [k, i]) (hlevel : c.level = 0) (hk : k ≤ 3)
    (hi : i < objCount k) (hstate : u.objState k i = 1) :
    bodyAccRead port c u =
      .ok false ([k, i] ++ words64 (u.objTab k i).rmask.toNat ++ words64 (u.objTab k i).wmask.toNat) u := by
  have hk4 : ¬ 4 < k := by omega
  have hkne : k ≠ 4 := by omega
  simp [bodyAccRead, withLen, Cmd.n_eq hparams, Cmd.p_eq hparams, hlevel, hi, hk4, hkne, hstate, withUnit_inService]

/-- The origin that CANVAS.WINDOW applies: that of a package alone is (0, 0) (R46, log entry 38). -/
theorem bodyCanvasWindow_eq {x y x' y' : Nat} (hparams : c.params = [x, y]) (hframed : u.framed = false)
    (horigin : (x', y') = if u.role = 0 ∨ u.role ≠ 2 ∧ u.casc.members = [] then (0, 0)
      else (min 65528 (x / 8 * 8), min 65528 (y / 8 * 8))) :
    bodyCanvasWindow port c u = .ok (decide ([x, y] ≠ [x', y'])) [x', y']
      ({ u with wx := x', wy := y', windowSet := true } : State).clampHeads := by
  split at horigin
  case isTrue halone =>
    cases horigin
    simp [bodyCanvasWindow, withLen, applied, Cmd.n_eq hparams, hparams, hframed, halone]
  case isFalse hmany =>
    cases horigin
    simp [bodyCanvasWindow, withLen, applied, Cmd.n_eq hparams, Cmd.p_eq hparams, hparams, hframed, hmany]

end

/-- Settles O7. That CANVAS.WINDOW of a package alone is accepted and clamped is log entry 38, what a window keeps of its
content log entry 39. -/
theorem accessCommandsComplete : Obligations.AccessCommandsComplete := by
  refine fun p s u c => ⟨fun w h hlen hw hindex horder hbase hend hapart hprot => ?_,
    fun rm wm t h hlen hkind hindex hstate hrm hwm ht => ?_, fun i w h hparams hlevel hi hw => ?_,
    fun k i h hparams hlevel hk hi hstate => ?_, fun x y x' y' h hparams hframed horigin => ?_,
    fun x y h hparams hframed => ?_, fun h hparams => ?_⟩
  · refine exec_ok h rfl (bodyAccWindow_fits (port := p.port) hlen hw hindex horder hbase hend hapart hprot) ?_
    rw [setWindow_pwr]
    exact h.up
  · have hbody := bodyAccTable_present (port := p.port) hlen hkind hindex hstate hrm hwm ht
    refine ⟨fun hother => ?_, fun hlayer v hv hup => ?_⟩
    · rw [if_neg hother] at hbody
      exact exec_ok h rfl hbody (by rw [ht]; exact h.up)
    · rw [if_pos hlayer, hlayer, ← hv] at hbody
      exact exec_ok h rfl hbody hup
  · exact exec_ok h rfl (bodyAccRead_window (port := p.port) hparams hlevel hi hw) h.up
  · exact exec_ok h rfl (bodyAccRead_object (port := p.port) hparams hlevel hk hi hstate) h.up
  · exact exec_ok h rfl (bodyCanvasWindow_eq (port := p.port) hparams hframed horigin) h.up
  · refine exec_err h rfl ?_
    show bodyCanvasWindow p.port c u = _
    simp [bodyCanvasWindow, withLen, Cmd.n_eq hparams, hframed]
  · exact exec_ok h rfl (withLen_eq (by rw [hparams]; rfl) _) h.up

end Sys2Proof.Machine

/-! The LAYER commands (R56, R85, R98, R106, R148, R388, R389). -/

namespace Sys2Proof.Machine

section
variable {port : Nat} {c : Cmd} {u : State}

/-- A command of `n` parameters, at least one, on a layer that it may write goes on. -/
theorem withLayer_withLen {n : Nat} (hlen : c.params.length = n) (hn : n ≠ 0) (hopen : layerOpen u c) (k : Res) :
    withLayer u c (withLen c n k) = k := by
  have hne : c.params ≠ [] := fun h => hn (by rw [← hlen, h]; rfl)
  rw [withLayer_open hopen hne, withLen_eq hlen]

/-! ## Changes that admission judges -/

theorem withReduced_some {v t : State} {li : Nat} (h : v.reduce li = some t) (k : State → Res) :
    withReduced v li k = k t := by
  rw [withReduced, h]

/-- LAYER.PLACE, judged: a holder without a window refuses it (R66), else the reduced placement is applied. -/
theorem judgeLayerPlace_eq {a : Place} {v t : State} (ha : a = clampPlace (u.layer (c.p 0)).source c.place)
    (hv : v = u.modLayer (c.p 0) fun l => ({ l with requested := some c.place, applied := a } : Layer).unreduced)
    (hplacing : placingKept u v) (hdirect : directKept u v) (hreduce : v.reduce (c.p 0) = some t) :
    judgeLayerPlace port c u = if u.windowless (c.p 0) = true then .err stNoResource
      else .ok (decide (c.params ≠ c.p 0 :: a.words)) (c.p 0 :: a.words ++ t.placeExtra (c.p 0)) t := by
  subst ha hv
  rw [judgeLayerPlace, withPlacing_kept hplacing, withDirect_kept hdirect, withHolders, withReduced_some hreduce]
  rfl

theorem judgeLayerScale_eq {v t : State}
    (hv : v = u.modLayer (c.p 0) fun l => ({ l with scale := .ofWords (scaleWords c) } : Layer).unreduced)
    (hreduce : v.reduce (c.p 0) = some t) :
    judgeLayerScale port c u =
      .ok (decide (c.params ≠ c.p 0 :: scaleWords c)) (c.p 0 :: scaleWords c ++ t.placeExtra (c.p 0)) t := by
  subst hv
  exact withReduced_some hreduce _

theorem judgeLayerSource_eq {src : Source} {v t : State} (hsrc : src = sourceOf c)
    (hv : v = (u.cancelFlips (c.p 0) fun _ => true).modLayer (c.p 0) (·.resourced src))
    (ht : t = if src.format = 9 then { v with palettes := tdel v.palettes (c.p 0) } else v)
    (hplacing : placingKept u t) (hdirect : directKept u t) :
    judgeLayerSource port c u = .ok (decide (c.params ≠ c.p 0 :: src.words)) (c.p 0 :: src.words) t := by
  subst hsrc hv ht
  exact (withPlacing_kept hplacing).trans ((withDirect_kept hdirect).trans (applied_nil _ _ _))

/-! ## LAYER.FLIP -/

/-- A flip that is queued: the reply ends with the number of entries (R148). -/
theorem queueFlip_eq {l : Layer} (hl : l = u.layer (c.p 0)) : ∃ cl ws,
    u.queueFlip port c = .ok cl (ws ++ [l.queue.length + 1])
      (u.setLayer (c.p 0) { l with queue := l.queue ++ [flipOf port c l.source] }) := by
  subst hl
  exact ⟨_, _, rfl⟩

/-- The checks of LAYER.FLIP past its length, on a placed layer (R65, R148, R154). -/
theorem bodyLayerFlip_placed {l : Layer} (hopen : layerOpen u c) (hl : l = u.layer (c.p 0))
    (hlen : c.params.length = 6 + 2 * fmtPlanes l.source.format) (hplaced : l.placed = true) :
    bodyLayerFlip port c u =
      if l.bindMode ≠ 0 then .err stNotPermitted
      else if u.role = 2 ∧ port ≠ 18 ∧ l.shared = true then .err stNotPermitted
      else if u.flipBusy (c.p 0) (bits (c.p 1) 15 0) = true then .err stTagBusy
      else if 4 ≤ l.queue.length then .err stBusy
      else if (regionsOf (flipOf port c l.source).bases).all
         (regionsOf ((l.current.map (·.bases)).getD [])).contains = true then u.queueFlip port c
      else .admission := by
  subst hl
  rw [bodyLayerFlip, withLayer_withLen hlen (by omega) hopen]
  simp only [hplaced, Bool.not_true, Bool.false_eq_true, if_false]

/-- A flip of a placed layer with a free ID and room: queued at once where its planes lie in regions of the current
buffer, else submitted (R154). -/
theorem bodyLayerFlip_free {l : Layer} (hopen : layerOpen u c) (hl : l = u.layer (c.p 0))
    (hlen : c.params.length = 6 + 2 * fmtPlanes l.source.format) (hplaced : l.placed = true) (hbind : l.bindMode = 0)
    (hown : u.role = 2 → port ≠ 18 → l.shared = false) (hid : u.flipBusy (c.p 0) (bits (c.p 1) 15 0) = false)
    (hroom : l.queue.length < 4) :
    bodyLayerFlip port c u =
      if ∀ b ∈ regionsOf (flipOf port c l.source).bases, b ∈ regionsOf ((l.current.map (·.bases)).getD []) then
        u.queueFlip port c
      else .admission := by
  have hown' : ¬(u.role = 2 ∧ port ≠ 18 ∧ l.shared = true) := fun ⟨hr, hp, hs⟩ => by
    rw [hown hr hp] at hs
    exact Bool.false_ne_true hs
  rw [bodyLayerFlip_placed hopen hl hlen hplaced, if_neg (not_not_intro hbind), if_neg hown', hid,
    if_neg Bool.false_ne_true, if_neg (Nat.not_le.mpr hroom)]
  simp only [List.all_eq_true, List.contains_iff_mem]

theorem judgeLayerFlip_room {l : Layer} (hl : l = u.layer (c.p 0)) (hroom : l.queue.length < 4) (hplaced : l.placed = true) :
    judgeLayerFlip port c u = u.queueFlip port c := by
  subst hl
  rw [judgeLayerFlip, if_neg (Nat.not_le.mpr hroom), if_pos hplaced]

end

/-- Settles O8. Which package has a window for a copy is a free value (log entry 83); that a follower refuses a flip of a
layer which its master flips is R65 as log entry 134 reads it; what SOURCE and REMOVE keep is log entries 46 and 47. -/
theorem layerChangesComplete : Obligations.LayerChangesComplete := by
  refine fun p s u c => ⟨fun h hlen hopen => ?_, fun h hlen hopen => ?_, fun h hlen hopen => ?_, fun h hlen hopen => ?_,
    fun l f h hopen hl hf hlen hplaced hbind hown hid hroom => ?_, fun l h hopen hl hlen hplaced hrole hport hshared => ?_,
    fun port a v t h ha hv hplacing hdirect hreduce hadm => ?_, fun port v t h hv hreduce hadm => ?_,
    fun port t h ht hadm => ?_, fun port src v t h hsrc hv ht hplacing hdirect hadm => ?_,
    fun port l t cl ws h hl hroom hplaced hqueue hadm => ?_⟩
  · exact exec_admission h rfl (withLayer_withLen hlen (by decide) hopen _)
  · exact exec_admission h rfl (withLayer_withLen hlen (by decide) hopen _)
  · exact exec_admission h rfl (withLayer_withLen hlen (by decide) hopen _)
  · exact exec_admission h rfl (withLayer_withLen hlen (by omega) hopen _)
  · have hbody := bodyLayerFlip_free (port := p.port) hopen hl hlen hplaced hbind hown hid hroom
    rw [← hf] at hbody
    refine ⟨fun ⟨b, hb, hnew⟩ => ?_, fun hsame => ?_⟩
    · exact exec_admission h rfl (hbody.trans (if_neg fun hall => hnew (hall b hb)))
    · obtain ⟨cl, ws, hqueue⟩ := queueFlip_eq (port := p.port) hl
      rw [← hf] at hqueue
      exact ⟨cl, ws, exec_ok h rfl (hbody.trans ((if_pos hsame).trans hqueue)) h.up⟩
  · refine exec_err h rfl ((bodyLayerFlip_placed (port := p.port) hopen hl hlen hplaced).trans ?_)
    rw [if_pos (⟨hrole, hport, hshared⟩ : u.role = 2 ∧ p.port ≠ 18 ∧ l.shared = true), ite_self]
  · have hjudge := judgeLayerPlace_eq (port := port) ha hv hplacing hdirect hreduce
    split
    case isTrue hnone => exact exec_judged_err h rfl (hjudge.trans (if_pos hnone))
    case isFalse hsome => exact exec_judged h rfl (hjudge.trans (if_neg hsome)) hadm
  · exact exec_judged_plain h rfl rfl (judgeLayerScale_eq (port := port) hv hreduce) hadm
  · subst ht
    exact exec_judged h rfl rfl hadm
  · exact exec_judged_plain h rfl rfl (judgeLayerSource_eq (port := port) hsrc hv ht hplacing hdirect) hadm
  · exact exec_judged_plain h rfl rfl ((judgeLayerFlip_room (port := port) hl hroom hplaced).trans hqueue) hadm

/-! ## Settings (R114, R133, R152, R388) -/

theorem Fill.ofWords_eq (a b : Nat) :
    Fill.ofWords a b = { c0 := a % 65536, c1 := a / 65536 % 65536, c2 := b % 65536, a := b / 65536 % 65536 } := by
  simp [Fill.ofWords, bits]

section
variable {port : Nat} {c : Cmd} {u : State}

/-- Where the staging copy holds nothing, or unfinished content of the same set, a load goes on (R389). -/
theorem withStage_same {α : Type} {st : Option (Nat × α)} {i : Nat} (h : ∀ e, st = some e → e.1 = i) (k : Res) :
    withStage st i k = k := by
  cases st with
  | none => rfl
  | some e => exact if_pos (h e rfl)

theorem withStage_other {α : Type} {st : Option (Nat × α)} {i : Nat} {e : Nat × α} (he : st = some e) (h : e.1 ≠ i)
    (k : Res) : withStage st i k = .err stBusy := by
  subst he
  exact if_neg h

/-- The last flag as the bodies test it. -/
theorem ite_last {α : Type} (v : Nat) (a b : α) : (if min 1 v = 1 then a else b) = if v = 0 then b else a := by
  by_cases h : v = 0
  · simp [h]
  · rw [if_neg h, if_pos (by omega)]

/-- The phases of a load, each from the words given for it (R99). -/
theorem newPhases_eq (given : Nat → List Int) (first n : Nat) :
    ((List.range n).map fun j => fixPhase (first + j) (-3) ((((List.range n).map given).getD j []).take 8) ++
      fixPhase (first + j) (-2) ((((List.range n).map given).getD j []).drop 8)) =
    (List.range n).map fun j => fixPhase (first + j) (-3) ((given j).take 8) ++
      fixPhase (first + j) (-2) ((given j).drop 8) := by
  refine List.map_congr_left fun j hj => ?_
  rw [show ((List.range n).map given).getD j [] = given j by simp [List.mem_range.mp hj]]

/-- A load of a coefficient set that finds its staging copy free (R99, R389). -/
theorem bodyLayerCoefset_free {i first count n : Nat} {base all : List Int} {given : Nat → List Int}
    (hi : i = clampN 3 15 (c.p 0)) (hfirst : first = min 63 (c.p 1)) (hcount : count = clampN 1 32 (c.p 2))
    (hlen : c.params.length = 4 + 7 * count) (hn : n = min count (64 - first))
    (hbase : base = match u.coefStage with
      | some e => e.2
      | none => (tfind u.coefSets i).getD linearSet)
    (hgiven : given = fun j => ((c.params.drop (4 + 7 * j)).take 7).flatMap halves)
    (hall : all = base.take (14 * first) ++ ((List.range n).map fun j => fixPhase (first + j) (-3) ((given j).take 8) ++
      fixPhase (first + j) (-2) ((given j).drop 8)).flatten ++ base.drop (14 * (first + n)))
    (hst : ∀ e, u.coefStage = some e → e.1 = i) :
    ∃ cl ws, bodyLayerCoefset port c u = .ok cl ws
      (if c.p 3 = 0 then { u with coefStage := some (i, all) }
        else { u with coefSets := tset u.coefSets i all, coefStage := none }) := by
  subst hi hfirst hcount hn hgiven hall hbase
  have hbody : bodyLayerCoefset port c u = _ := (withLen_eq hlen _).trans (withStage_same hst _)
  dsimp only at hbody
  rw [ite_last, newPhases_eq fun j => ((c.params.drop (4 + 7 * j)).take 7).flatMap halves] at hbody
  cases hs : u.coefStage with
  | none =>
    rw [hs] at hbody
    exact ⟨_, _, hbody⟩
  | some e =>
    rw [hs] at hbody
    exact ⟨_, _, hbody⟩

end

/-- Settles O9. READ repeats the layer ID in each section (log entry 45), and COEFSET replies the mask of phases altered
(log entry 49). -/
theorem layerSettingsComplete : Obligations.LayerSettingsComplete := by
  refine fun p s u c => ⟨fun w h hlen hopen hw => ?_, fun l a b h hparams hopen => ?_, fun l v h hparams hopen => ?_,
    fun first count n h hopen hfirst hcount hlen hn => ?_,
    fun i first count n base given all h hi hfirst hcount hlen hn hbase hgiven hall => ⟨fun hst => ?_, fun e he hne => ?_⟩,
    fun i first count n all h hi hfirst hcount hlen hn hall => ⟨fun hst => ?_, fun e he hne => ?_⟩,
    fun i first count n all h hi hfirst hcount hlen hn hall => ⟨fun hst => ?_, fun e he hne => ?_⟩,
    fun l y h hparams hl hread hy => ?_⟩
  · subst hw
    exact exec_ok h rfl ((withLayer_withLen hlen (by decide) hopen _).trans (applied_nil _ _ _)) h.up
  · refine exec_ok h rfl ((withLayer_withLen (by rw [hparams]; rfl) (by decide) hopen _).trans ((applied_nil _ _ _).trans ?_)) h.up
    simp [Cmd.p_eq hparams, hparams, Fill.ofWords_eq]
  · refine exec_ok h rfl ((withLayer_withLen (by rw [hparams]; rfl) (by decide) hopen _).trans ((applied_nil _ _ _).trans ?_)) h.up
    simp [Cmd.p_eq hparams, hparams]
  · subst hn hfirst hcount
    exact exec_ok h rfl ((withLayer_withLen hlen (by omega) hopen _).trans (applied_nil _ _ _)) h.up
  · obtain ⟨cl, ws, hbody⟩ := bodyLayerCoefset_free (port := p.port) hi hfirst hcount hlen hn hbase hgiven hall hst
    refine ⟨cl, ws, exec_ok h rfl hbody ?_⟩
    split <;> exact h.up
  · subst hi hcount
    exact exec_err h rfl ((withLen_eq hlen _).trans (withStage_other he hne _))
  · subst hi hcount hn hfirst hall
    refine exec_ok h rfl ((withLen_eq hlen _).trans ((withStage_same hst _).trans ?_)) ?_
    · dsimp only
      rw [ite_last]
    · split <;> exact h.up
  · subst hi hcount
    exact exec_err h rfl ((withLen_eq hlen _).trans (withStage_other he hne _))
  · subst hi hcount hn hfirst hall
    refine exec_ok h rfl ((withLen_eq hlen _).trans ((withStage_same hst _).trans ?_)) ?_
    · dsimp only
      rw [ite_last]
    · split <;> exact h.up
  · subst hi hcount
    exact exec_err h rfl ((withLen_eq hlen _).trans (withStage_other he hne _))
  · refine exec_ok h rfl ?_ h.up
    show bodyLayerRead p.port c u = _
    have hread' : u.mayRead 1 (c.p 0) c.master = true := by rw [Cmd.p_eq hparams]; exact hread
    rw [bodyLayerRead, withRead_open hread', withLen_eq (by rw [hparams]; rfl)]
    subst hy
    simp [Cmd.n_eq hparams, Cmd.p_eq hparams, Nat.not_le.mpr hl]

end Sys2Proof.Machine

/-! The HEAD commands (R390, R391). -/

namespace Sys2Proof.Machine

section
variable {port : Nat} {c : Cmd} {u v w t : State}

theorem withHeads_withLen {l : List Nat} {n : Nat} (hopen : headsOpen u c l) (hlen : c.params.length = n) (k : Res) :
    withHeads u c l (withLen c n k) = k := by
  rw [withHeads_open hopen, withLen_eq hlen]

theorem withWrite_withLen {kind i n : Nat} (hopen : u.mayWrite kind i c.master = true) (hlen : c.params.length = n)
    (k : Res) : withWrite u c kind i (withLen c n k) = k := by
  rw [withWrite_open hopen, withLen_eq hlen]

/-! ## Changes that wait for admission -/

theorem judgeHeadPlace_eq {o lead : Nat} (ho : o = if c.p 2 ≤ 3 then c.p 2 else 0)
    (ht : u.placeAny c.idx (c.p 0) (c.p 1) o (decide (c.p 3 ≠ 0)) = some t) (hlead : lead = (u.pairHeads c.idx).headD c.idx)
    (hplacing : placingKept u t) (hdirect : directKept u t) :
    judgeHeadPlace port c u =
      .ok (decide (c.params ≠ [(t.head lead).ox, (t.head lead).oy, o, min 1 (c.p 3)]))
        ([(t.head lead).ox, (t.head lead).oy, o, min 1 (c.p 3)] ++
          if (u.head c.idx).pair.isSome then t.origins (t.pairHeads c.idx) else []) t := by
  simp only [judgeHeadPlace, ← ho, ht, ← hlead, withPlacing_kept hplacing, withDirect_kept hdirect, applied]

theorem judgeHeadTiming_eq {m : Mode} {d : Head} (hm : u.timingFor c.idx c = some m)
    (hv : u.setModes m (u.pairHeads c.idx) = some v) (hd : d = v.head ((v.pairHeads c.idx).headD c.idx))
    (hw : v.placeAny c.idx d.ox d.oy d.orient d.mirror = some w)
    (ht : t = ((w.pairHeads c.idx).foldl State.setDepth w).settleCommits)
    (hplacing : placingKept u t) (hdirect : directKept u t) : ∃ cl,
    judgeHeadTiming port c u =
      .ok cl (m.words ++ [(t.head c.idx).pendingDepth.getD (t.head c.idx).depth, (t.head c.idx).cEff]) t := by
  simp only [judgeHeadTiming, hm, hv, ← hd, hw, ← ht, withPlacing_kept hplacing, withDirect_kept hdirect]
  exact ⟨_, rfl⟩

theorem judgeHeadGroup_eq {g : Nat} (hparams : c.params = [g])
    (hv : (u.pairHeads c.idx).foldl (fun (t : Option State) j => t.bind (·.joinGroup j g)) (some u) = some v)
    (hchains : v.chainsOk = true) (ht : t = ((v.pairHeads c.idx).foldl State.setDepth v).settleCommits)
    (hdirect : directKept u t) :
    judgeHeadGroup port c u = .ok false [g, b2n (t.head c.idx).aligned] t := by
  have hg : c.p 0 = g := Cmd.p_eq hparams 0
  simp only [judgeHeadGroup, hg, hv, hchains, ← ht, withDirect_kept hdirect, applied, hparams]
  simp

theorem judgeHeadPair_eq {x : Nat} (hparams : c.params = [x])
    (hv : (if x = 0 then some (u.breakPair c.idx) else u.formPair c.idx) = some v)
    (ht : t = ((v.setDepth c.idx).setDepth (c.idx + 1)).settleCommits) (hchains : t.chainsOk = true)
    (hplacing : placingKept u t) (hdirect : directKept u t) :
    judgeHeadPair port c u = .ok (decide (1 < x)) (t.origins [c.idx, c.idx + 1]) t := by
  have hx : c.p 0 = x := Cmd.p_eq hparams 0
  simp only [judgeHeadPair, hx, hv, ← ht, hchains, withPlacing_kept hplacing, withDirect_kept hdirect]
  simp

end

/-- Settles O10. -/
theorem headChangesComplete : Obligations.HeadChangesComplete := by
  refine fun p s u c => ⟨fun h hlen hopen => ?_, fun h hlen hopen => ?_, fun g h hparams hg hopen => ?_,
    fun h hlen heven hopen => ?_, fun port o lead t h ho ht hlead hplacing hdirect hadm => ?_,
    fun port m v d w t h hm hv hd hw ht hplacing hdirect hadm => ?_, fun port g v t h hparams hv hchains ht hdirect hadm => ?_,
    fun port x v t h hparams hv ht hchains hplacing hdirect hadm => ?_⟩
  · exact exec_admission h rfl (withHeads_withLen hopen hlen _)
  · exact exec_admission h rfl (withHeads_withLen hopen hlen _)
  · refine exec_admission h rfl ((withHeads_withLen hopen (by rw [hparams]; rfl) _).trans ?_)
    rw [Cmd.p_eq hparams]
    exact if_pos hg
  · exact exec_admission h rfl ((if_neg (by omega)).trans (withHeads_withLen hopen hlen _))
  · exact exec_judged_plain h rfl rfl (judgeHeadPlace_eq (port := port) ho ht hlead hplacing hdirect) hadm
  · obtain ⟨cl, hjudge⟩ := judgeHeadTiming_eq (port := port) hm hv hd hw ht hplacing hdirect
    exact ⟨cl, exec_judged_plain h rfl rfl hjudge hadm⟩
  · exact exec_judged h rfl (judgeHeadGroup_eq (port := port) hparams hv hchains ht hdirect) hadm
  · exact exec_judged_plain h rfl rfl (judgeHeadPair_eq (port := port) hparams hv ht hchains hplacing hdirect) hadm

/-! ## Settings that take effect at once -/

theorem setHead_setHead (s : State) (i : Nat) (v w : Head) : (s.setHead i v).setHead i w = s.setHead i w := by
  simp only [State.setHead, tset_tset]

/-- Two changes of one head are one. -/
theorem modHead_modHead (s : State) (h : Nat) (f g : Head → Head) :
    (s.modHead h f).modHead h g = s.modHead h fun d => g (f d) := by
  rw [modHead_def, modHead_def, modHead_def, head_setHead, setHead_setHead]

theorem putBind_pwr (s : State) (h : Nat) (b : Bind) : (s.putBind h b).pwr = s.pwr := by
  unfold State.putBind
  dsimp only
  rw [setDepth_pwr]
  split <;> rfl

section
variable {port : Nat} {c : Cmd} {u : State}

/-- A single-stream binding that nothing stands in the way of (R237). -/
theorem bodyHeadBind_free {b : Bind} (hlen : c.params.length = 3) (hopen : u.mayWrite 2 c.idx c.master = true)
    (hb : b = c.bind 0)
    (hfree : b.link = 255 ∧ b.mst = false ∨ b.link < 96 ∧ u.linkState b.link = 1 ∧ b.link / 48 = c.idx / 64 ∧
      b.mst = false ∧ u.bindClash c.idx b = false) :
    bodyHeadBind port c u = .ok (decide (c.p 1 ≠ min 1 (c.p 1))) [c.p 0, min 1 (c.p 1), c.p 2 &&& 0xFFF3]
      (if (u.head c.idx).running then (u.modHead c.idx fun d => { d with pendingBind := some b }).setDepth c.idx
        else (u.modHead c.idx fun d => { d with pendingBind := some b }).putBind c.idx b) := by
  refine (withWrite_withLen hopen hlen _).trans ?_
  rw [← hb]
  rcases hfree with ⟨hnone, hsst⟩ | ⟨hlink, hstate, hdie, hsst, hclash⟩
  · simp [hnone, hsst, applied]
  · simp [hstate, hdie, hsst, hclash, applied, withUnit_inService, Nat.not_le.mpr hlink, show b.link ≠ 255 by omega]

theorem bodyHeadColour_busy (hlen : c.params.length = 15) (hopen : u.mayWrite 2 c.idx c.master = true)
    (hlut : (HeadColour.ofWords (headColourWords c)).lutOn = true) (hbusy : u.stagingBusy (c.idx / 4) = true) :
    bodyHeadColour port c u = .err stBusy :=
  (withWrite_withLen hopen hlen _).trans (if_pos ⟨hlut, hbusy⟩)

theorem bodyHeadColour_free {w : List Nat} {k : HeadColour} {t : State} (hlen : c.params.length = 15)
    (hopen : u.mayWrite 2 c.idx c.master = true) (hw : w = headColourWords c) (hk : k = HeadColour.ofWords w)
    (hfree : k.lutOn = true → u.stagingBusy (c.idx / 4) = false)
    (ht : t = ((if k.lutOn then u.modHead c.idx fun d => { d with colour := k, lutBusy := some (k.lutAddr, c.master)
                                                                  lutIssuer := port }
      else u.modHead c.idx fun d => { d with colour := k }).setDepth c.idx)) :
    bodyHeadColour port c u = .ok (decide (c.params ≠ w))
      (w ++ [(t.head c.idx).pendingDepth.getD (t.head c.idx).depth]) t := by
  have hstart : ¬(k.lutOn = true ∧ u.stagingBusy (c.idx / 4) = true) := fun ⟨hon, hbusy⟩ => by
    rw [hfree hon] at hbusy
    exact Bool.false_ne_true hbusy
  refine (withWrite_withLen hopen hlen _).trans ?_
  dsimp only
  rw [← hw, ← hk, if_neg hstart, modHead_modHead, ← ht, applied]

theorem bits_half (v : Nat) : bits v 15 0 = v % 65536 ∧ bits v 31 16 = v / 65536 % 65536 := by
  simp [bits]

end

/-- Settles O11. Its HEAD.READ gives depth and commit distance inside the sections, as log entry 45 has it. -/
theorem headSettingsComplete : Obligations.HeadSettingsComplete := by
  refine fun p s u c => ⟨fun b h hlen hopen hb hfree => ?_, fun w k t h hlen hopen hw hk hfree ht => ?_,
    fun h hlen hopen hlut hbusy => ?_, fun k t h hparams hopen ht => ?_, fun x a b h hparams hopen => ?_,
    fun hd d h hparams hopen hhead hdepth => ?_⟩
  · refine exec_ok h rfl (bodyHeadBind_free (port := p.port) hlen hopen hb hfree) ?_
    split
    · rw [setDepth_pwr]; exact h.up
    · rw [putBind_pwr]; exact h.up
  · refine exec_ok h rfl (bodyHeadColour_free (port := p.port) hlen hopen hw hk hfree ht) ?_
    rw [ht, setDepth_pwr]
    split <;> exact h.up
  · exact exec_err h rfl (bodyHeadColour_busy (port := p.port) hlen hopen hlut hbusy)
  · refine exec_ok h rfl ((withWrite_withLen hopen (by rw [hparams]; rfl) _).trans ?_) ?_
    · subst ht
      simp [applied, Cmd.p_eq hparams, hparams]
    · rw [ht]; exact h.up
  · refine exec_ok h rfl ((withWrite_withLen hopen (by rw [hparams]; rfl) _).trans ?_) h.up
    simp [applied, Cmd.p_eq hparams, bits_half]
  · subst hhead hdepth
    exact exec_ok h rfl ((withRead_open hopen _).trans (withLen_eq (by rw [hparams]; rfl) _)) h.up

end Sys2Proof.Machine

/-! The LINK, INPUT and AUDIO commands (R392-R394). -/

namespace Sys2Proof.Machine

/-! ## LINK (R392) -/

section
variable {port n : Nat} {c : Cmd} {u : State}

theorem withLen_withLink (hlen : c.params.length = n) (hli : c.p 0 < 96) (hstate : u.linkState (c.p 0) = 1) (k : Res) :
    withLen c n (withLink u c k) = k := by
  rw [withLen_eq hlen, withLink, if_neg (Nat.not_le.mpr hli), hstate, withUnit_inService]

theorem bodyLinkConfig_eq {w : List Nat} {l : Link} {v t : State} (hlen : c.params.length = 6) (hli : c.p 0 < 96)
    (hstate : u.linkState (c.p 0) = 1) (hw : w = linkConfigWords c) (hl : l = u.link (c.p 0))
    (hv : v = u.setLink (c.p 0) { l with enabled := decide (c.p 1 ≠ 0), edp := decide (c.p 2 ≠ 0)
                                         maxRate := atMost (if c.p 2 = 0 then dpRates else edpRates) (c.p 3)
                                         maxLanes := atMost [1, 2, 4] (c.p 4), spread := decide (c.p 5 ≠ 0) })
    (ht : t = (if c.p 1 = 0 then
          (if l.enabled then (v.dropLink (c.p 0) 0).modLink (c.p 0) fun x => { x with hpd := false } else v)
        else if l.enabled = false then v.modLink (c.p 0) (·.into 1)
        else if l.configWords ≠ w ∧ l.state = 4 then
          (v.modLink (c.p 0) fun x => { x with retrainAll := true, cands := v.candidates (c.p 0) }).beginRetrain (c.p 0)
        else v)) :
    bodyLinkConfig port c u = .ok (decide (c.params ≠ c.p 0 :: w)) (c.p 0 :: w) t := by
  have hw0 : w.getD 0 0 = min 1 (c.p 1) := by rw [hw]; rfl
  have hw1 : w.getD 1 0 = min 1 (c.p 2) := by rw [hw]; rfl
  have hw2 : w.getD 2 0 = atMost (if c.p 2 = 0 then dpRates else edpRates) (c.p 3) := by rw [hw]; rfl
  have hw3 : w.getD 3 0 = atMost [1, 2, 4] (c.p 4) := by rw [hw]; rfl
  have hw4 : w.getD 4 0 = min 1 (c.p 5) := by rw [hw]; rfl
  refine (withLen_withLink hlen hli hstate _).trans ((applied_nil _ _ _).trans ?_)
  dsimp only
  rw [← hw, ← hl, hw0, hw1, hw2, hw3, hw4, decide_min_one, decide_min_one, decide_min_one, ← hv, ht]
  by_cases hoff : c.p 1 = 0
  · simp only [hoff, ne_eq, not_true, decide_false, Bool.not_false, if_true]
  · cases l.enabled <;> simp only [hoff, ne_eq, not_false_iff, decide_true, Bool.not_true, Bool.false_eq_true, if_false, if_true,
      Bool.not_false, Bool.true_eq_false]

theorem bodyLinkTrain_idle {li rate lanes : Nat} {ks : List Cand} (hparams : c.params = [li, rate, lanes]) (hli : li < 96)
    (hstate : u.linkState li = 1) (hactive : (u.link li).state = 4) (hall : (u.link li).retrainAll = false)
    (hcmd : (u.link li).retrainCmd = false)
    (hks : ks = if rate = 0 then u.candidates li else fromCand rate lanes (u.candidates li)) :
    bodyLinkTrain port c u = .wait
      ((u.setLink li { u.link li with cands := ks, retrainAll := true, retrainCmd := true }).beginRetrain li) := by
  have h0 : c.p 0 = li := Cmd.p_eq hparams 0
  have h1 : c.p 1 = rate := Cmd.p_eq hparams 1
  have h2 : c.p 2 = lanes := Cmd.p_eq hparams 2
  subst h0 hks
  refine (withLen_withLink (by rw [hparams]; rfl) hli hstate _).trans ?_
  dsimp only
  rw [if_neg (by simp [hactive, hall, hcmd]), h1, h2]

theorem bodyLinkTrain_busy {li rate lanes : Nat} (hparams : c.params = [li, rate, lanes]) (hli : li < 96)
    (hstate : u.linkState li = 1) (hinactive : (u.link li).state ≠ 4) : bodyLinkTrain port c u = .err stBusy := by
  have h0 : c.p 0 = li := Cmd.p_eq hparams 0
  subst h0
  exact (withLen_withLink (by rw [hparams]; rfl) hli hstate _).trans (if_pos (.inl hinactive))

theorem bodyLinkAux_free (hlen : c.params.length = 8) (hli : c.p 0 < 96) (hstate : u.linkState (c.p 0) = 1)
    (hready : (u.link (c.p 0)).state ∉ [2, 3, 5])
    (hopen : c.p 1 = 0 ∨ auxProtected (min 0xFFFFF (c.p 2)) (clampN 1 16 (c.p 3)) = false) :
    bodyLinkAux port c u = .wait (if (u.link (c.p 0)).auxWait.isSome then u
      else u.setLink (c.p 0) { u.link (c.p 0) with auxWait := some (port, c.tag, min 1 (c.p 1))
                                                   auxTries := 0, auxDefers := 0 }) := by
  have hidle : ¬((u.link (c.p 0)).state = 2 ∨ (u.link (c.p 0)).state = 3 ∨ (u.link (c.p 0)).state = 5) := by
    simpa using hready
  have hallowed : ¬(min 1 (c.p 1) = 1 ∧ auxProtected (min 0xFFFFF (c.p 2)) (clampN 1 16 (c.p 3)) = true) := by
    rintro ⟨hwrite, hprot⟩
    rcases hopen with h | h
    · omega
    · rw [h] at hprot
      exact Bool.false_ne_true hprot
  exact (withLen_withLink hlen hli hstate _).trans ((if_neg hidle).trans (if_neg hallowed))

theorem bodyLinkAutostart_eq {b : Bind} (hlen : c.params.length = 12) (hopen : u.mayWrite 2 c.idx c.master = true)
    (hb : b = c.bind 1) (hlink : b.link = 255 ∨ b.link < 96 ∧ u.linkState b.link ≠ 0 ∧ b.link / 48 = c.idx / 64) :
    bodyLinkAutostart port c u = .ok
      (decide ([min 1 (c.p 0), c.p 1, min 1 (c.p 2), b.path, min 1 (c.p 4)] ≠
        [c.p 0, c.p 1, c.p 2, c.p 3 &&& 0xFFF3, c.p 4]))
      ([min 1 (c.p 0), c.p 1, min 1 (c.p 2), b.path, min 1 (c.p 4)] ++ c.params.drop 5)
      (u.modHead c.idx fun h => { h with autoEn := decide (c.p 0 ≠ 0), autoBind := b, autoRule := min 1 (c.p 4)
                                         autoMode := c.timing 5 }) := by
  have hpresent : ¬(b.link ≠ 255 ∧ (96 ≤ b.link ∨ u.linkState b.link = 0)) := by
    rintro ⟨hne, hbad⟩
    obtain ⟨hlt, hst, -⟩ := hlink.resolve_left hne
    exact hbad.elim (Nat.not_le.mpr hlt) hst
  have hdie : ¬(b.link ≠ 255 ∧ b.link / 48 ≠ c.idx / 64) := fun ⟨hne, hbad⟩ => hbad (hlink.resolve_left hne).2.2
  refine (withWrite_withLen hopen hlen _).trans ?_
  dsimp only
  rw [← hb, if_neg hpresent, if_neg hdie]

theorem bodyLinkRead_open {li : Nat} (hparams : c.params = [li]) (hli : li < 96) (hstate : u.linkState li = 1)
    (hopen : ∀ h ∈ u.boundTo li, u.mayRead 2 h c.master = true) :
    bodyLinkRead port c u = .ok false
      ([(u.link li).state] ++ ((u.link li).trained.map fun k => [k.rate, k.lanes, k.coding]).getD [0, 0, 0] ++
        [((u.link li).sink.map (·.lttprs)).getD 0, (u.link li).glitches, (u.link li).attempts]) u := by
  have h0 : c.p 0 = li := Cmd.p_eq hparams 0
  subst h0
  have hnone : (u.boundTo (c.p 0)).find? (fun h => !u.mayRead 2 h c.master) = none :=
    List.find?_eq_none.mpr fun h hmem => by simp [hopen h hmem]
  refine (withLen_withLink (by rw [hparams]; rfl) hli hstate _).trans ?_
  dsimp only
  rw [hnone]
  cases (u.link (c.p 0)).trained <;> cases (u.link (c.p 0)).sink <;> rfl

end

/-- Settles O12. -/
theorem linkCommandsComplete : Obligations.LinkCommandsComplete := by
  refine fun p s u c => ⟨fun w l v t h hlen hli hstate hw hl hv ht hup => ?_,
    fun li rate lanes ks h hparams hli hstate hactive hall hcmd hks => ?_,
    fun li rate lanes h hparams hli hstate hinactive => ?_, fun h hlen hli hstate hready hopen => ?_,
    fun b h hlen hopen hb hlink => ?_, fun li h hparams hli hstate hopen => ?_⟩
  · exact exec_ok h rfl (bodyLinkConfig_eq (port := p.port) hlen hli hstate hw hl hv ht) hup
  · exact exec_wait h rfl (bodyLinkTrain_idle (port := p.port) hparams hli hstate hactive hall hcmd hks)
  · exact exec_err h rfl (bodyLinkTrain_busy (port := p.port) hparams hli hstate hinactive)
  · exact exec_wait h rfl (bodyLinkAux_free (port := p.port) hlen hli hstate hready hopen)
  · exact exec_ok h rfl (bodyLinkAutostart_eq (port := p.port) hlen hopen hb hlink) h.up
  · exact exec_ok h rfl (bodyLinkRead_open (port := p.port) hparams hli hstate hopen) h.up

end Sys2Proof.Machine

namespace Sys2Proof.Machine

/-! ## INPUT (R247-R263, R393) -/

section
variable {port n v : Nat} {c : Cmd} {u t : State}

theorem withInput_inService (hv : v < 16) (hstate : u.inputState v = 1) (k : Res) : withInput u v k = k := by
  rw [withInput, if_neg (Nat.not_le.mpr hv), hstate, withUnit_inService]

theorem withLen_withInput (hlen : c.params.length = n) (hv : v < 16) (hstate : u.inputState v = 1) (k : Res) :
    withLen c n (withInput u v k) = k := by
  rw [withLen_eq hlen, withInput_inService hv hstate]

theorem bodyInputConfig_eq {e : Nat} (hparams : c.params = [v, e]) (hv : v < 16) (hstate : u.inputState v = 1)
    (ht : t = if e = 0 then
          (if (u.input v).enabled then (u.inputLost v).modInput v fun i => { i with enabled := false, hpd := false,
                                                                                      trained := none } else u)
        else if (u.input v).enabled then u else u.modInput v fun i => { i with enabled := true, hpd := true }) :
    bodyInputConfig port c u = .ok (decide (e ≠ min 1 e)) [v, min 1 e] t := by
  have h0 : c.p 0 = v := Cmd.p_eq hparams 0
  have h1 : c.p 1 = e := Cmd.p_eq hparams 1
  subst h0 h1
  refine (withLen_withInput (by rw [hparams]; rfl) hv hstate _).trans ((applied_nil _ _ _).trans ?_)
  rw [hparams, ht]
  simp

theorem bodyInputEdid_eq (hn : n = clampN 1 4 (c.p 1)) (hlen : c.params.length = 2 + 32 * n) (hv : c.p 0 < 16)
    (hstate : u.inputState (c.p 0) = 1) :
    bodyInputEdid port c u = .ok (decide (n ≠ c.p 1)) [n]
      (u.modInput (c.p 0) fun i => { i with hpd := false,
                                            edid := (c.params.drop 2).flatMap fun w => (leBytes 4 w).map (·.toNat) }) := by
  subst hn
  exact withLen_withInput hlen hv hstate _

/-- What a mode word of INPUT.BIND asks for: unbinding, the ring or the direct path (R254, R260). -/
theorem bindMode_iff (x : Nat) : (min 2 x = 0 ↔ x = 0) ∧ (min 2 x = 1 ↔ x = 1) ∧ (min 2 x = 2 ↔ 2 ≤ x) := by omega

theorem ite_bindMode {α : Type} (x : Nat) (y a b : α) :
    (if x = 1 then a else if 2 ≤ x then b else y) = if x = 0 then y else if x = 1 then a else b := by
  rcases (by omega : x = 0 ∨ x = 1 ∨ 2 ≤ x) with h | h | h
  · simp [h]
  · simp [h]
  · rw [if_neg (by omega), if_pos h, if_neg (by omega), if_neg (by omega)]

theorem judgeInputBind_eq {l : Nat} {x w : State} (hl : l = c.p 0)
    (hroom : c.p 2 = 1 → (u.layers.filter fun e => e.1 ≠ l && e.2.bindMode = 1 && e.2.bindInput = c.p 1).length < 8)
    (hx : x = ((if c.p 2 = 0 then u else u.cancelFlips l fun _ => true).releaseRing l).modLayer l (fun y =>
      let y := { y with bindMode := min 2 (c.p 2), bindInput := c.p 1, bindOwn := decide (c.p 3 ≠ 0)
                        bindFill := { c0 := c.p 4 % 65536, c1 := c.p 4 / 65536 % 65536
                                      c2 := c.p 5 % 65536, a := c.p 5 / 65536 % 65536 }
                        bindIssuer := port
                        nosignal := decide (c.p 2 ≠ 0) && decide ((u.input (c.p 1)).state = 5) }
      if c.p 2 = 0 then y else if c.p 2 = 1 then y.resourced (u.input (c.p 1)).ringSource
      else y.resourced (u.input (c.p 1)).directSource))
    (hw : w = if 2 ≤ c.p 2 then x.setDelta l else x.modLayer l fun y => { y with delta := 0 })
    (hplacing : placingKept u w) (hdirect : directKept u w) (ht : w.reduce l = some t) :
    judgeInputBind port c u = .ok (decide (c.params ≠ [l, c.p 1, min 2 (c.p 2), min 1 (c.p 3), c.p 4, c.p 5]))
      [l, c.p 1, min 2 (c.p 2), min 1 (c.p 3), c.p 4, c.p 5, ofS 32 (t.layer l).delta] t := by
  obtain ⟨hmode0, hmode1, hmode2⟩ := bindMode_iff (c.p 2)
  subst hl
  have hplace : ¬(min 2 (c.p 2) ≠ 0 ∧
      8 ≤ (u.layers.filter fun e => e.1 ≠ c.p 0 && e.2.bindMode = 1 && e.2.bindInput = c.p 1).length ∧ min 2 (c.p 2) = 1) := by
    rintro ⟨-, hfull, hring⟩
    exact absurd (hroom (hmode1.mp hring)) (Nat.not_lt.mpr hfull)
  unfold judgeInputBind
  dsimp only
  rw [if_neg hplace]
  simp only [bits_half, decide_min_one, ne_eq, hmode0, hmode1, hmode2, ite_bindMode]
  dsimp only at hx
  simp only [ne_eq] at hx
  rw [← hx, ← hw, withPlacing_kept hplacing, withDirect_kept hdirect, withReduced_some ht, applied]
  rfl

end

/-- Settles O13. That a token word above 255 stands for none is log entry 18, and that a new ring starts at its first
buffer with its counters cleared log entry 62. -/
theorem inputCommandsComplete : Obligations.InputCommandsComplete := by
  refine fun p s u c => ⟨fun v e t h hparams hv hstate ht hup => ?_, fun n h hn hlen hv hstate => ?_,
    fun h hlen hv hstate => ?_, fun port k t h hk ht hadm => ?_, fun h hlen hopen hv hstate => ?_,
    fun port l v w t h hl hroom hx hw hplacing hdirect ht hadm => ?_, fun v i h hparams hv hstate hi => ?_⟩
  · exact exec_ok h rfl (bodyInputConfig_eq (port := p.port) hparams hv hstate ht) hup
  · exact exec_ok h rfl (bodyInputEdid_eq (port := p.port) hn hlen hv hstate) h.up
  · exact exec_admission h rfl (withLen_withInput hlen hv hstate _)
  · subst hk ht
    exact exec_judged_plain h rfl rfl (applied_nil _ _ _) hadm
  · exact exec_admission h rfl ((withLayer_withLen hlen (by decide) hopen _).trans (withInput_inService hv hstate _))
  · exact exec_judged_plain h rfl rfl (judgeInputBind_eq (port := port) hl hroom hx hw hplacing hdirect ht) hadm
  · subst hi
    refine exec_ok h rfl ?_ h.up
    have h0 : c.p 0 = v := Cmd.p_eq hparams 0
    subst h0
    exact withLen_withInput (by rw [hparams]; rfl) hv hstate _

/-! ## Audio (R266-R276, R393, R394) -/

theorem ite_one_iff (q : Prop) [Decidable q] : ((if q then 1 else 0) = 1) = q := by
  by_cases h : q <;> simp [h]

section
variable {port n : Nat} {c : Cmd} {u t : State}

theorem judgeInputAudio_eq
    (ht : t = (if (u.aud (16 + c.p 0)).enabled then u.audioQuiet (16 + c.p 0) else u).modAud (16 + c.p 0) fun a =>
      { a.restart with enabled := decide (c.p 1 ≠ 0), width := nearest 16 [16, 24] (c.p 2), pack4 := decide (c.p 3 = 1)
                       base := ringBaseOf (c.p64 4), size := ringSizeOf (c.p 6), zc := min 50 (c.p 7) }) :
    judgeInputAudio port c u = .ok (decide (c.params ≠ inputAudioWords c)) (inputAudioWords c) t := by
  have hon : ((inputAudioWords c).getD 1 0 = 1) = (c.p 1 ≠ 0) := propext (by show min 1 (c.p 1) = 1 ↔ _; omega)
  have hpack : ((inputAudioWords c).getD 3 0 = 1) = (c.p 3 = 1) := ite_one_iff _
  refine (applied_nil _ _ _).trans ?_
  simp only [hon, hpack]
  rw [ht]
  rfl

theorem withAud_inService {a : Nat} (ha : a < 4) (hstate : u.audState a = 1) (k : Res) : withAud u a k = k := by
  rw [withAud, if_neg (Nat.not_le.mpr ha), hstate, withUnit_inService]

theorem judgeAudioConfig_eq {sl : Nat} (hsl : sl = nearest 16 [16, 24, 32] (c.p 3))
    (ht : t = (if (u.aud (c.p 0)).enabled then u.audioQuiet (c.p 0) else u).modAud (c.p 0) fun a =>
      { a.restart with enabled := decide (c.p 1 ≠ 0), leftJust := decide (c.p 2 = 1), slot := sl
                       width := sampleWidth sl (c.p 4), pack4 := decide (c.p 5 = 1)
                       base := ringBaseOf (c.p64 6), size := ringSizeOf (c.p 8), zc := min 50 (c.p 9) }) :
    judgeAudioConfig port c u = .ok (decide (c.params ≠ audioWords c)) (audioWords c) t := by
  have hon : ((audioWords c).getD 1 0 = 1) = (c.p 1 ≠ 0) := propext (by show min 1 (c.p 1) = 1 ↔ _; omega)
  have hleft : ((audioWords c).getD 2 0 = 1) = (c.p 2 = 1) := ite_one_iff _
  have hpack : ((audioWords c).getD 5 0 = 1) = (c.p 5 = 1) := ite_one_iff _
  refine (applied_nil _ _ _).trans ?_
  simp only [hon, hleft, hpack]
  rw [ht, hsl]
  rfl

theorem withHeadUnits_inService {hs : List Nat} (h : ∀ x ∈ hs, x < 128 ∧ u.headState x = 1) (k : Res) :
    withHeadUnits u hs k = k := by
  induction hs with
  | nil => rfl
  | cons x l ih =>
    obtain ⟨hx, hstate⟩ := h x List.mem_cons_self
    rw [withHeadUnits, if_neg (Nat.not_le.mpr hx), hstate, withUnit_inService]
    exact ih fun y hy => h y (List.mem_cons_of_mem _ hy)

/-- Routing to heads in service that admit a write (R275). -/
theorem bodyAudioRoute_open {hs : List Nat} (hn : n = clampN 1 16 (c.p 1)) (hlen : c.params.length = 2 + n)
    (hhs : hs = c.params.drop 2) (hsource : u.sourceStatus (c.p 0) = 1)
    (hopen : ∀ h ∈ hs, h < 128 ∧ u.headState h = 1 ∧ u.mayWrite 2 h c.master = true)
    (ht : t = hs.foldl (fun v h => v.audioRouteTo h (c.p 0) port) u) :
    bodyAudioRoute port c u = .ok (decide (c.params ≠ [c.p 0, n] ++ hs)) ([c.p 0, n] ++ hs ++
      [maskOf ((List.range hs.length).filter fun i => decide (t.audioHold (hs.getD i 0) ≠ 0) && (c.p 0 != 255))]) t := by
  have hheads : headsOpen u c (hs.filter (· < 128)) := fun h hmem => (hopen h (List.mem_filter.mp hmem).1).2.2
  have hunits : ∀ h ∈ hs, h < 128 ∧ u.headState h = 1 := fun h hmem => ⟨(hopen h hmem).1, (hopen h hmem).2.1⟩
  unfold bodyAudioRoute routeHeads
  dsimp only
  rw [← hn, ← hhs, ← ht, withHeads_withLen hheads hlen, hsource, withUnit_inService, withHeadUnits_inService hunits, applied]

theorem bodyAudioMute_eq {m on : Nat} (hparams : c.params = [m, on]) (hopen : u.mayWrite 2 c.idx c.master = true)
    (ht : t = (bitsOf 2 m).foldl (fun v ch => v.audioChange c.idx ch (min 1 on) port) u) :
    bodyAudioMute port c u = .ok (decide (1 < on)) [] t := by
  have h0 : c.p 0 = m := Cmd.p_eq hparams 0
  have h1 : c.p 1 = on := Cmd.p_eq hparams 1
  have hkind : (if on = 0 then 0 else 1) = min 1 on := by split <;> omega
  refine (withWrite_withLen hopen (by rw [hparams]; rfl) _).trans ?_
  rw [h0, h1, hkind, ht]

theorem bodyAudioStatus_eq {x : Nat} {a : Audio} (hparams : c.params = [x]) (hx : x ≠ 255)
    (hsource : u.sourceStatus x = 1) (ha : a = u.aud x) : bodyAudioStatus port c u =
      .ok false [a.offset, a.frames, a.rate, a.nearest, b2n a.offStd, a.state, a.glitches, a.slotErrs, a.denied] u := by
  have h0 : c.p 0 = x := Cmd.p_eq hparams 0
  subst ha h0
  rw [bodyAudioStatus, withLen_eq (by rw [hparams]; rfl), if_neg hx, hsource, withUnit_inService]

end

/-- Settles O14. The mask of AUDIO.ROUTE has bit i for its i-th head, and AUDIO.STATUS names sources by the numbers of
AUDIO.ROUTE, both by log entry 17. -/
theorem audioCommandsComplete : Obligations.AudioCommandsComplete := by
  refine fun p s u c => ⟨fun h hlen hv hstate => ?_, fun port t h ht hadm => ?_, fun h hlen ha hstate => ?_,
    fun port sl t h hsl ht hadm => ?_, fun n hs t h hn hlen hhs hsource hopen ht hup => ?_,
    fun m on t h hparams hopen ht hup => ?_, fun x a h hparams hx hsource ha => ?_⟩
  · exact exec_admission h rfl (withLen_withInput hlen hv hstate _)
  · exact exec_judged_plain h rfl rfl (judgeInputAudio_eq (port := port) ht) hadm
  · exact exec_admission h rfl ((withLen_eq hlen _).trans (withAud_inService ha hstate _))
  · exact exec_judged_plain h rfl rfl (judgeAudioConfig_eq (port := port) hsl ht) hadm
  · exact exec_ok h rfl (bodyAudioRoute_open (port := p.port) hn hlen hhs hsource hopen ht) hup
  · exact exec_ok h rfl (bodyAudioMute_eq (port := p.port) hparams hopen ht) hup
  · exact exec_ok h rfl (bodyAudioStatus_eq (port := p.port) hparams hx hsource ha) h.up

end Sys2Proof.Machine

/-! The MANTEL, CTM and VERIFY commands (R175-R216, R395-R397). -/

namespace Sys2Proof.Machine

section
variable {port : Nat} {c : Cmd} {u t : State}

theorem safe_true {b : Bool} (h : b = true) (k : Res) : safe b k = k := if_pos h

theorem noCommit_eq (u : State) (k : Res) : noCommit u k = if u.mantel.sealed.isSome then .err stBusy else k := rfl

/-! ## MANTEL (R176-R197) -/

theorem bodyMantelArea_ok (hlen : c.params.length = 4) (ha : u.areaOk (c.p64 0) = true) (hb : u.areaOk (c.p64 2) = true)
    (hpairs : c.p64 0 / regionSpan / 2 ≠ c.p64 2 / regionSpan / 2) :
    bodyMantelArea port c u =
      if u.armedOrPending then .err stBusy
      else if c.p64 0 = u.mantel.areaA ∧ c.p64 2 = u.mantel.areaB then done u
      else .wait { u with mantel := { u.mantel with newAreas := some (c.p64 0, c.p64 2, port, c.tag) } } :=
  (withLen_eq hlen _).trans (safe_true (by simp [ha, hb, hpairs]) _)

theorem all_zero {d : List Byte} (h : ∀ b ∈ d, b = 0) : (d.all fun b => decide (b = 0)) = true :=
  List.all_eq_true.mpr fun b hb => decide_eq_true (h b hb)

theorem bodyMantelAtlas_ok {off n : Nat} {d : List Byte} (hoff : off = c.p 0) (hn : n = c.p 1)
    (hd : d = wordBytes (c.params.drop 2)) (h1 : 1 ≤ n) (h960 : n ≤ 960) (hlen : c.params.length = 2 + ceilDiv n 4)
    (hend : off + n ≤ 0x1000000) (hpad : ∀ b ∈ d.drop n, b = 0) :
    bodyMantelAtlas port c u = .ok false [] (u.mantelWrite off (d.take n)) := by
  subst hoff hn hd
  refine safe_true ?_ _
  rw [all_zero hpad]
  simp [Cmd.n, hlen, h1, h960, hend]

theorem colourOk_of {l : List Nat} (h : ∀ w ∈ l, w &&& 0xF000F000 = 0) : colourOk l = true :=
  List.all_eq_true.mpr fun w hw => decide_eq_true (h w hw)

theorem bodyMantelPalette_ok {bank first n : Nat} (hbank : bank = c.p 0) (hfirst : first = c.p 1) (hn : n = c.p 2)
    (hb : bank ≤ 15) (h1 : 1 ≤ n) (h120 : n ≤ 120) (hend : first + n ≤ 256) (hf : first ≤ 255)
    (hlen : c.params.length = 3 + 2 * n) (hcol : ∀ w ∈ c.params.drop 3, w &&& 0xF000F000 = 0) :
    bodyMantelPalette port c u = noCommit u
      (.ok false [] (u.mantelWrite (paletteAt u.pendingBuf bank + 8 * first) (wordBytes (c.params.drop 3))).dirty) := by
  subst hbank hfirst hn
  exact safe_true (by simp [Cmd.n, hlen, hb, h1, h120, hend, hf, colourOk_of hcol]) _

theorem bodyMantelBackdrop_ok (hlen : c.params.length = 34) (hcol : ∀ w ∈ c.params, w &&& 0xF000F000 = 0) :
    bodyMantelBackdrop port c u = noCommit u
      (.ok false [] (u.mantelWrite (coloursAt u.pendingBuf c.idx) (wordBytes c.params)).dirty) :=
  safe_true (by simp [Cmd.n, hlen, colourOk_of hcol]) _

theorem bodyMantelSprites_ok {first n len : Nat} {v : State} (hfirst : first = c.p 0) (hn : n = c.p 1) (hlist : len = c.p 2)
    (hf : first ≤ 255) (h1 : 1 ≤ n) (h60 : n ≤ 60) (hend : first + n ≤ 256) (h256 : len ≤ 256)
    (hlen : c.params.length = 3 + 4 * n) (hsprites : ∀ i < n, spriteOk (((c.params.drop 3).drop (4 * i)).take 4) = true)
    (hv : v = (u.mantelWrite (spriteAt u.pendingBuf c.idx + 16 * first) (wordBytes (c.params.drop 3))).dirty) :
    bodyMantelSprites port c u = noCommit u
      (.ok false [] { v with mantel := { v.mantel with lens := tset v.mantel.lens (2 * c.idx + u.pendingBuf) len } }) := by
  subst hfirst hn hlist hv
  have hall : ((List.range (c.p 1)).all fun i => spriteOk (((c.params.drop 3).drop (4 * i)).take 4)) = true :=
    List.all_eq_true.mpr fun i hi => hsprites i (List.mem_range.mp hi)
  refine safe_true ?_ _
  rw [hall]
  simp [Cmd.n, hlen, hf, h1, h60, hend, h256]

theorem bodyMantelCommit_ok {v : Nat} (hparams : c.params = [v]) (hv : v ≤ 65535) (hnew : v ≠ u.mantel.version) :
    bodyMantelCommit port c u = noCommit u (.ok false [v] (u.seal v)) := by
  have h0 : c.p 0 = v := Cmd.p_eq hparams 0
  subst h0
  refine (safe_true (by simp [Cmd.n_eq hparams, hv]) _).trans ?_
  rw [safe_true (by simp [hnew])]

theorem bodyMantelArm_ok {v : Nat} (hparams : c.params = [v]) (hv : v ≤ 1) :
    bodyMantelArm port c u = .ok false [] ((u.pairHeads c.idx).foldl (fun t h => t.armHead h (decide (v = 1))) u) := by
  have h0 : c.p 0 = v := Cmd.p_eq hparams 0
  subst h0
  exact safe_true (by simp [Cmd.n_eq hparams, hv]) _

end

section
variable {sp : OpSpec} {p : Pkt} {s u t : State} {c : Cmd} {ws : List Nat} {i : Instr}

/-- A row that a commit in progress holds back replies BUSY, else its words (R196). -/
theorem exec_noCommit (h : Passes sp p s u c) (he : exec i s = packet sp p s)
    (hb : sp.body p.port c u = noCommit u (.ok false ws t)) (ht : t.pwr.step ≠ .aoBoot) :
    exec i s = .next (settle (if u.mantel.sealed.isSome then u.replyErr p.port c stBusy else t.replyOk sp p.port c false ws)) := by
  by_cases hcommit : u.mantel.sealed.isSome = true
  · rw [noCommit_eq, if_pos hcommit] at hb
    rw [if_pos hcommit, exec_err h he hb]
  · rw [noCommit_eq, if_neg hcommit] at hb
    rw [if_neg hcommit, exec_ok h he hb ht]

end

/-- Settles O15. -/
theorem mantelWritesComplete : Obligations.MantelWritesComplete := by
  refine fun p s u c => ⟨fun h hlen ha hb hpairs hidle => ?_, fun h hlen ha hb hpairs hbusy => ?_,
    fun off n d h hoff hn hd h1 h960 hlen hend hpad hup => ?_,
    fun bank first n t h hbank hfirst hn hb h1 h120 hend hf hlen hcol ht hup => ?_, fun t h hlen hcol ht hup => ?_,
    fun first n len v t h hfirst hn hlist hf h1 h60 hend h256 hlen hsprites hv ht hup => ?_,
    fun v h hparams hv hnew => ?_, fun v h hparams hv hup => ?_⟩
  · have hbody := bodyMantelArea_ok (port := p.port) hlen ha hb hpairs
    rw [hidle, if_neg Bool.false_ne_true] at hbody
    by_cases hsame : c.p64 0 = u.mantel.areaA ∧ c.p64 2 = u.mantel.areaB
    · rw [if_pos hsame] at hbody ⊢
      exact exec_ok h rfl hbody h.up
    · rw [if_neg hsame] at hbody ⊢
      exact exec_wait h rfl hbody
  · have hbody := bodyMantelArea_ok (port := p.port) hlen ha hb hpairs
    rw [hbusy, if_pos rfl] at hbody
    exact exec_err h rfl hbody
  · exact exec_ok h rfl (bodyMantelAtlas_ok (port := p.port) hoff hn hd h1 h960 hlen hend hpad) hup
  · subst ht
    exact exec_noCommit h rfl (bodyMantelPalette_ok (port := p.port) hbank hfirst hn hb h1 h120 hend hf hlen hcol) hup
  · subst ht
    exact exec_noCommit h rfl (bodyMantelBackdrop_ok (port := p.port) hlen hcol) hup
  · subst ht
    exact exec_noCommit h rfl
      (bodyMantelSprites_ok (port := p.port) hfirst hn hlist hf h1 h60 hend h256 hlen hsprites hv) hup
  · exact exec_noCommit h rfl (bodyMantelCommit_ok (port := p.port) hparams hv hnew) h.up
  · exact exec_ok h rfl (bodyMantelArm_ok (port := p.port) hparams hv) hup

/-! ## MANTEL.STORE and CTM (R194, R216, R395) -/

section
variable {port : Nat} {c : Cmd} {u t : State}

/-- The parameters of MANTEL.STORE that are in range (R216). -/
structure StoreOk (c : Cmd) (ph off n k : Nat) (d : List Byte) : Prop where
  phase_eq : ph = c.p 0
  offset_eq : off = c.p 1
  count_eq : n = c.p 2
  words_eq : k = ceilDiv n 4
  bytes_eq : d = wordBytes ((c.params.drop 3).take k)
  phase : ph ≤ 2
  count : n ≤ 960
  fits : off + n ≤ imageBytes
  pad : ∀ b ∈ d.drop n, b = 0
  length : c.params.length = 3 + k + if ph = 2 then 1 else 0

variable {ph off n k : Nat} {d : List Byte} {img : Tab Nat}

theorem StoreOk.inRange (h : StoreOk c ph off n k d) :
    (decide (c.p 0 ≤ 2) && decide (c.p 2 ≤ 960) && decide (c.n = 3 + ceilDiv (c.p 2) 4 + if c.p 0 = 2 then 1 else 0) &&
      decide (c.p 1 + c.p 2 ≤ imageBytes) &&
      ((wordBytes ((c.params.drop 3).take (ceilDiv (c.p 2) 4))).drop (c.p 2)).all (· = 0)) = true := by
  obtain ⟨rfl, rfl, rfl, rfl, rfl, hphase, hcount, hfits, hpad, hlen⟩ := h
  rw [all_zero hpad]
  simp [Cmd.n, hlen, hphase, hcount, hfits]

theorem bodyMantelStore_begin (h : StoreOk c 0 off n k d) :
    bodyMantelStore port c u =
      .ok false [0] { u with mantel := { u.mantel with staging := some [], storeHigh := 0 } } := by
  refine (safe_true h.inRange _).trans ?_
  rw [← h.phase_eq]
  cases u.mantel.staging <;> rfl

theorem bodyMantelStore_data (h : StoreOk c 1 off n k d) (himg : u.mantel.staging = some img) :
    bodyMantelStore port c u = .ok false [u.mantel.storeHigh + n]
      { u with mantel := { u.mantel with staging := some (stageBytes img off (d.take n))
                                         storeHigh := u.mantel.storeHigh + n } } := by
  refine (safe_true h.inRange _).trans ?_
  obtain ⟨hph, rfl, rfl, rfl, rfl, -⟩ := h
  rw [← hph, himg]
  rfl

theorem bodyMantelStore_seal (h : StoreOk c 2 off n k d) (himg : u.mantel.staging = some img) :
    bodyMantelStore port c u = if sparseCrc img imageBytes = c.p (3 + k) then
      .wait { u with mantel := { u.mantel with sealing := some (port, c.tag) } } else .err stRange := by
  refine (safe_true h.inRange _).trans ?_
  obtain ⟨hph, rfl, rfl, rfl, rfl, -⟩ := h
  rw [← hph, himg]
  rfl

theorem bodyCtmWrite_ok {first : Nat} {es : List Nat} (hfirst : first = c.p 0) (hn : n = c.p 1) (h1 : 1 ≤ n) (h480 : n ≤ 480)
    (hlen : c.params.length = 2 + ceilDiv n 2) (hend : first + n ≤ 0x1000000) (hes : es = entriesOf n (c.params.drop 2))
    (hkinds : ∀ e ∈ es, e / 4096 ≤ 2) (hodd : n % 2 = 0 ∨ c.p (1 + ceilDiv n 2) < 65536) (hidle : u.mantel.sealed = none) :
    bodyCtmWrite port c u = if 65536 < u.mantel.ctmWrites + n then .err stNoResource
      else .ok false [] (u.addCtm { first := first, entries := es } n 0) := by
  subst hfirst hn hes
  have hall : ((entriesOf (c.p 1) (c.params.drop 2)).all fun e => decide (e / 4096 ≤ 2)) = true :=
    List.all_eq_true.mpr fun e he => decide_eq_true (hkinds e he)
  refine (safe_true ?_ _).trans ?_
  · rw [hall]
    simp [Cmd.n, hlen, h1, h480, hend, hodd]
  · rw [noCommit_eq, hidle]
    rfl

theorem bodyCtmFill_ok {a b e : Nat} (hparams : c.params = [a, b, e]) (he : e < 12288) (hx0 : u.wx / 8 ≤ a % 65536)
    (hx : a % 65536 ≤ b % 65536) (hx1 : b % 65536 < u.wx / 8 + 4096) (hy0 : u.wy / 8 ≤ a / 65536 % 65536)
    (hy : a / 65536 % 65536 ≤ b / 65536 % 65536) (hy1 : b / 65536 % 65536 < u.wy / 8 + 4096) (hidle : u.mantel.sealed = none) :
    bodyCtmFill port c u = if 256 ≤ u.mantel.ctmFills then .err stNoResource
      else .ok false [] (u.addCtm {
        first := (a % 65536 - u.wx / 8) + 65536 * (a / 65536 % 65536 - u.wy / 8)
        last := (b % 65536 - u.wx / 8) + 65536 * (b / 65536 % 65536 - u.wy / 8), fill := true, entries := [e] } 0 1) := by
  have h0 : c.p 0 = a := Cmd.p_eq hparams 0
  have h1 : c.p 1 = b := Cmd.p_eq hparams 1
  have h2 : c.p 2 = e := Cmd.p_eq hparams 2
  subst h0 h1 h2
  unfold bodyCtmFill
  simp only [bits_half]
  rw [safe_true (by simp [Cmd.n_eq hparams, he, hx0, hx, hx1, hy0, hy, hy1]), noCommit_eq, hidle]
  rfl

theorem bodyCtmRead_ok {first : Nat} (hparams : c.params = [first, n]) (h1 : 1 ≤ n) (h480 : n ≤ 480)
    (hend : first + n ≤ 0x1000000) :
    bodyCtmRead port c u = .ok false (packEntries ((List.range n).map fun i =>
      ofLe (((u.mantelRead (ctmPart + 2 * first) (2 * n)).1.drop (2 * i)).take 2)))
      (u.mantelRead (ctmPart + 2 * first) (2 * n)).2.2 := by
  have hp0 : c.p 0 = first := Cmd.p_eq hparams 0
  have hp1 : c.p 1 = n := Cmd.p_eq hparams 1
  subst hp0 hp1
  exact safe_true (by simp [Cmd.n_eq hparams, h1, h480, hend]) _

end

section
variable {sp : OpSpec} {p : Pkt} {s u t : State} {c : Cmd} {ws : List Nat} {i : Instr} {q : Prop} {st : Nat} {cl : Bool}

/-- A row that refuses with a status where `q` holds, and else replies OK. -/
theorem exec_refusing [Decidable q] (h : Passes sp p s u c) (he : exec i s = packet sp p s)
    (hb : sp.body p.port c u = if q then .err st else .ok cl ws t) (ht : t.pwr.step ≠ .aoBoot) :
    exec i s = .next (settle (if q then u.replyErr p.port c st else t.replyOk sp p.port c cl ws)) := by
  by_cases hq : q
  · rw [if_pos hq] at hb ⊢
    exact exec_err h he hb
  · rw [if_neg hq] at hb ⊢
    exact exec_ok h he hb ht

end

/-- Settles O16. The staging bytes and the running sum of MANTEL.STORE are those of log entry 65; that the reply counts the
bytes of every DATA is the model's reading of R395. -/
theorem mantelStoreAndCtmComplete : Obligations.MantelStoreAndCtmComplete := by
  refine fun p s u c => ⟨fun ph off n k d h hph hoff hn hk hd hcount hfits hpad => ⟨fun h0 hlen => ?_, fun t h1 hlen himg => ?_,
    fun t h2 hlen himg hcrc => ?_, fun t h2 hlen himg hcrc => ?_⟩, fun h hparams => ?_,
    fun first n es h hfirst hn h1 h480 hlen hend hes hkinds hodd hidle => ?_,
    fun a b e h hparams he hx0 hx hx1 hy0 hy hy1 hidle => ?_, fun first n h hparams h1 h480 hend hup => ?_⟩
  · subst h0
    exact exec_ok h rfl (bodyMantelStore_begin ⟨hph, hoff, hn, hk, hd, by decide, hcount, hfits, hpad, hlen⟩) h.up
  · subst h1
    exact exec_ok h rfl (bodyMantelStore_data ⟨hph, hoff, hn, hk, hd, by decide, hcount, hfits, hpad, hlen⟩ himg) h.up
  · subst h2
    have hbody := bodyMantelStore_seal (port := p.port) (u := u)
      ⟨hph, hoff, hn, hk, hd, by decide, hcount, hfits, hpad, by rw [if_pos rfl]; omega⟩ himg
    rw [if_pos hcrc] at hbody
    exact exec_wait h rfl hbody
  · subst h2
    have hbody := bodyMantelStore_seal (port := p.port) (u := u)
      ⟨hph, hoff, hn, hk, hd, by decide, hcount, hfits, hpad, by rw [if_pos rfl]; omega⟩ himg
    rw [if_neg hcrc] at hbody
    exact exec_err h rfl hbody
  · exact exec_ok h rfl (safe_true (by simp [Cmd.n_eq hparams]) _) h.up
  · exact exec_refusing h rfl
      (bodyCtmWrite_ok (port := p.port) hfirst hn h1 h480 hlen hend hes hkinds hodd hidle) h.up
  · exact exec_refusing h rfl (bodyCtmFill_ok (port := p.port) hparams he hx0 hx hx1 hy0 hy hy1 hidle) h.up
  · exact exec_ok h rfl (bodyCtmRead_ok (port := p.port) hparams h1 h480 hend) hup

/-! ## VERIFY (R204-R214, R397) -/

section
variable {port : Nat} {c : Cmd} {u t : State}

/-- VERIFY.EXPECT with entries in range: those not stale are stored, or a group has no place left (R205, R206). -/
theorem bodyVerifyExpect_ok {n : Nat} {es : List (Nat × Nat × Nat × Nat)} {k : Nat} {stale : Nat → Bool}
    (hlen : c.params.length = 3 * n) (h1 : 1 ≤ n) (h80 : n ≤ 80) (hes : es = (List.range n).map (expectAt c))
    (hk : k = (u.head c.idx).seq) (hstale : stale = fun q => decide (1 ≤ seqDist k q) && decide (seqDist k q ≤ 64))
    (hentries : ∀ i < n, bits (c.p (3 * i)) 15 8 = 0 ∧ bits (c.p (3 * i + 1)) 31 16 = 0 ∧
      (seqDist (expectAt c i).2.1 k < 64 ∨ stale (expectAt c i).2.1 = true)) :
    bodyVerifyExpect port c u =
      match (u.modHead c.idx Head.dropStale).storeRefs c.idx (es.filter fun e => !stale e.2.1) with
      | none => .err stNoResource
      | some t => .ok false ([n - ((List.range n).filter fun i => stale (expectAt c i).2.1).length,
          ((List.range n).filter fun i => stale (expectAt c i).2.1).length] ++
          (List.range n).filter fun i => stale (expectAt c i).2.1) t := by
  have hn : c.n / 3 = n := by rw [Cmd.n, hlen]; omega
  have hget {i : Nat} (hi : i ∈ List.range n) : es.getD i (0, 0, 0, 0) = expectAt c i := by
    rw [List.mem_range] at hi
    simp [hes, hi]
  have hold : ((List.range n).filter fun i => stale (es.getD i (0, 0, 0, 0)).2.1) =
      (List.range n).filter fun i => stale (expectAt c i).2.1 := List.filter_congr fun i hi => by rw [hget hi]
  have hall : ((List.range n).all fun i => decide (bits (c.p (3 * i)) 15 8 = 0) && decide (bits (c.p (3 * i + 1)) 31 16 = 0) &&
      (decide (seqDist (es.getD i (0, 0, 0, 0)).2.1 k < 64) || stale (es.getD i (0, 0, 0, 0)).2.1)) = true := by
    refine List.all_eq_true.mpr fun i hi => ?_
    obtain ⟨hgroup, hversion, hseq⟩ := hentries i (List.mem_range.mp hi)
    simpa only [hget hi, hgroup, hversion, decide_true, Bool.true_and, Bool.or_eq_true, decide_eq_true_eq] using hseq
  unfold bodyVerifyExpect
  dsimp only
  rw [hn, ← hes, ← hk]
  simp only [hstale] at hall hold ⊢
  rw [safe_true (by rw [hall]; simp [Cmd.n, hlen, h1, h80]), hold] <;> rfl

theorem bodyVerifyReact_ok {k th nt e a : Nat} {r : React} (hparams : c.params = [k, th, nt, e, a]) (hk : k ≤ 4)
    (h1 : 1 ≤ th) (h16 : th ≤ 16) (hnt : nt ≤ 2) (he : e ≤ 1) (ha : a ≤ 2)
    (hr : r = { threshold := th, notify := nt, errPin := decide (e = 1), action := a }) :
    bodyVerifyReact port c u = .ok false [] ((if c.level = 4 then [c.idx] else List.range 128).foldl
      (fun v h => v.modHead h fun d => { d with reacts := tset d.reacts k r }) u) := by
  refine (safe_true (by simp [Cmd.n_eq hparams, Cmd.p_eq hparams, hk, h1, h16, hnt, he, ha]) _).trans ?_
  rw [hr]
  simp only [Cmd.p_eq hparams]
  rfl

theorem bits_tile (v : Nat) : bits v 11 0 = v % 4096 ∧ bits v 27 16 = v / 65536 % 4096 := by simp [bits]

end

/-- Settles O17. Which entries are stale, and that free places are counted before a group refuses, is log entry 36. -/
theorem verifyCommandsComplete : Obligations.VerifyCommandsComplete := by
  refine fun p s u c => ⟨fun n es k stale h hlen h1 h80 hes hk hstale hentries => ?_,
    fun k th nt e a r t h hparams hk h1 h16 hnt he ha hr ht hup => ?_, fun d h hparams hd => ?_, fun g h hparams hg => ?_,
    fun e h hparams he => ?_, fun a b h hparams ha hb => ?_, fun d h hparams hd => ?_⟩
  · have hbody := bodyVerifyExpect_ok (port := p.port) hlen h1 h80 hes hk hstale hentries
    refine ⟨fun hfull => ?_, fun t hstored hup => ?_⟩
    · rw [hfull] at hbody
      exact exec_err h rfl hbody
    · rw [hstored] at hbody
      exact exec_ok h rfl hbody hup
  · subst ht
    exact exec_ok h rfl (bodyVerifyReact_ok (port := p.port) hparams hk h1 h16 hnt he ha hr) hup
  · subst hd
    exact exec_ok h rfl (safe_true (by simp [Cmd.n_eq hparams]) _) h.up
  · refine exec_ok h rfl ((safe_true (by simp [Cmd.n_eq hparams, Cmd.p_eq hparams, hg]) _).trans ?_) h.up
    rw [Cmd.p_eq hparams]
    rfl
  · refine exec_ok h rfl ((safe_true (by simp [Cmd.n_eq hparams, Cmd.p_eq hparams, he]) _).trans ?_) h.up
    rw [Cmd.p_eq hparams]
    rfl
  · refine exec_ok h rfl ((safe_true (by simp [Cmd.n_eq hparams, Cmd.p_eq hparams, ha, hb]) _).trans ?_) h.up
    simp only [Cmd.p_eq hparams, bits_tile]
    rfl
  · subst hd
    exact exec_ok h rfl (safe_true (by simp [Cmd.n_eq hparams]) _) h.up

end Sys2Proof.Machine

/-! The FAULT, IRQ, DMA, TELEM and WEAR commands (R398-R401, R453, R463-R476, R499-R503). -/

namespace Sys2Proof.Machine

/-- A number differs from another as a Bool exactly where it does. -/
theorem bne_eq_decide_ne (x y : Nat) : (x != y) = decide (x ≠ y) := by
  by_cases h : x = y <;> simp [h]

/-! ## FAULT and IRQ (R398, R399) -/

section
variable {sp : OpSpec} {p : Pkt} {s u t : State} {c : Cmd} {cl : Bool} {ws : List Nat} {i : Instr}

/-- A command whose effect resets the device gives no reply. -/
theorem exec_reset (h : Passes sp p s u c) (hm : sp.m c = false) (he : exec i s = packet sp p s)
    (hb : sp.body p.port c u = .ok cl ws t) (hreset : t.pwr.step = .aoBoot) : exec i s = .next (settle t) := by
  have hup := h.up
  obtain ⟨hready, rfl, rfl⟩ := h
  have hwas : wasReset (s.taken p) t = true := by simp only [wasReset, hreset, hup, ne_eq, not_false_iff, decide_true, Bool.and_self]
  have hrun : runPacket sp p s = t := by
    rw [runPacket_ready hready, hb, genStep_plain hm]
    simp only [State.answer, Res.words, hwas, if_true]
  rw [he, packet, hrun]

end

section
variable {port n w m : Nat} {c : Cmd} {u : State}

theorem withRecord_present {b : Nat} (hb : c.p 0 = b) (h : c.level = 2 ∨ b < 16) (k : Res) : withRecord c k = k :=
  if_pos (by rw [hb]; exact h)

theorem withSource_present (hreserved : srcReserved n = false) (habsent : u.srcAbsent n = false) (k : Res) :
    withSource u n k = k := by
  rw [withSource, hreserved, habsent, if_neg Bool.false_ne_true, if_neg Bool.false_ne_true]

theorem withOrdSource_live (h : u.srcLive n = true) (k : Res) : withOrdSource u n k = k := if_pos h

theorem bodyFaultClear_eq {b lo hi : Nat} {r : FaultRec} {m : DWord} (hparams : c.params = [b, lo, hi])
    (hb : c.level = 2 ∨ b < 16) (hr : r = u.frec c.record) (hm : m = BitVec.ofNat 64 (lo + hi * 2 ^ 32)) :
    bodyFaultClear port c u = .ok false (words64 (r.sticky &&& m &&& ~~~r.live).toNat) (u.setFrec c.record (r.clear m)) := by
  have hm' : BitVec.ofNat 64 (c.p64 1) = m := by rw [Cmd.p64_eq hparams, hm]; rfl
  refine (withLen_eq (by rw [hparams]; rfl) _).trans ((withRecord_present (Cmd.p_eq hparams 0) hb _).trans ?_)
  rw [hm', hr]
  rfl

theorem routeWord_eq (w : Nat) : routeWord w = min 2 (w % 4) + w / 4 % 8192 * 4 := by simp [routeWord, bits]

theorem bodyIrqRoute_open (hparams : c.params = [n, w]) (hlive : u.srcLive n = true) (hfree : u.frozenFor c (n / 256) = false)
    (hprot : rProtected (u.react n) = true → c.cls = clsS ∧ bits w 1 0 ≠ 3 ∧ w ≤ 32767) (hurgent : urgentVector w = false) :
    bodyIrqRoute port c u = .ok (decide (w % 32768 ≠ routeWord w)) [n, routeWord w]
      { u with irq := { u.irq with target := tset u.irq.target n (routeWord w) } } := by
  have h0 : c.p 0 = n := Cmd.p_eq hparams 0
  have h1 : c.p 1 = w := Cmd.p_eq hparams 1
  have hclass : ¬((rProtected (u.react n) = true ∨ urgentVector w = true) ∧ c.cls ≠ clsS) := by
    rintro ⟨hp | hv, hc⟩
    · exact hc (hprot hp).1
    · rw [hurgent] at hv; exact Bool.false_ne_true hv
  have hword : ¬((rProtected (u.react n) = true ∨ urgentVector w = true) ∧
      (bits w 1 0 = 3 ∨ 32767 < w ∨ urgentVector w = true)) := by
    rw [hurgent]
    rintro ⟨hp | hv, hbad⟩
    · obtain ⟨-, h3, hmax⟩ := hprot hp
      simp only [Bool.false_eq_true, or_false] at hbad
      omega
    · exact Bool.false_ne_true hv
  refine (withLen_eq (by rw [hparams]; rfl) _).trans ?_
  rw [h0, withOrdSource_live hlive]
  dsimp only
  rw [h1, if_neg hclass, hfree, if_neg Bool.false_ne_true, if_neg hword]
  simp [applied]

theorem bodyIrqMask_open (hparams : c.params = [n, m]) (hlive : u.srcLive n = true)
    (hprot : rProtected (u.react n) = true → c.cls = clsS ∧ m ≤ 1) :
    bodyIrqMask port c u = .ok (decide (m ≠ min 1 m)) [n, min 1 m] (u.setMask n (decide (m ≠ 0))) := by
  have h0 : c.p 0 = n := Cmd.p_eq hparams 0
  have h1 : c.p 1 = m := Cmd.p_eq hparams 1
  have hclass : ¬(rProtected (u.react n) = true ∧ c.cls ≠ clsS) := fun ⟨hp, hc⟩ => hc (hprot hp).1
  have hword : ¬(rProtected (u.react n) = true ∧ 1 < m) := fun ⟨hp, hc⟩ => absurd (hprot hp).2 (Nat.not_le.mpr hc)
  refine (withLen_eq (by rw [hparams]; rfl) _).trans ?_
  rw [h0, withOrdSource_live hlive]
  dsimp only
  rw [h1, if_neg hclass, if_neg hword]
  simp [applied, hparams]

theorem bodyIrqHoldoff_open {g t : Nat} (hparams : c.params = [g, t]) (hg : g < 16) (hdie : u.dieState (g / 8) ≠ 0)
    (hfree : u.frozenFor c (g / 8) = false) :
    bodyIrqHoldoff port c u = .ok (decide (t ≠ min 65535 t)) [g, min 65535 t]
      { u with irq := { u.irq with holdoff := tset u.irq.holdoff g (min 65535 t) } } := by
  have h0 : c.p 0 = g := Cmd.p_eq hparams 0
  have h1 : c.p 1 = t := Cmd.p_eq hparams 1
  refine (withLen_eq (by rw [hparams]; rfl) _).trans ?_
  rw [h0, h1, if_neg (Nat.not_le.mpr hg), if_neg hdie, hfree, if_neg Bool.false_ne_true]
  simp [applied, hparams]

end

/-- Settles O18. The width of the Bark pulse is in the unit of R398, microseconds; protection goes by the reaction word in force (log
entry 127), and the record of level PKG is log entry 126. -/
theorem faultAndIrqCommandsComplete : Obligations.FaultAndIrqCommandsComplete := by
  refine fun p s u c => ⟨fun b r h hparams hb hr => ?_, fun b lo hi r m h hparams hb hr hm => ?_,
    fun n w h hparams hreserved habsent hverify hok => ?_, fun w h hparams => ?_, fun n h hparams hreserved habsent => ?_,
    fun n w h hparams hlive hfree hprot hurgent => ?_, fun n m h hparams hlive hprot => ?_,
    fun g t h hparams hg hdie hfree => ?_, fun a n h hparams hn => ?_⟩
  · subst hr
    exact exec_ok h rfl
      ((withLen_eq (by rw [hparams]; rfl) _).trans (withRecord_present (Cmd.p_eq hparams 0) hb _)) h.up
  · exact exec_ok h rfl (bodyFaultClear_eq (port := p.port) hparams hb hr hm) h.up
  · refine exec_ok h rfl ((withLen_eq (by rw [hparams]; rfl) _).trans ?_) h.up
    rw [Cmd.p_eq hparams, Cmd.p_eq hparams]
    refine (withSource_present hreserved habsent _).trans (if_neg ?_)
    simp [hverify, hok]
  · have hbody : bodyFaultBark p.port c u =
        if 2 ≤ w ∧ w ≤ 250 then .ok false [] { u with faults := { u.faults with bark := w } } else .err stRange := by
      refine (withLen_eq (by rw [hparams]; rfl) _).trans ?_
      rw [Cmd.p_eq hparams]
      rfl
    by_cases hw : 2 ≤ w ∧ w ≤ 250
    · rw [if_pos hw] at hbody ⊢
      exact exec_ok h rfl hbody h.up
    · rw [if_neg hw] at hbody ⊢
      exact exec_err h rfl hbody
  · have hbody : bodyFaultInject p.port c u = .ok false [] (u.inject n) := by
      refine (withLen_eq (by rw [hparams]; rfl) _).trans ?_
      rw [Cmd.p_eq hparams]
      exact withSource_present hreserved habsent _
    by_cases hreset : (u.inject n).pwr.step = .aoBoot
    · rw [if_pos hreset]
      exact exec_reset h rfl rfl hbody hreset
    · rw [if_neg hreset]
      exact exec_ok h rfl hbody hreset
  · rw [← routeWord_eq]
    exact exec_ok h rfl (bodyIrqRoute_open (port := p.port) hparams hlive hfree hprot hurgent) h.up
  · refine (exec_ok h rfl (bodyIrqMask_open (port := p.port) hparams hlive hprot) h.up).trans ?_
    simp only [State.setMask, decide_eq_true_eq]
  · exact exec_ok h rfl (bodyIrqHoldoff_open (port := p.port) hparams hg hdie hfree) h.up
  · subst hn
    refine exec_ok h rfl ((withLen_eq (by rw [hparams]; rfl) _).trans ?_) h.up
    rw [Cmd.p_eq hparams]
    exact congrArg (fun clamped => Res.ok clamped _ _) (bne_eq_decide_ne _ a)

/-! ## DMA (R400, R453) -/

section
variable {port ch n : Nat} {c : Cmd} {u : State}

theorem withChanWrite_withLen (h0 : c.p 0 = ch) (hch : ch ≤ 31) (hopen : u.mayWrite 3 ch c.master = true)
    (hstate : u.chanState ch = 1) (hlen : c.params.length = n) (k : Res) : withChanWrite u c (withLen c n k) = k := by
  rw [withChanWrite, h0, if_neg (Nat.not_lt.mpr hch), withWrite_open hopen, hstate, withUnit_inService, withLen_eq hlen]

theorem bodyDmaOwn_idle {o : Nat} (hparams : c.params = [ch, o]) (hch : ch ≤ 31) (hstate : u.chanState ch = 1) (ho : o ≤ 17)
    (hclass : c.cls = clsS ∨ o ≠ 0 ∧ (u.chan ch).owner ≠ 0) (hidle : (u.chan ch).state ∉ [1, 2, 3])
    (hstop : (u.chan ch).stopping = false) :
    bodyDmaOwn port c u = .ok false [ch, o]
      (u.setChan ch { (u.chan ch).toIdle with owner := o, pause := (u.chan ch).pause }) := by
  have h0 : c.p 0 = ch := Cmd.p_eq hparams 0
  have h1 : c.p 1 = o := Cmd.p_eq hparams 1
  subst h0 h1
  have hallowed : ¬((c.p 1 = 0 ∨ (u.chan (c.p 0)).owner = 0) ∧ c.cls ≠ clsS) := by
    rintro ⟨hzero, hcls⟩
    obtain ⟨ho', hown⟩ := hclass.resolve_left hcls
    exact hzero.elim ho' hown
  have hready : ¬((u.chan (c.p 0)).state = 1 ∨ (u.chan (c.p 0)).state = 2 ∨ (u.chan (c.p 0)).state = 3 ∨
      (u.chan (c.p 0)).stopping = true) := by
    rw [hstop]
    simpa using hidle
  refine (withLen_eq (by rw [hparams]; rfl) _).trans ?_
  rw [withChan, if_neg (Nat.not_lt.mpr hch), hstate, withUnit_inService]
  dsimp only
  rw [if_neg (Nat.not_lt.mpr ho), if_neg hallowed, if_neg hready, applied_nil]
  simp [hparams]

theorem bodyDmaSetup_open {r v : Nat} (hparams : c.params = [ch, r, v]) (hch : ch ≤ 31)
    (hopen : u.mayWrite 3 ch c.master = true) (hstate : u.chanState ch = 1) :
    bodyDmaSetup port c u = .ok (decide ([r, v] ≠ [min 15 r, min 3 v])) [ch, min 15 r, min 3 v]
      (u.modChan ch fun k => { k with maxRetries := min 15 r, unit := min 3 v }) := by
  refine (withChanWrite_withLen (Cmd.p_eq hparams 0) hch hopen hstate (by rw [hparams]; rfl) _).trans ?_
  simp [applied, Cmd.p_eq hparams, hparams]

theorem bodyDmaToken_read {t w : Nat} (hparams : c.params = [t, 0, w]) (ht : t ≤ 255) :
    bodyDmaToken port c u = .ok false [tget 0 u.tokens t] u := by
  refine (withLen_eq (by rw [hparams]; rfl) _).trans ?_
  simp [Cmd.p_eq hparams, Nat.not_lt.mpr ht]

theorem bodyDmaToken_write {t w : Nat} (hparams : c.params = [t, 1, w]) (ht : t ≤ 255) :
    bodyDmaToken port c u = .ok (decide (65535 < w)) [min 65535 w] { u with tokens := tset u.tokens t (min 65535 w) } := by
  refine (withLen_eq (by rw [hparams]; rfl) _).trans ?_
  simp [Cmd.p_eq hparams, Nat.not_lt.mpr ht]

theorem bodyDmaPause_open {on : Nat} {t : State} (hparams : c.params = [ch, on]) (hch : ch ≤ 31)
    (hopen : u.mayWrite 3 ch c.master = true) (hstate : u.chanState ch = 1) (ht : t = u.setPause ch (decide (on ≠ 0))) :
    bodyDmaPause port c u = if (t.chan ch).state = 2 then .wait t else .ok (decide (1 < on)) (t.chan ch).place t := by
  have h0 : c.p 0 = ch := Cmd.p_eq hparams 0
  have h1 : c.p 1 = on := Cmd.p_eq hparams 1
  subst h0 h1 ht
  exact withChanWrite_withLen rfl hch hopen hstate (by rw [hparams]; rfl) _

theorem setPause_pwr (s : State) (ch : Nat) (on : Bool) : (s.setPause ch on).pwr = s.pwr := by
  cases on <;> rfl

theorem bodyDmaRead_open {k : Chan} (hparams : c.params = [ch]) (hch : ch ≤ 31) (hopen : u.mayRead 3 ch c.master = true)
    (hstate : u.chanState ch = 1) (hk : k = u.chan ch) :
    bodyDmaRead port c u = .ok false ([k.state, k.owner] ++ k.place) u := by
  have h0 : c.p 0 = ch := Cmd.p_eq hparams 0
  subst h0 hk
  rw [bodyDmaRead, if_neg (Nat.not_lt.mpr hch), withRead_open hopen, withLen_eq (by rw [hparams]; rfl), hstate,
    withUnit_inService]

/-! ## TELEM and WEAR (R401, R499-R503) -/

theorem bodyTelemRead_eq {x i : Nat} (hparams : c.params = [x, i]) (hstate : u.telemUnit (min 5 x) i = 1) :
    bodyTelemRead port c u = .ok (decide (min 5 x ≠ x)) (u.telemWords (min 5 x) i) { u with freeCtr := u.freeCtr + 2 } := by
  have h0 : c.p 0 = x := Cmd.p_eq hparams 0
  have h1 : c.p 1 = i := Cmd.p_eq hparams 1
  subst h0 h1
  refine (withLen_eq (by rw [hparams]; rfl) _).trans ?_
  dsimp only
  rw [hstate, withUnit_inService]
  rfl

theorem bodyTelemPush_eq {lo hi sz pe st : Nat} (hparams : c.params = [lo, hi, sz, pe, st]) :
    bodyTelemPush port c u = .ok (decide ([sz, pe] ≠ [clampN 4096 1048576 sz, min 10000 pe]))
      [lo, hi, clampN 4096 1048576 sz, min 10000 pe, st % 64]
      { u with telem := { u.telem with
          ringBase := lo + hi * 2 ^ 32, ringSize := clampN 4096 1048576 sz, period := min 10000 pe, sets := st % 64
          ringOff := 64, ringN := 0, pushMaster := c.master } } := by
  refine (withLen_eq (by rw [hparams]; rfl) _).trans ?_
  simp [applied, Cmd.p_eq hparams, Cmd.p64_eq hparams, hparams, cat64]

theorem bodyTelemLimit_ok {lo hi src : Nat} (hparams : c.params = [n, lo, hi, src]) (hn : n < 72)
    (hunit : (if n < 64 then u.dieState (n / 32) else u.regionState (n - 64)) ≠ 0) (hlo : limitOk n lo = true)
    (hhi : limitOk n hi = true) (horder : limitOf n lo ≤ limitOf n hi) (hsrc : 224 ≤ src % 256) (hmax : src < 512)
    (hreserved : srcReserved src = false) (habsent : u.srcAbsent src = false) :
    bodyTelemLimit port c u = .ok false [] { u with telem := { u.telem with
      limits := tset u.telem.limits n (limitOf n lo, limitOf n hi, src), crossed := dropOf u.telem.crossed n } } := by
  have h0 : c.p 0 = n := Cmd.p_eq hparams 0
  have h1 : c.p 1 = lo := Cmd.p_eq hparams 1
  have h2 : c.p 2 = hi := Cmd.p_eq hparams 2
  have h3 : c.p 3 = src := Cmd.p_eq hparams 3
  subst h0 h1 h2 h3
  have hlimits : ¬((!limitOk (c.p 0) (c.p 1)) = true ∨ (!limitOk (c.p 0) (c.p 2)) = true ∨
      limitOf (c.p 0) (c.p 2) < limitOf (c.p 0) (c.p 1)) := by
    simp [hlo, hhi, horder]
  refine (withLen_eq (by rw [hparams]; rfl) _).trans ?_
  dsimp only
  rw [if_neg (Nat.not_le.mpr hn), if_neg hunit, if_neg hlimits, if_neg (by omega), withSource_present hreserved habsent]
  rfl

theorem bodyWearRead_eq {a b first : Nat} {h : Head} (hparams : c.params = [a, b]) (hopen : u.mayRead 2 c.idx c.master = true)
    (hh : h = u.head c.idx) (hfirst : first = min a (h.blocks - 1)) (hn : n = min (clampN 1 120 b) (h.blocks - first)) :
    bodyWearRead port c u = .ok (decide ([first, n] ≠ [a, b]))
      ((List.range n).flatMap fun i => [tget 0 h.dwell (first + i), tget 0 h.lum (first + i)]) u := by
  have h0 : c.p 0 = a := Cmd.p_eq hparams 0
  have h1 : c.p 1 = b := Cmd.p_eq hparams 1
  subst h0 h1 hh hfirst hn
  rw [bodyWearRead, withRead_open hopen, withLen_eq (by rw [hparams]; rfl), hparams]

end

/-- Settles O19. The numbers of the sensors and the clamp of TELEM.READ's set are log entry 72, the status and owner codes
of DMA.READ log entry 21. -/
theorem dmaAndTelemetryCommandsComplete : Obligations.DmaAndTelemetryCommandsComplete := by
  refine fun p s u c => ⟨fun ch o h hparams hch hstate ho hclass hidle hstop => ?_,
    fun ch r v h hparams hch hopen hstate => ?_, fun t w h hparams ht => ?_, fun t w h hparams ht => ?_,
    fun ch on t h hparams hch hopen hstate ht => ?_, fun ch k h hparams hch hopen hstate hk => ?_,
    fun x i h hparams hstate => ?_, fun lo hi sz pe st h hparams => ?_,
    fun n lo hi src h hparams hn hunit hlo hhi horder hsrc hmax hreserved habsent => ?_, fun h hlen hopen hview => ?_,
    fun port a m t h hparams ht hadm => ?_, fun v h hparams hopen => ?_, fun a b hd first n h hparams hopen hh hfirst hn => ?_⟩
  · exact exec_ok h rfl (bodyDmaOwn_idle (port := p.port) hparams hch hstate ho hclass hidle hstop) h.up
  · exact exec_ok h rfl (bodyDmaSetup_open (port := p.port) hparams hch hopen hstate) h.up
  · exact exec_ok h rfl (bodyDmaToken_read (port := p.port) hparams ht) h.up
  · exact exec_ok h rfl (bodyDmaToken_write (port := p.port) hparams ht) h.up
  · have hbody := bodyDmaPause_open (port := p.port) hparams hch hopen hstate ht
    by_cases hdrain : (t.chan ch).state = 2
    · rw [if_pos hdrain] at hbody ⊢
      exact exec_wait h rfl hbody
    · rw [if_neg hdrain] at hbody ⊢
      refine exec_ok h rfl hbody ?_
      rw [ht, setPause_pwr]
      exact h.up
  · exact exec_ok h rfl (bodyDmaRead_open (port := p.port) hparams hch hopen hstate hk) h.up
  · exact exec_ok h rfl (bodyTelemRead_eq (port := p.port) hparams hstate) h.up
  · exact exec_ok h rfl (bodyTelemPush_eq (port := p.port) hparams) h.up
  · exact exec_ok h rfl
      (bodyTelemLimit_ok (port := p.port) hparams hn hunit hlo hhi horder hsrc hmax hreserved habsent) h.up
  · refine exec_admission h rfl ((withWrite_withLen hopen hlen _).trans ?_)
    rw [hview, if_neg Bool.false_ne_true]
  · refine exec_judged_plain h rfl rfl ?_ hadm
    show judgeWearOrbit port c u = _
    rw [judgeWearOrbit, applied_nil, ht]
    simp [orbitWords, Cmd.p_eq hparams, hparams]
  · refine exec_ok h rfl ((withWrite_withLen hopen (by rw [hparams]; rfl) _).trans ?_) h.up
    simp [applied, Cmd.p_eq hparams, hparams]
  · exact exec_ok h rfl (bodyWearRead_eq (port := p.port) hparams hopen hh hfirst hn) h.up

end Sys2Proof.Machine

/-! The REPAIR, CASC and SVC commands, and the transactions of the S-port and the test access port (R363-R366, R402,
R481, R510, R547-R549, R563). -/

namespace Sys2Proof.Machine

/-! ## REPAIR, CASC and SVC -/

section
variable {port : Nat} {c : Cmd} {u t : State}

theorem bodyRepairLedger_eq {a n : Nat} (hparams : c.params = [a, n]) :
    bodyRepairLedger port c u = .ok (decide (clampN 1 60 n ≠ n)) ((u.repair.ledger.drop a).take (clampN 1 60 n)).flatten u := by
  refine (withLen_eq (by rw [hparams]; rfl) _).trans ?_
  rw [Cmd.p_eq hparams, Cmd.p_eq hparams]
  rfl

theorem bodyRepairRetire_inService {k i : Nat} (hparams : c.params = [k, i]) (hstate : u.retireUnit (min 3 k) i = 1)
    (ht : t = u.retireKind (min 3 k) i) :
    bodyRepairRetire port c u = .ok (decide (min 3 k ≠ k)) [t.retireUnit (min 3 k) i] t := by
  have h0 : c.p 0 = k := Cmd.p_eq hparams 0
  have h1 : c.p 1 = i := Cmd.p_eq hparams 1
  subst h0 h1 ht
  refine (withLen_eq (by rw [hparams]; rfl) _).trans ?_
  dsimp only
  rw [hstate, if_neg (by omega), withUnit_inService]

theorem bodyCascCeiling_own {v w : Nat} (hparams : c.params = [v]) (hw : w = if v < 4 then v else 0) :
    bodyCascCeiling 16 c u = if u.casc.cRun = true ∧ u.casc.ceiling < w then .err stBusy
      else .ok (decide (v ≠ w)) [w] { u with casc := { u.casc with ceiling := w } } := by
  have h0 : enumOr 4 0 (c.p 0) = w := by rw [Cmd.p_eq hparams, hw]; rfl
  refine (if_neg (by decide)).trans ((withLen_eq (by rw [hparams]; rfl) _).trans ?_)
  dsimp only
  rw [h0, applied_nil, hparams]
  simp

theorem bodyCascDeputy_own {v : Nat} (hparams : c.params = [v])
    (ht : t = ({ u with casc := { u.casc with
          deputy := deputyOf v, handback := u.casc.handback || (u.role = 3 && deputyOf v = 255) } } : State)) :
    bodyCascDeputy 16 c u = .ok (decide (v ≠ deputyOf v)) [deputyOf v]
      (if u.role = 3 ∧ deputyOf v = 255 ∧ u.casc.handback = false then t.handOver else t) := by
  refine (if_neg (by decide)).trans ((withLen_eq (by rw [hparams]; rfl) _).trans ?_)
  dsimp only
  rw [Cmd.p_eq hparams, List.getD_cons_zero, applied_nil, hparams, ht]
  simp

theorem bodySvcExit_service {v : Nat} (hparams : c.params = [v]) (hidle : u.pwr.target = none) (hservice : u.pwr.state = .service) :
    bodySvcExit port c u = .ok (decide (min 1 v ≠ v)) [min 1 v] (u.decide (if v = 0 then .ready else .active) 0x1601) := by
  refine (withLen_eq (by rw [hparams]; rfl) _).trans ?_
  have hzero : min 1 v = 0 ↔ v = 0 := by omega
  rw [Cmd.p_eq hparams, List.getD_cons_zero]
  dsimp only
  rw [if_neg (by simp [hidle, hservice])]
  simp only [hzero]

theorem bodySvcBist_inService {k i : Nat} (hparams : c.params = [k, i]) (hlevel : if 3 ≤ k then c.level = 1 else c.level = 3)
    (hstate : u.bistUnit c = 1) : bodySvcBist port c u = .ok (decide (3 < k))
      [b2n (Config.freeBool u.freeCtr), (Config.freeWord u.freeCtr).toNat] { u with freeCtr := u.freeCtr + 1 } := by
  have h0 : c.p 0 = k := Cmd.p_eq hparams 0
  subst h0
  have hlevel' : bistLevel c = true := by
    have hkind : min 3 (c.p 0) = 3 ↔ 3 ≤ c.p 0 := by omega
    unfold bistLevel
    simp only [hkind]
    split at hlevel
    · rw [if_pos ‹_›, decide_eq_true hlevel]
    · rw [if_neg ‹_›, decide_eq_true hlevel]
  refine (withLen_eq (by rw [hparams]; rfl) _).trans ?_
  rw [hlevel', hstate]
  rfl

theorem bodySvcClkobs_eq {r v : Nat} (hparams : c.params = [r, v]) :
    bodySvcClkobs port c u = .ok (decide ([r, v] ≠ [min 69 r, clampN 1 64 v])) [min 69 r, clampN 1 64 v]
      (u.modSynth (synthOfRecord c.idx (min 69 r)) fun y => { y with fb1Div := clampN 1 64 v, fb1En := true }) := by
  refine (withLen_eq (by rw [hparams]; rfl) _).trans ?_
  rw [Cmd.p_eq hparams, Cmd.p_eq hparams]
  dsimp only
  rw [applied_nil, hparams]
  rfl

end

/-- Settles O20. The deputies 8 to 254 and the own S-port of CASC.DEPUTY are log entry 74, the configuration that a handback
sends log entry 135, the free results of SVC.BIST log entry 73. -/
theorem repairCascadeServiceCommandsComplete : Obligations.RepairCascadeServiceCommandsComplete := by
  refine fun p s u c => ⟨fun a n h hparams => ?_, fun k i t h hparams hstate ht hup => ?_, fun h hparams => ?_,
    fun v w h hport hparams hw => ?_, fun v t h hport hparams ht => ?_, fun h hparams => ?_,
    fun v h hparams hservice => ?_, fun k i h hparams hlevel hstate => ?_, fun r v h hparams => ?_,
    fun n r h hlen hn hr hup => ?_⟩
  · exact exec_ok h rfl (bodyRepairLedger_eq (port := p.port) hparams) h.up
  · exact exec_ok h rfl (bodyRepairRetire_inService (port := p.port) hparams hstate ht) hup
  · exact exec_ok h rfl (withLen_eq (by rw [hparams]; rfl) _) h.up
  · exact exec_refusing h rfl (show bodyCascCeiling p.port c u = _ by rw [hport]; exact bodyCascCeiling_own hparams hw) h.up
  · refine exec_ok h rfl (show bodyCascDeputy p.port c u = _ by rw [hport]; exact bodyCascDeputy_own hparams ht) ?_
    rw [ht]
    split
    · rw [handOver_pwr]; exact h.up
    · exact h.up
  · exact exec_ok h rfl (withLen_eq (by rw [hparams]; rfl) _) h.up
  · exact exec_ok h rfl (bodySvcExit_service (port := p.port) hparams h.power hservice) h.up
  · refine ⟨_, _, ?_, (Config.freeWord u.freeCtr).isLt,
      exec_ok h rfl (bodySvcBist_inService (port := p.port) hparams hlevel hstate) h.up⟩
    cases Config.freeBool u.freeCtr <;> decide
  · exact exec_ok h rfl (bodySvcClkobs_eq (port := p.port) hparams) h.up
  · subst hn hr
    exact exec_ok h rfl (withLen_eq hlen _) hup

/-! ## The S-port (R363-R365, R508) -/

section
variable {s : State}

theorem select_asleep (hon : s.sOn = true) (hsleep : s.asleep = true) (k : State → State) : s.select k = s.wake 1 := by
  simp [State.select, hon, hsleep]

theorem exec_receive (n : Nat) (s : State) : exec (.receive n) s = .next (settle (s.receiveS n)) := rfl

/-- A packet for which the receive buffer has no room is dropped and noted (R363). -/
theorem arrive_full {port link claimed : Nat} (ha : s.accepts port link = true) (hr : (s.port port).room = false)
    (b : List Byte) : s.arrive port link claimed b = s.buffer port (rxEntry port link claimed b) := by
  simp [State.arrive, ha, hr]

theorem receiveS_awake (hon : s.sOn = true) (hawake : s.asleep = false) (hup : s.bureauUp = true)
    (htest : s.cfg.testMode = false) (n : Nat) : s.receiveS n = s.shiftOut 16 n (List.replicate 16 0) := by
  rw [State.receiveS, select_awake hon hawake, hup, htest]
  rfl

theorem shiftOut_packet {port : Nat} {b : List Byte} (h : s.nextBytes port = some b) (n : Nat) (idle : List Byte) :
    s.shiftOut port n idle =
      if b.length ≤ n then ({ s with shifted := padFF b n } : State).modPort port fun q => q.number.delivered
      else { s with shifted := padFF b n } := by
  rw [State.shiftOut, h]

theorem shiftOut_idle {port : Nat} (h : s.nextBytes port = none) (n : Nat) (idle : List Byte) :
    s.shiftOut port n idle = { s with shifted := padFF idle n } := by
  rw [State.shiftOut, h]

theorem statusS_awake (hon : s.sOn = true) (hawake : s.asleep = false) : s.statusS =
    ({ s with shifted := leBytes 4 s.statusWord } : State).modPort 16 fun q => { q with overflow := false, framed := false } := by
  rw [State.statusS, hon]
  exact if_neg (Bool.eq_false_iff.mp hawake)

end

/-- Settles O21. That SEND and RECEIVE do nothing but wake in sleep is log entry 99. -/
theorem serialPortTransactionsComplete : Obligations.SerialPortTransactionsComplete := by
  refine fun s bytes n code => ⟨fun hon hawake ha hroom hrx => ?_, fun hon hawake ha hroom => ?_,
    fun hon hawake hup htest => ?_, fun hon hawake => ?_, fun hon hawake hup hcode => ?_, fun hon hsleep => ?_⟩
  · have hsend : s.sendS bytes = s.runBytes 16 0 0 bytes := by
      rw [sendS_awake hon hawake, arrive_at_once ha hroom hrx]
    exact ⟨by rw [exec_send, hsend], by rw [exec_sendQuad, hsend]⟩
  · refine ⟨?_, rfl⟩
    rw [exec_send, sendS_awake hon hawake, arrive_full ha hroom]
    rfl
  · refine ⟨fun b hnext => ?_, fun hnext => ?_, rfl⟩
    · rw [exec_receive, receiveS_awake hon hawake hup htest, shiftOut_packet hnext]
      rfl
    · rw [exec_receive, receiveS_awake hon hawake hup htest, shiftOut_idle hnext]
      rfl
  · exact congrArg (fun t => Host.Outcome.next (settle t)) (statusS_awake hon hawake)
  · show Host.Outcome.next (settle (s.select _)) = _
    have hinvalid : ¬(sCodes.contains code.toNat = true ∨ (!s.bureauUp) = true) := by
      rw [hup]
      simpa [sCodes] using hcode
    rw [select_awake hon hawake, if_neg hinvalid]
    rfl
  · exact ⟨by rw [exec_send, State.sendS, select_asleep hon hsleep],
      by rw [exec_receive, State.receiveS, select_asleep hon hsleep]⟩

/-! ## The test access port (R366, R563) -/

section
variable {s : State}

theorem exec_bypass (hgood : s.pwr.aoIoGood = true) (bs : List Bool) : exec (.bypass bs) s = .next (settle (s.bypass bs)) := by
  show Host.Outcome.next (settle (if s.pwr.aoIoGood then s.bypass bs else s)) = _
  rw [if_pos hgood]

theorem exec_svcPacket (hgood : s.pwr.aoIoGood = true) (bytes : List Byte) : exec (.svcPacket bytes) s = .next (settle (
    if s.pwr.state = .service then
      ({ s.shiftOut 17 (min 1028 bytes.length) [] with
        pwr := { (s.shiftOut 17 (min 1028 bytes.length) []).pwr with boundary := [] } } : State).arrive 17 0 0
          (bytes.take 1028)
    else s.bypass (unpackBits bytes))) := by
  show Host.Outcome.next (settle (if (!s.pwr.aoIoGood) = true then s else _)) = _
  rw [hgood]
  rfl

theorem exec_extest (hgood : s.pwr.aoIoGood = true) (drive : List Bool) : exec (.extest drive) s = .next (settle (
    if s.pwr.state = .service then
      { s with shifted := (List.range (ceilDiv drive.length 8)).map fun i => Config.freeByte (2 * s.freeCtr) i
               freeCtr := s.freeCtr + 1
               pwr := { s.pwr with boundary := drive } }
    else s.bypass drive)) := by
  show Host.Outcome.next (settle (if (!s.pwr.aoIoGood) = true then s else _)) = _
  rw [hgood]
  rfl

end

/-- Settles O22. That BYPASS begins with a 0 is log entry 50, and that SVC_PACKET takes its packet from the first bytes log
entry 24. -/
theorem testPortTransactionsComplete : Obligations.TestPortTransactionsComplete := by
  refine fun s bytes bs port => ⟨fun hgood => ⟨?_, exec_bypass hgood bs, fun hservice t ht => ?_, fun hother => ?_,
    fun hservice => ?_, fun hother => ?_⟩, fun hport ha hroom hrx => ?_, rfl, fun hempty => ?_⟩
  · show Host.Outcome.next (settle (if s.pwr.aoIoGood then _ else s)) = _
    rw [if_pos hgood]
    rfl
  · rw [exec_svcPacket hgood, if_pos hservice, ht]
  · rw [exec_svcPacket hgood, if_neg hother, exec_bypass hgood]
  · refine ⟨(List.range (ceilDiv bs.length 8)).map fun i => Config.freeByte (2 * s.freeCtr) i, by simp, ?_⟩
    rw [exec_extest hgood, if_pos hservice]
  · rw [exec_extest hgood, if_neg hother, exec_bypass hgood]
  · show Host.Outcome.next (settle (if port = 16 then _ else _)) = _
    rw [if_neg hport, arrive_at_once ha hroom hrx]
  · show execAdmissionComplete s = _
    rw [execAdmissionComplete, hempty]

end Sys2Proof.Machine

/-! The doorbells, the PCIe link and BAR2 (R360-R362, R419-R428, R466). -/

namespace Sys2Proof.Machine

/-! ## Doorbells (R360, R361, R426, R428) -/

section
variable {s u : State} {fn unit : Nat} {host : List Byte}

theorem exec_sqTail (hfn : fn < 16) (h : WritesReg s u fn 0 (doorOff fn 0x0C) ⟨0, 16 + fn, 0x0C⟩) :
    exec (.sqTail fn unit host) s = .next (settle (u.sqTail fn unit host)) := by
  show Host.Outcome.next (settle (if 16 ≤ fn then s else s.gatedWrite fn 0 (doorOff fn 0x0C) unit _)) = _
  rw [if_neg (Nat.not_le.mpr hfn), gatedWrite_past h]

theorem exec_cqHead (hfn : fn < 16) (h : WritesReg s u fn 0 (doorOff fn 0x20) ⟨0, 16 + fn, 0x20⟩) :
    exec (.cqHead fn unit) s = .next (settle (u.cqHead fn unit)) := by
  show Host.Outcome.next (settle (if 16 ≤ fn then s else s.gatedWrite fn 0 (doorOff fn 0x20) unit _)) = _
  rw [if_neg (Nat.not_le.mpr hfn), gatedWrite_past h]

theorem exec_irqAck {vec : Nat} (hfn : fn < 16) (h : WritesReg s u fn 0 (doorOff fn 0x50) ⟨0, 16 + fn, 0x50⟩) :
    exec (.irqAck fn vec) s = .next (settle (u.irqAck fn vec)) := by
  show Host.Outcome.next (settle (if 16 ≤ fn then s else s.gatedWrite fn 0 (doorOff fn 0x50) vec _)) = _
  rw [if_neg (Nat.not_le.mpr hfn), gatedWrite_past h]

theorem exec_ringCtrlWrite {path : Nat} {val : Word} (hfn : fn < 16)
    (h : WritesReg s u path 0 (doorOff fn 0x2C) ⟨0, 16 + fn, 0x2C⟩) :
    exec (.ringCtrlWrite path fn val) s = .next (settle (u.ringCtrl fn path val.toNat)) := by
  show Host.Outcome.next (settle (if 16 ≤ fn then s else s.regWrite path 0 (doorOff fn 0x2C) val.toNat 15)) = _
  rw [if_neg (Nat.not_le.mpr hfn), regWrite_door h ⟨by simp; omega, by simp; omega⟩ (by decide), word_mod]
  simp only [State.writeDoor, Nat.add_sub_cancel_left]
  rfl

theorem fillFree_whole (ctr : Nat) {n : Nat} {b : List Byte} (h : b.length = n) : fillFree ctr n b = b := by
  simp [fillFree, ← h]

/-- Where a tail may go: a unit of the ring, not past SQ_HEAD (R360, R426). -/
def tailOk (d : Door) (unit : Nat) : Prop :=
  unit < ringUnits d.sqSize ∧
    ringDist (ringUnits d.sqSize) d.sqTail unit ≤ (d.sqHead + ringUnits d.sqSize - 1 - d.sqTail) % ringUnits d.sqSize

theorem sqTail_host (hon : (u.door fn).enabled = true) (hunit : tailOk (u.door fn) unit) (hhost : bit (u.door fn).ctrl 1 = false)
    (hlen : host.length = 16 * ringDist (ringUnits (u.door fn).sqSize) (u.door fn).sqHead unit) :
    u.sqTail fn unit host = (u.modDoor fn fun d => { d with sqTail := unit }).modPort fn fun q =>
      { q with rx := ringPackets (host.length / 16 + 1) host } := by
  obtain ⟨hlt, hdist⟩ := hunit
  unfold State.sqTail
  dsimp only
  rw [hon, if_neg (by decide), if_neg (by omega), hhost, if_neg Bool.false_ne_true, fillFree_whole _ hlen,
    if_neg (by omega)]

theorem sqTail_hbm (hon : (u.door fn).enabled = true) (hunit : tailOk (u.door fn) unit) (hhbm : bit (u.door fn).ctrl 1 = true)
    {r : List Byte × State} (hr : r = u.readRing fn (ringSpans (u.door fn).sqBase.toNat (u.door fn).sqSize (u.door fn).sqHead
      (16 * ringDist (ringUnits (u.door fn).sqSize) (u.door fn).sqHead unit))) :
    u.sqTail fn unit host = (r.2.modDoor fn fun d => { d with sqTail := unit }).modPort fn fun q =>
      { q with rx := ringPackets (r.1.length / 16 + 1) r.1 } := by
  obtain ⟨hlt, hdist⟩ := hunit
  unfold State.sqTail
  dsimp only
  rw [hon, if_neg (by decide), if_neg (by omega), hhbm, if_pos rfl, hr]

theorem sqTail_outside (hon : (u.door fn).enabled = true) (hunit : ringUnits (u.door fn).sqSize ≤ unit) :
    u.sqTail fn unit host = u.accessError 0 (doorOff fn 0x0C) fn 5 := by
  unfold State.sqTail
  dsimp only
  rw [hon, if_neg (by decide), if_pos (.inl hunit)]
  rfl

theorem cqHead_inside (hon : (u.door fn).enabled = true) (hunit : unit < ringUnits (u.door fn).cqSize)
    (hdist : ringDist (ringUnits (u.door fn).cqSize) (u.door fn).cqHead unit ≤
      ringDist (ringUnits (u.door fn).cqSize) (u.door fn).cqHead (u.door fn).cqTail) :
    u.cqHead fn unit = u.modDoor fn fun d => { d with cqHead := unit } := by
  unfold State.cqHead
  dsimp only
  rw [hon, if_neg (by decide), if_neg (by omega)]

theorem cqHead_outside (hon : (u.door fn).enabled = true) (hunit : ringUnits (u.door fn).cqSize ≤ unit) :
    u.cqHead fn unit = u.accessError 0 (doorOff fn 0x20) fn 5 := by
  unfold State.cqHead
  dsimp only
  rw [hon, if_neg (by decide), if_pos (.inl hunit)]
  rfl

end

/-- Settles O23. That a ring is read whole at its doorbell is log entry 79. -/
theorem ringDoorbellsComplete : Obligations.RingDoorbellsComplete := by
  refine fun s u fn unit vec host val hfn => ⟨fun n len h hon hn hlen => ⟨fun hunit hdist => ⟨fun hhost hbytes => ?_,
    fun hhbm r hr => ?_⟩, fun hunit => ?_⟩, fun h hon => ⟨fun hunit hdist => ?_, fun hunit => ?_⟩,
    fun path h => ⟨fun hset hoff => ?_, fun hset hon => ?_, fun hclear hidle => ?_, fun hclear hbusy => ?_⟩, fun h => ?_⟩
  · subst hn hlen
    rw [exec_sqTail hfn h, sqTail_host hon ⟨hunit, hdist⟩ hhost hbytes, hbytes]
  · subst hn hlen
    rw [exec_sqTail hfn h, sqTail_hbm hon ⟨hunit, hdist⟩ hhbm hr]
  · subst hn
    rw [exec_sqTail hfn h, sqTail_outside hon hunit]
  · rw [exec_cqHead hfn h, cqHead_inside hon hunit hdist]
  · rw [exec_cqHead hfn h, cqHead_outside hon hunit]
  · rw [exec_ringCtrlWrite hfn h, State.ringCtrl, hset, hoff]
    rfl
  · rw [exec_ringCtrlWrite hfn h, State.ringCtrl, hset, hon]
    rfl
  · rw [exec_ringCtrlWrite hfn h, State.ringCtrl, hclear, hidle]
    rfl
  · rw [exec_ringCtrlWrite hfn h, State.ringCtrl, hclear, hbusy]
    rfl
  · rw [exec_irqAck hfn h]
    rfl

/-! ## The PCIe link and BAR2 (R345, R362, R419, R420, R427, R466, R573) -/

section
variable {s : State} {fn off len : Nat}

theorem setBme_live (hfn : fn < 16) (hlive : s.portLive fn = true) (on : Bool) :
    s.setBme fn on = s.modDoor fn fun d => { d with bme := on } := if_pos ⟨hfn, hlive⟩

theorem exec_bar2Read (hfn : fn < 16) (hlive : s.portLive fn = true) (hready : s.hbmStep = false) :
    exec (.bar2Read fn off len) s = .next (settle (s.bar2Read fn off len)) := by
  show execBar2Read fn off len s = _
  rw [execBar2Read, if_neg (by simp [hlive, hfn]), hready, if_neg Bool.false_ne_true]

theorem bar2Read_inside (h : (s.door fn).bar2Ok off len = true) {r : List Byte × State}
    (hr : r = (blocksOf ((s.door fn).bar2At off) len).foldl (fun (acc : List Byte × State) b =>
        let x := acc.2.bar2Block fn b.1 b.2
        (acc.1 ++ x.1, x.2)) ([], s)) : s.bar2Read fn off len = r.2.returned (32 + fn) (ofLe r.1) := by
  unfold State.bar2Read
  dsimp only
  rw [h, hr]
  rfl

theorem bar2Read_outside (h : (s.door fn).bar2Ok off len = false) :
    s.bar2Read fn off len = s.returned (32 + fn) (ofLe (List.replicate len 0xFF)) := by
  unfold State.bar2Read
  dsimp only
  rw [h]
  rfl

end

/-- Settles O24. -/
theorem pcieCommandsComplete : Obligations.PcieCommandsComplete := by
  refine fun s fn n off len v data => ⟨fun hfn hlive => ?_, rfl, fun hup => ?_, fun hfn hlive => ⟨?_, ?_⟩, fun hup => ?_,
    fun hup => ?_, fun hfn => ⟨?_, ?_⟩, fun hfn hlive hready => ⟨fun hin r hr => ?_, fun hout => ?_, fun hin => ?_⟩,
    fun hfn hlive hhbm => ⟨?_, ?_⟩⟩
  · show execFunctionLevelReset fn s = _
    rw [execFunctionLevelReset, if_pos ⟨hfn, hlive⟩]
  · show execPcieLinkDown s = _
    rw [execPcieLinkDown, if_pos hup]
    rfl
  · show execBusMasterEnableClear fn s = _
    rw [execBusMasterEnableClear, setBme_live hfn hlive]
  · show execBusMasterEnableSet fn s = _
    rw [execBusMasterEnableSet, setBme_live hfn hlive]
  · show execPcieLinkUp s = _
    rw [execPcieLinkUp, if_pos hup]
  · show execVfEnable n s = _
    rw [execVfEnable, hup]
    rfl
  · show execMsiXTargetWake fn none s = _
    rw [execMsiXTargetWake, if_neg (Nat.not_le.mpr hfn)]
  · show execMsiXTargetWake fn (some v) s = _
    rw [execMsiXTargetWake, if_neg (Nat.not_le.mpr hfn)]
  · rw [exec_bar2Read hfn hlive hready, bar2Read_inside hin hr]
  · rw [exec_bar2Read hfn hlive hready, bar2Read_outside hout]
  · show execBar2Write fn off data s = _
    rw [execBar2Write, if_neg (by simp [hlive, hfn, hready]), State.bar2Write, if_pos hin]
  · show execBar2Read fn off len s = _
    rw [execBar2Read, if_neg (by simp [hlive, hfn]), if_pos hhbm]
    rfl
  · show execBar2Write fn off data s = _
    rw [execBar2Write, if_pos (.inr (.inr hhbm))]

/-! ## Registers: the lock and the indirect pair (R436-R438, R442) -/

section
variable {s u : State} {path die : Nat} {val : Word}

theorem exec_registerWrite {fn off be : Nat} {wide : DWord} (hfn : fn < 16)
    (hoff : off < if fn = 0 then 0x4000000 else 0x10000) {o : Nat} (ho : o = if fn = 0 then off else 0x100000 + 0x10000 * fn + off) :
    exec (.registerWrite fn off be wide) s = .next (settle
      ((s.regWrite fn 0 (o / 4 * 4) (lo32 wide.toNat) (be % 16)).regWrite fn 0 (o / 4 * 4 + 4) (hi32 wide.toNat)
        (be / 16 % 16))) := by
  show execRegisterWrite fn off be wide s = _
  rw [execRegisterWrite, if_neg (Nat.not_le.mpr hfn), State.barWrite, ← ho, if_neg (Nat.not_le.mpr hoff)]

/-- A full-word write of a register of block 1, past its checks. -/
theorem regWrite_ia_word {off : Nat} {r : RegAt} (h : WritesReg s u path die off r) (hb : r.block = 1) :
    s.regWrite path die off val.toNat 15 = u.writeIa { master := path, at_ := r, val := val.toNat, be := 15 } := by
  rw [regWrite_ia h hb (by decide), word_mod]

/-- A posted write of IA_DATA by the owner of the pair (R438). -/
theorem iaDataWrite_owner (h : ((u.iaSettle die).ia die).owner = path) (v : Nat) : u.iaDataWrite die v path =
    ((u.iaSettle die).iaWrite die ((u.iaSettle die).ia die).addr v path).modIa die fun p =>
      ({ p with busy := true, data := v } : Ia).advance := if_neg (not_not_intro h)

theorem iaDataWrite_other (h : ((u.iaSettle die).ia die).owner ≠ path) (v : Nat) :
    u.iaDataWrite die v path = ((u.iaSettle die).iaRefuse die path).modIa die Ia.advance := if_pos h

theorem exec_iaDataRead (h : ReadsReg s path die 0x10004 ⟨die, 1, 4⟩) :
    exec (.iaDataRead path die) s = .next (settle ((s.iaDataRead die path).2.returned path (s.iaDataRead die path).1)) := by
  show execIaDataRead path die s = _
  rw [execIaDataRead, regRead_past h]
  rfl

theorem exec_indirectReadTimeout (h : ReadsReg s path die 0x10004 ⟨die, 1, 4⟩) :
    exec (.indirectReadTimeout path die) s =
      .next (settle ((s.iaTimeout die path).2.returned path (s.iaTimeout die path).1)) := by
  obtain ⟨hlive, htarget, hreach, hpermits⟩ := h
  show execIndirectReadTimeout path die s = _
  rw [execIndirectReadTimeout, State.iaReadLate]
  simp only [htarget, hlive, hreach, hpermits]
  rfl

end

/-- Settles O25. -/
theorem lockAndIndirectPairComplete : Obligations.LockAndIndirectPairComplete := by
  refine fun s u path die off be fn val wide => ⟨fun hoff => ?_, fun hpos hfn hoff => ?_, fun h => ?_, fun h => ?_,
    fun h => ⟨fun hown => ?_, fun hother => ?_⟩, fun h => ⟨fun hown r hr => ?_, fun hother => ?_, fun t ht hown => ?_⟩, rfl⟩
  · exact exec_registerWrite (by decide) hoff rfl
  · exact exec_registerWrite hfn (by rw [if_neg (Nat.ne_of_gt hpos)]; exact hoff) (if_neg (Nat.ne_of_gt hpos)).symm
  · show execCfgLockLock path die val s = _
    rw [execCfgLockLock, regWrite_ia_word h rfl]
    rfl
  · show execIaAddrWrite path die val s = _
    rw [execIaAddrWrite, regWrite_ia_word h rfl]
    have haddr : u.writeIa { master := path, at_ := ⟨die, 1, 0⟩, val := val.toNat, be := 15 } =
        u.iaSetAddr die val.toNat path :=
      congrArg (u.iaSetAddr die · path) (mergeBytes_full _ val.isLt)
    rw [haddr]
    rfl
  · show execIaDataWrite path die val s = _
    rw [execIaDataWrite, regWrite_ia_word h rfl, ← iaDataWrite_owner hown]
    rfl
  · show execIaDataWrite path die val s = _
    rw [execIaDataWrite, regWrite_ia_word h rfl, ← iaDataWrite_other hother val.toNat]
    rfl
  · rw [exec_iaDataRead h, State.iaDataRead]
    dsimp only
    rw [if_neg (not_not_intro hown), hr]
  · rw [exec_iaDataRead h, State.iaDataRead]
    dsimp only
    rw [if_pos hother]
  · rw [exec_indirectReadTimeout h, State.iaTimeout, ← ht, if_neg (not_not_intro hown)]

end Sys2Proof.Machine

/-! Complement pairs, the registers of interrupts and faults, of channels and of check-value units (R430-R434, R440,
R443, R450, R457, R458). -/

namespace Sys2Proof.Machine

/-! ## Complement pairs (R432-R434) -/

section
variable {s u : State} {path die off : Nat} {r : RegAt} {lk : Bool} {val comp : Word}

/-- The state in which one pair alone is open. -/
def State.opened (s : State) (path : Nat) (r : RegAt) (val : Word) : State :=
  { s with regs := { s.regs with pairs := [{ master := path, die := r.die, off := r.at', value := val, at_ := s.now }] } }

/-- The address of the second half of a slot. -/
def RegAt.second (r : RegAt) : RegAt := { r with off := r.off + 4 }

theorem expirePairs_none (hp : s.regs.pairs = []) : s.expirePairs = s := by
  rw [State.expirePairs, hp]
  rfl

theorem disturbPair_none (hp : s.regs.pairs = []) (w : RegWr) : s.disturbPair w = s := by
  rw [State.disturbPair, State.openPair, hp]
  rfl

/-- With no pair open, an access past its checks finds the state as it is. -/
theorem WritesReg.after_noPairs (h : WritesReg s u path die off r) (hp : s.regs.pairs = []) : u = s := by
  rw [h.after, expirePairs_none hp, disturbPair_none hp]

/-- The first write of a slot opens a pair (R434). -/
theorem pairWrite_opens (hp : s.regs.pairs = []) (h8 : r.off % 8 = 0) (hl : (lk && s.isLocked r.die) = false)
    (k : Nat → State → State) :
    s.pairWrite { master := path, at_ := r, val := val.toNat, be := 15 } lk k = s.opened path r val := by
  have hdrop : s.dropPair path r.die 1 = s := by simp [State.dropPair, hp]
  have hfree : ¬(lk = true ∧ s.isLocked r.die = true) := by simpa using hl
  simp [State.pairWrite, fullWord, hfree, h8, hdrop, hp, State.opened]

theorem expirePairs_opened (s : State) (path : Nat) (r : RegAt) (val : Word) :
    (s.opened path r val).expirePairs = s.opened path r val := by
  have hyoung : ¬s.now + 64000 < s.now := by omega
  simp [State.expirePairs, State.opened, hyoung]

/-- The write of the other half of its slot leaves an open pair as it is. -/
theorem disturbPair_opened (h8 : r.off % 8 = 0) (hlt : r.off < 65536) :
    (s.opened path r val).disturbPair { master := path, at_ := r.second, val := 0, be := 15 } = s.opened path r val := by
  have hopen : (s.opened path r val).openPair path r.die =
      some { master := path, die := r.die, off := r.at', value := val, at_ := s.now } := by
    simp [State.openPair, State.opened]
  have hslot : r.at' % 65536 = (r.off + 4) / 8 * 8 := by
    simp only [RegAt.at']
    omega
  rw [State.disturbPair]
  simp only [RegAt.second, hopen, hslot, ne_eq, not_true, and_false, if_false]

theorem writesReg_second (hp : s.regs.pairs = []) (h : WritesReg s s path die off r)
    (htarget : s.regTarget die (off + 4) = some r.second) (h8 : r.off % 8 = 0) (hlt : r.off < 65536) :
    WritesReg (s.opened path r val) (s.opened path r val) path die (off + 4) r.second := by
  obtain ⟨hlive, -, hreach, hpermits, -⟩ := h
  rw [expirePairs_none hp] at hlive hpermits
  refine ⟨?_, ?_, hreach, ?_, ?_⟩
  · rw [expirePairs_opened]; exact hlive
  · rw [expirePairs_opened]; exact htarget
  · rw [expirePairs_opened]; exact hpermits
  · rw [expirePairs_opened, disturbPair_opened h8 hlt]

/-- Both writes of a slot whose complement is exact have the effect of the slot (R434). -/
theorem writePair_completes {k : RegWr → Nat → State → State} (hp : s.regs.pairs = []) (hc : comp = ~~~val)
    (h : WritesReg s s path die off r) (hb : r.block = 2) (htarget : s.regTarget die (off + 4) = some r.second)
    (h8 : r.off % 8 = 0) (hlt : r.off < 65536) (hl : (lk && s.isLocked r.die) = false)
    (hslot : ∀ (w : RegWr) (t : State), w.at_ = r ∨ w.at_ = r.second → t.writeReact w = t.pairWrite w lk (k w)) :
    s.writePair path die off val comp = k { master := path, at_ := r.second, val := comp.toNat, be := 15 } val.toNat s := by
  have hopened : s.regWrite path die off val.toNat 15 = s.opened path r val := by
    rw [regWrite_react h hb (by decide), word_mod, hslot _ _ (.inl rfl), pairWrite_opens hp h8 hl]
  rw [State.writePair, hopened, regWrite_react (writesReg_second hp h htarget h8 hlt) hb (by decide), word_mod,
    hslot _ _ (.inr rfl), ← pairWrite_opens hp h8 hl]
  exact pairWrite_completes hp h8 hc hl (k { master := path, at_ := r, val := val.toNat, be := 15 })

theorem writeReact_reaction {w : RegWr} (h : w.at_.off < 0x800) (t : State) :
    t.writeReact w = t.pairWrite w true fun v s => s.putReact w (256 * w.at_.die + w.at_.off / 8) v := if_pos h

theorem writeReact_bark {w : RegWr} (h : w.at_.off / 8 = 0x100) (t : State) :
    t.writeReact w = t.pairWrite w true fun v s => s.putBark w v := (if_neg (by omega)).trans (if_pos h)

theorem writeReact_errRel {w : RegWr} (h : w.at_.off / 8 = 0x102) (hdie : w.at_.die = 0) (t : State) :
    t.writeReact w = t.pairWrite w false fun v s => s.putErrRel w v :=
  (if_neg (by omega)).trans ((if_neg (by omega)).trans (if_pos ⟨h, hdie⟩))

end

/-- Settles O26. -/
theorem complementPairsComplete : Obligations.ComplementPairsComplete := by
  refine fun s u path die val comp hp hc => ⟨fun idx hidx h htarget hlock hlive hverify hok => ?_,
    fun h htarget hlock hlo hhi => ?_, fun h htarget hrel hlow hover => ?_, fun idx hidx h hlock => ?_, fun t p hopen => ?_⟩
  · have hslot : (8 * idx + 4) / 8 = idx := by omega
    have hpair : s.writePair path die (0x20000 + 8 * idx) val comp =
        s.putReact _ (256 * die + (8 * idx + 4) / 8) val.toNat :=
      writePair_completes hp hc h rfl htarget (by simp) (by simp; omega) (by simpa using hlock) fun w t hw =>
        writeReact_reaction (by rcases hw with hw | hw <;> rw [hw] <;> simp [RegAt.second] <;> omega) t
    show execFaultReactPair path die idx val comp s = _
    rw [execFaultReactPair, Nat.mod_eq_of_lt hidx, hpair, hslot, State.putReact, if_pos (by simp [hlive, hverify, hok])]
  · have hpair : s.writePair path die 0x20800 val comp = s.putBark _ val.toNat :=
      writePair_completes hp hc h rfl htarget (by simp) (by simp) (by simpa using hlock) fun w t hw =>
        writeReact_bark (by rcases hw with hw | hw <;> simp [hw, RegAt.second]) t
    show execBarkWidthPair path die val comp s = _
    rw [execBarkWidthPair, hpair, State.putBark, if_pos ⟨hlo, hhi⟩]
  · have hpair : s.writePair path 0 0x20810 val comp = s.putErrRel _ val.toNat :=
      writePair_completes hp hc h rfl htarget (by simp) (by simp) rfl fun w t hw =>
        writeReact_errRel (by rcases hw with hw | hw <;> simp [hw, RegAt.second]) (by rcases hw with hw | hw <;> simp [hw, RegAt.second]) t
    show execErrRel path val comp s = _
    rw [execErrRel, hpair, State.putErrRel, if_neg (by simp [hrel, hlow]), if_pos hover]
  · have hu := h.after_noPairs hp
    subst hu
    have hslot : (0x20000 + 8 * idx) / 8 * 8 = 0x20000 + 8 * idx := by omega
    have hwrite : u.regWrite path die (0x20000 + 8 * idx) val.toNat 15 =
        u.opened path ⟨die, 2, 8 * idx⟩ val := by
      rw [regWrite_react h rfl (by decide), word_mod]
      exact (if_pos (by simp; omega)).trans (pairWrite_opens hp (by simp) (by simpa using hlock) _)
    show execComplementPairOpen path die (0x20000 + 8 * idx) val u = _
    rw [execComplementPairOpen, hslot, hwrite]
    rfl
  · show Host.Outcome.next (settle (match t.openPair path die with
      | some p => (advanceTo (p.at_ + 64000) t).dropPair path die 2
      | none => t)) = _
    rw [hopen]

/-! ## Registers of interrupts, faults and latched times (R423, R425, R430, R431, R443) -/

section
variable {s u : State} {path die idx n rec off : Nat} {val : Word}

theorem writeIrq_target {w : RegWr} (hlo : 0x800 ≤ w.at_.off) (hhi : w.at_.off < 0x1000) (t : State) :
    t.writeIrq w = t.writeTarget w :=
  (if_neg (by omega)).trans ((if_neg (by omega)).trans (if_pos ⟨hlo, hhi⟩))

theorem writeIrq_mask {w : RegWr} (hlo : 0x20 ≤ w.at_.off) (hhi : w.at_.off < 0x40) (t : State) :
    t.writeIrq w = t.writeMask w := if_pos ⟨hlo, hhi⟩

/-- IRQ_TARGET of an unprotected source of an unlocked die takes the whole word (R430). -/
theorem writeTarget_open {w : RegWr} (hw : w = { master := path, at_ := ⟨die, 4, 0x800 + 8 * idx⟩, val := val.toNat, be := 15 })
    (hprot : rProtected (u.react (256 * die + idx)) = false) (hlock : u.isLocked die = false) :
    u.writeTarget w = u.setTarget (256 * die + idx) val.toNat := by
  have hsource : 256 * die + (0x800 + 8 * idx - 0x800) / 8 = 256 * die + idx := by omega
  subst hw
  unfold State.writeTarget
  dsimp only
  rw [hsource, hprot, if_neg Bool.false_ne_true, if_neg (by omega), hlock, if_neg Bool.false_ne_true,
    mergeBytes_full _ val.isLt]

theorem writeMask_word {w : RegWr} (hw : w = { master := path, at_ := ⟨die, 4, 0x20 + 4 * n⟩, val := val.toNat, be := 15 })
    {t : State} (ht : t = (List.range 32).foldl (fun t i =>
      if u.srcLive (256 * die + 32 * n + i) ∧ !rProtected (u.react (256 * die + 32 * n + i)) then
        t.setMask (256 * die + 32 * n + i) (bit val.toNat i) else t) u) :
    u.writeMask w = if (List.range 32).any fun i => u.srcLive (256 * die + 32 * n + i) &&
          rProtected (u.react (256 * die + 32 * n + i)) &&
          (u.irq.mask.getLsbD (256 * die + 32 * n + i) != bit val.toNat i)
       then t.accessError die (0x40020 + 4 * n) path 6 else t := by
  have hfirst : 256 * die + 8 * (0x20 + 4 * n - 0x20) = 256 * die + 32 * n := by omega
  have haddr : RegAt.at' ⟨die, 4, 0x20 + 4 * n⟩ = 0x40020 + 4 * n := by simp only [RegAt.at']; omega
  subst hw
  unfold State.writeMask
  dsimp only
  rw [hfirst, mergeBytes_full _ val.isLt, ← ht]
  simp only [State.wrErr, haddr]

variable {r : RegAt}

theorem writeFault_sticky {hi : Bool} (hrec : rec < 40) (hlive : u.recLive rec = true)
    (hr : r = ⟨(recReg rec 0).1, (recReg rec (if hi then 4 else 0)).2 / 65536, (recReg rec (if hi then 4 else 0)).2 % 65536⟩) :
    u.writeFault { master := path, at_ := r, val := val.toNat, be := 15 } =
      u.modFrec rec (·.clear (BitVec.ofNat 64 (if hi then val.toNat * 2 ^ 32 else val.toNat))) := by
  have hoff : (if hi = true then 4 else 0) < 64 := by split <;> omega
  have hat := recordAt_recReg hrec hoff
  have hblock := (recReg_block (rec := rec) hoff).2
  have hmask : val.toNat &&& byteMask 15 = val.toNat := by
    have := mergeBytes_full 0 val.isLt
    rwa [mergeBytes, Nat.zero_and, Nat.zero_add] at this
  subst hr
  unfold State.writeFault
  dsimp only
  rw [hat, hmask]
  dsimp only
  rw [if_neg (by simp only [hlive, Bool.not_true, Bool.false_eq_true, false_or]; exact hblock)]
  cases hi <;> rfl

end

/-- Settles O27. One latch serves a path whichever die it reads, as log entry 124 has it. -/
theorem interruptAndFaultRegistersComplete : Obligations.InterruptAndFaultRegistersComplete := by
  refine fun s u path die idx rec fn val => ⟨fun hidx h hprot hlock => ?_, fun n t hn h ht => ?_, fun r hi hrec hlive h hr => ?_,
    fun h => ?_, fun hfn h => ?_, fun h => ?_, fun r hrec hlive h hr => ?_, fun v h hv => ?_, fun r v hrec hlive h hr hv => ?_⟩
  · show execIrqTargetWrite path die idx val s = _
    rw [execIrqTargetWrite, Nat.mod_eq_of_lt hidx, regWrite_irq h rfl (by decide), word_mod,
      writeIrq_target (by simp) (by simp; omega), writeTarget_open rfl hprot hlock]
  · show execIrqMaskRegisterWrite path die n val s = _
    rw [execIrqMaskRegisterWrite, Nat.mod_eq_of_lt hn, regWrite_irq h rfl (by decide), word_mod,
      writeIrq_mask (by simp) (by simp; omega), writeMask_word rfl ht]
  · show execFcStickyClear path rec hi val s = _
    have hblock := (recReg_block (rec := rec) (off := if hi then 4 else 0) (by split <;> omega)).1
    rw [execFcStickyClear, regWrite_fault h (by rw [hr]; exact hblock) (by decide), word_mod,
      writeFault_sticky hrec hlive hr]
  · show execAccErrRead path die s = _
    rw [execAccErrRead, regRead_past h]
    rfl
  · show execFnStatRead path fn s = _
    rw [execFnStatRead, if_neg (Nat.not_le.mpr hfn), regRead_past h, readReg_door ⟨by simp; omega, by simp; omega⟩,
      Nat.add_sub_cancel_left]
    rfl
  · rw [exec_devTimeLoRead, regRead_past h, readReg_devTimeLo]
    rfl
  · subst hr
    rw [exec_fcFirstTimeLoRead, regRead_past h, readReg_firstTimeLo path hrec hlive]
    rfl
  · subst hv
    rw [exec_devTimeHiRead, regRead_past h, readReg_devTimeHi]
    rfl
  · subst hr hv
    rw [exec_fcFirstTimeHiRead, regRead_past h, readReg_firstTimeHi path hrec hlive]
    rfl

/-! ## Registers of channels (R440, R450, R451) -/

section
variable {s u : State} {path ch un off v : Nat} {val : Word}

/-- A full-word write of a channel's register, past its checks. -/
theorem chanReg_past (hch : ch < 32)
    (h : WritesReg s u path (ch / 16) (0x10000 * (32 + ch % 16) + off) ⟨ch / 16, 32 + ch % 16, off⟩) (hv : v < 2 ^ 32) :
    s.chanReg path ch off v = u.writeChan { master := path, at_ := ⟨ch / 16, 32 + ch % 16, off⟩, val := v, be := 15 } := by
  rw [State.chanReg, if_neg (Nat.not_le.mpr hch), regWrite_chan h ⟨by simp, by simp; omega⟩ (by decide),
    Nat.mod_eq_of_lt hv]

/-- The channel that a register of its block names (R421, R440). -/
theorem chan_of_block (ch : Nat) : 16 * (ch / 16) + (32 + ch % 16 - 32) = ch := by omega

theorem writeChan_doorbell :
    u.writeChan { master := path, at_ := ⟨ch / 16, 32 + ch % 16, 0x08⟩, val := v, be := 15 } =
      if bit v 0 then u.doorbell ch else u := by
  unfold State.writeChan
  dsimp only
  rw [chan_of_block ch]
  rfl

theorem writeChan_ctrl :
    u.writeChan { master := path, at_ := ⟨ch / 16, 32 + ch % 16, 0x0C⟩, val := v, be := 15 } = u.setPause ch (bit v 0) := by
  unfold State.writeChan
  dsimp only
  rw [chan_of_block ch]
  exact if_pos (by decide)

theorem writeChan_irq :
    u.writeChan { master := path, at_ := ⟨ch / 16, 32 + ch % 16, 0x38⟩, val := v, be := 15 } = u.clearChanIrq ch v := by
  unfold State.writeChan
  dsimp only
  rw [chan_of_block ch]
  exact if_pos (by decide)

theorem writeChan_chain {hi : Bool} {w : RegWr}
    (hw : w = { master := path, at_ := ⟨ch / 16, 32 + ch % 16, if hi then 4 else 0⟩, val := v, be := 15 }) :
    u.writeChan w = u.putChain w ch hi := by
  subst hw
  unfold State.writeChan
  dsimp only
  rw [chan_of_block ch]
  cases hi <;> rfl

/-- A half of DMA_CHAIN written to a channel at rest, the low half without bits 4:1 (R440). -/
theorem putChain_idle {hi : Bool} {w : RegWr} (hval : w.val = val.toNat) (hbe : w.be = 15)
    (hstop : (u.chan ch).stopping = false) (hidle : (u.chan ch).state ∈ [0, 4, 5, 6]) :
    u.putChain w ch hi = u.setChan ch { (u.chan ch).toIdle with
        pause := (u.chan ch).pause
        chain := (half (BitVec.ofNat 64 (u.chan ch).chain) hi fun _ =>
          if hi then val.toNat else val.toNat / 32 * 32 + val.toNat % 2).toNat } := by
  have hrest : ¬((u.chan ch).stopping = true ∨
      ¬((u.chan ch).state = 0 ∨ (u.chan ch).state = 4 ∨ (u.chan ch).state = 5 ∨ (u.chan ch).state = 6)) := by
    rintro (hs | hs)
    · rw [hstop] at hs
      exact Bool.false_ne_true hs
    · exact hs (by simpa using hidle)
  unfold State.putChain
  simp only [hval, hbe, mergeBytes_full _ val.isLt]
  exact if_neg (by simpa using hrest)

/-! ## Registers of check-value units (R441, R457, R458) -/

/-- The unit that a register names, and its place in the unit's registers (R421, R441). -/
theorem unit_of_block (un : Nat) (hoff : off < 64) :
    4 * (un / 4) + (64 * (un % 4) + off) / 64 = un ∧ (64 * (un % 4) + off) % 64 = off ∧ 64 * (un % 4) + off < 256 := by
  omega

theorem writeCv_ctrl {w : RegWr} (hdie : w.at_.die = un / 4) (hat : w.at_.off = 64 * (un % 4))
    (hdma : (u.cv un).dma = false) : u.writeCv w = u.cvCtrl w un := by
  obtain ⟨hunit, hplace, hin⟩ := unit_of_block (off := 0) un (by decide)
  rw [Nat.add_zero] at hunit hplace hin
  unfold State.writeCv
  dsimp only
  rw [hdie, hat, hunit, hplace, if_neg (Nat.not_le.mpr hin), if_neg (by decide), hdma, if_neg Bool.false_ne_true]
  rfl

theorem writeCv_data {w : RegWr} (hdie : w.at_.die = un / 4) (hat : w.at_.off = 64 * (un % 4) + 0x0C)
    (hdma : (u.cv un).dma = false) : u.writeCv w = u.cvPush un (enabledBytes w.val w.be) := by
  obtain ⟨hunit, hplace, hin⟩ := unit_of_block (off := 0x0C) un (by decide)
  unfold State.writeCv
  dsimp only
  rw [hdie, hat, hunit, hplace, if_neg (Nat.not_le.mpr hin), if_neg (by decide), hdma, if_neg Bool.false_ne_true]
  rfl

theorem readCv_result :
    u.readCv (un / 4) (64 * (un % 4) + 0x10) = (((u.cvDrain un).cv un).result, u.cvDrain un) := by
  obtain ⟨hunit, hplace, hin⟩ := unit_of_block (off := 0x10) un (by decide)
  unfold State.readCv
  dsimp only
  rw [hunit, hplace, if_neg (Nat.not_le.mpr hin)]
  rfl

/-- Setting bit 4 of a word leaves its low four bits, and sets bit 4. -/
theorem or_start_bits (v : Nat) : bits (v ||| 16) 1 0 = bits v 1 0 ∧ bits (v ||| 16) 3 2 = bits v 3 2 ∧
    bit (v ||| 16) 4 = true := by
  have hlow : (v ||| 16) % 16 = v % 16 := by
    have := Nat.or_mod_two_pow (a := v) (b := 16) (n := 4)
    simpa using this
  refine ⟨?_, ?_, ?_⟩
  · simp only [bits]; omega
  · simp only [bits]; omega
  · rw [bit, Nat.testBit_or, show Nat.testBit 16 4 = true by decide, Bool.or_true]

/-- CV_CTRL with start, and a polynomial other than 3 (R457). -/
theorem cvCtrl_start {w : RegWr} {c : Cv} (hval : w.val = (val ||| 0x10).toNat) (hbe : w.be = 15) (hc : c = u.cv un)
    (hpoly : bits val.toNat 1 0 ≠ 3) :
    u.cvCtrl w un = advance (2 * c.pend.length) (u.setCv un
      ({ c with poly := bits val.toNat 1 0
                fold := if bits val.toNat 3 2 = 3 then 0 else bits val.toNat 3 2 } : Cv).start) := by
  have hword : (val ||| 0x10).toNat = val.toNat ||| 16 := by rw [BitVec.toNat_or]; rfl
  have hlt : val.toNat ||| 16 < 2 ^ 32 := hword ▸ (val ||| 0x10).isLt
  obtain ⟨hlow, hfold, hstart⟩ := or_start_bits val.toNat
  unfold State.cvCtrl
  simp only [hval, hword, hbe, mergeBytes_full _ hlt, hlow, hfold, if_neg hpoly, hstart, ← hc]
  exact if_pos ⟨by decide, trivial⟩

end

/-- Settles O28. That DMA_IRQ lowers the pending bit of the channel's source is log entry 80. -/
theorem channelAndCheckUnitRegistersComplete : Obligations.ChannelAndCheckUnitRegistersComplete := by
  refine fun s u path ch un be val hch hun => ⟨fun h => ?_, fun hi h hstop hidle => ?_, fun h => ⟨?_, ?_⟩, fun t h ht => ?_,
    fun c h hc hdma hpoly => ?_, fun h hdma hbe => ?_, fun h => ?_, fun b t hpend => ?_⟩
  · show execDmaDoorbell path ch val s = _
    rw [execDmaDoorbell, chanReg_past hch h val.isLt, writeChan_doorbell]
  · show execDmaChainWrite path ch hi val s = _
    rw [execDmaChainWrite, chanReg_past hch h val.isLt, writeChan_chain rfl, putChain_idle rfl rfl hstop hidle]
  · show execDmaCtrlPause path ch s = _
    rw [execDmaCtrlPause, chanReg_past hch h (by decide), writeChan_ctrl]
    rfl
  · show execDmaCtrlResume path ch s = _
    rw [execDmaCtrlResume, chanReg_past hch h (by decide), writeChan_ctrl]
    rfl
  · subst ht
    show execDmaIrqClear path ch val s = _
    rw [execDmaIrqClear, chanReg_past hch h val.isLt, writeChan_irq]
    rfl
  · show Host.Outcome.next
      (settle (s.regWrite path (un / 4) (0x300000 + 64 * (un % 4)) (val ||| 0x10).toNat 15)) = _
    rw [regWrite_cv h (by simp) (by decide), word_mod, writeCv_ctrl rfl rfl (by rw [← hc]; exact hdma),
      cvCtrl_start rfl rfl hc hpoly]
  · show Host.Outcome.next (settle (s.regWrite path (un / 4) (0x300000 + 64 * (un % 4) + 0x0C) val.toNat be)) = _
    rw [regWrite_cv h (by simp) hbe, word_mod, writeCv_data rfl rfl hdma]
  · show Host.Outcome.next (settle (s.regRead path (un / 4) (0x300000 + 64 * (un % 4) + 0x10))) = _
    rw [regRead_past h, readReg_cv (by simp), readCv_result]
  · show Host.Outcome.next (settle (match (s.cv un).pend with
      | [] => s
      | b :: t => advance 2 (s.modCv un fun c => { (c.feed [b]) with pend := t }))) = _
    rw [hpend]

end Sys2Proof.Machine

/-! The events of frames and of the memory (R144-R146, R215, R295, R312-R343, R514). -/

namespace Sys2Proof.Machine

/-- The outcome of an event: its state, settled. -/
theorem settled {a b : State} (h : a = b) : (Host.Outcome.next (settle a) : Host.Outcome State Fault Refusal) = .next (settle b) := by
  rw [h]

/-! ## Frames (R27, R144-R146, R159, R171, R215, R242, R295, R514) -/

section
variable {s : State} {h line col count : Nat} {f : Frozen} {m : Mode}

theorem fetchWindow_running (hfetch : (s.head h).fetchFor line = some f) (hmode : (s.head h).mode = some m)
    (hrun : (s.head h).running = true) (hown : (s.head h).orphan = false) (hline : line < m.ha) :
    s.fetchWindow h line = (f.layers.filter (·.shows ≠ 3)).foldl (fun s x => s.leLayer h line f x) s := by
  rw [State.fetchWindow, hfetch, hmode]
  exact if_pos ⟨hrun, by rw [hown]; rfl, hline⟩

/-- A head that is aligned with its group, or in none, goes on with its stream at the vertical blanking (R295). -/
theorem blanking_aligned {t u : State}
    (ht : t = (((s.modHead h fun d => { d with depth := d.pendingDepth.getD d.depth, pendingDepth := none }).modeAtBlanking
        h).bindAtBlanking h).heldHeel h)
    (hu : u = t.modHead h (fun d => { d with
        commitNow := t.commitFor h, stretching := d.stretch.isSome, stretchPx := d.resyncPixels (t.commitFor h) }))
    (halign : (u.head h).aligned = true ∨ 32 ≤ (u.head h).group) : s.blanking h = u.startStream h := by
  have hkept : ¬((u.head h).group < 32 ∧ (!(u.head h).aligned) = true) := by
    rintro ⟨hgroup, hfree⟩
    rcases halign with ha | ha
    · rw [ha] at hfree
      exact Bool.false_ne_true hfree
    · omega
  rw [State.blanking, ← ht]
  dsimp only
  rw [← hu, if_neg hkept]

/-- The first underrun of a line records where it began (R171). -/
theorem underrunAt_first (hline : (s.head h).line = line) (hfirst : (s.head h).urLine = none)
    (hframe : (s.head h).frozen = some f) :
    s.underrunAt h col = (s.setHead h { s.head h with
        urLine := some (line, col)
        urSource := if (s.head h).urSource = 0 then s.firstFault (h / 16) else (s.head h).urSource }).clusterFault 6
          (h / 4) (h % 4) f.seq true := by
  unfold State.underrunAt
  dsimp only
  rw [hfirst, hframe, hline]
  rfl

theorem echoRead_new {v : Nat} {d : Head} (hecho : (s.head h).echo = true) (hlink : s.echoLink h = true)
    (hnew : count ≠ (s.head h).echoCount) (htests : (s.head h).testCrcs ≠ [])
    (hd : d = { s.head h with echoCount := count, echoIdle := 0 }) :
    s.echoRead h count v =
      ((s.head h).testCrcs.reverse.find? (·.2 = v)).elim
        ((s.setHead h { d with echoResult := 2, echoSeq := ((s.head h).testCrcs.getLast?.map (·.1)).getD 0 }).tally h 4 true)
        fun k => (s.setHead h { d with echoResult := 1, echoSeq := k.1 }).tally h 4 false := by
  subst hd
  have hread : ¬(count = (s.head h).echoCount ∨ (s.head h).testCrcs.isEmpty = true) := by simp [hnew, htests]
  unfold State.echoRead
  dsimp only
  rw [hecho, hlink, if_neg hread]
  cases (s.head h).testCrcs.reverse.find? (·.2 = v) <;> rfl

end

/-- Settles O29. -/
theorem frameEventsComplete : Obligations.FrameEventsComplete := by
  refine fun s h line col count r g b f m => ⟨fun hh hstate hrun => ⟨fun hcoming t u ht hu => ?_, fun hout => ?_,
    fun hin hmode hline => ?_, fun hin hframe hmode hline => ?_, fun hout t u ht hu halign => ?_,
    fun hcluster hfetch hmode hown hline => ?_⟩, fun hh hin hline hcol hfirst hframe => ?_,
    fun d hh hecho hlink hnew htests hd => ⟨fun k hfind => ?_, fun k hfind hlast => ?_⟩, fun c hc hstate hdrives => ?_,
    fun k hk hidle => ?_⟩
  · subst hu ht
    exact settled (if_pos ⟨hh, hstate, hrun, by rw [hcoming]; rfl⟩)
  · exact settled (if_pos ⟨hh, hstate, hrun, by rw [hout]; rfl⟩)
  · exact settled (if_pos ⟨hh, hstate, hrun, by simp [hin, hmode, hline]⟩)
  · show execEndOfLastActiveLine h s = _
    rw [execEndOfLastActiveLine]
    dsimp only
    rw [hframe, hmode]
    exact settled (if_pos ⟨hh, hstate, hrun, hin, hline⟩)
  · exact settled ((if_pos ⟨hh, hstate, hrun, by rw [hout]; rfl⟩).trans (blanking_aligned ht hu halign))
  · exact settled ((if_pos ⟨hh, hstate, hcluster⟩).trans (fetchWindow_running hfetch hmode hrun hown hline))
  · exact settled ((if_pos ⟨hh, hin, hline, hcol⟩).trans (underrunAt_first hline hfirst hframe))
  · exact settled ((if_pos hh).trans ((echoRead_new hecho hlink hnew htests hd).trans (by rw [hfind]; rfl)))
  · exact settled ((if_pos hh).trans ((echoRead_new hecho hlink hnew htests hd).trans (by rw [hfind, hlast]; rfl)))
  · exact settled (if_pos ⟨hc, hstate, hdrives⟩)
  · exact settled (if_pos ⟨hk, hidle⟩)

/-! ## Requests (R312, R316-R321, R326-R330, R341, R343) -/

section
variable {s : State} {pc g bank src : Nat}

theorem not_bool {b : Bool} (h : b = true) : ¬(!b) = true := by rw [h]; decide

/-- A command slot of a pseudo-channel that is awake and not in a step (R320, R331, R333). -/
theorem exec_commandSlot (hon : s.pcOn pc = true) (hawake : (s.pc pc).selfRef = false)
    (hstep : (s.pc pc).stepping = false ∨ (s.pc pc).stepEnd ≤ s.now) :
    exec (.commandSlot pc) s = .next (settle (if (s.region (pc / 16)).rehoming then s.flushRegion (pc / 16)
      else (s.slotOf pc).memNext (pc / 16))) := by
  refine settled (if_neg ?_)
  rintro (h | h | ⟨h, hnow⟩)
  · exact not_bool hon h
  · rw [hawake] at h
    exact Bool.false_ne_true h
  · rcases hstep with hfree | hend
    · rw [hfree] at h
      exact Bool.false_ne_true h
    · omega

theorem slotOf_owed {k : Nat} (h : (s.pc pc).mostDebt (fun b => 8 ≤ b.debt) = some k) : s.slotOf pc = s.refreshBank pc k := by
  rw [State.slotOf, h]

theorem slotOf_column {x : SlotCmd} (h : (s.pc pc).mostDebt (fun b => 8 ≤ b.debt) = none) (hx : s.chosen pc = some x)
    (hcol : x.column = true) : s.slotOf pc = s.access x.req := by
  rw [State.slotOf, h, hx]
  exact if_pos hcol

theorem slotOf_row {x : SlotCmd} (h : (s.pc pc).mostDebt (fun b => 8 ≤ b.debt) = none) (hx : s.chosen pc = some x)
    (hcol : x.column = false) : s.slotOf pc = s.activate pc x.req.bank x.req.row := by
  rw [State.slotOf, h, hx]
  exact if_neg (by rw [hcol]; decide)

theorem slotOf_idle (h : (s.pc pc).mostDebt (fun b => 8 ≤ b.debt) = none) (hx : s.chosen pc = none) :
    s.slotOf pc = s.idleRefresh pc := by
  rw [State.slotOf, h, hx]

/-- The slot of a region that is not being re-homed. -/
theorem exec_commandSlot_open {t : State} (hslot : exec (.commandSlot pc) s = .next (settle
      (if (s.region (pc / 16)).rehoming then s.flushRegion (pc / 16) else (s.slotOf pc).memNext (pc / 16))))
    (hhome : (s.region (pc / 16)).rehoming = false) (ht : s.slotOf pc = t) :
    exec (.commandSlot pc) s = .next (settle (t.memNext (pc / 16))) := by
  rw [hslot, hhome, if_neg Bool.false_ne_true, ht]

theorem exec_refreshInterval (hon : s.pcOn pc = true) (hbank : bank < 48) (hawake : (s.pc pc).selfRef = false) {t : State}
    (ht : t = s.modPc pc (fun c => { c with banks := tmod {} c.banks bank fun b => { b with debt := min 8 (b.debt + 1), row := none } })) :
    exec (.refreshInterval pc bank) s = .next (settle
      ((if (tget {} (t.pc pc).banks bank).debt = 8 then t.detect (pc / 16) 34 (pc % 16) else t).idleRefresh pc)) := by
  subst ht
  refine settled (if_neg ?_)
  rintro (h | h | h)
  · exact not_bool hon h
  · omega
  · rw [hawake] at h
    exact Bool.false_ne_true h

end

/-- Settles O30. That the row closes when the debt rises and that the deferral goes by region is log entry 120, the answer
RETIRED for what is queued while a region is re-homed log entry 121. -/
theorem memoryRequestEventsComplete : Obligations.MemoryRequestEventsComplete := by
  refine fun s r pc id g bank src flips m => ⟨rfl, fun hon hawake hstep => ?_, fun hread => ?_, fun hon => ⟨?_, ?_⟩,
    fun hon hhome => ?_, fun t hon hbank hawake ht => ⟨fun hfull => ?_, fun hfree => ?_⟩, fun t hon ht => ?_,
    fun hon hbank hrow => ?_, fun hon => ?_, fun t u hon hfold hu => ?_, fun i hsrc hstate hi => ?_, fun hsrc hstate => ?_⟩
  · have hslot := exec_commandSlot hon hawake hstep
    refine ⟨fun hhome => ?_, fun hhome howed => ⟨fun x hx hcol => ?_, fun x hx hcol => ?_, fun hx => ?_⟩, fun k hhome howed => ?_⟩
    · rw [hslot, if_pos hhome]
    · exact exec_commandSlot_open hslot hhome (slotOf_column howed hx hcol)
    · exact exec_commandSlot_open hslot hhome (slotOf_row howed hx hcol)
    · exact exec_commandSlot_open hslot hhome (slotOf_idle howed hx)
    · exact exec_commandSlot_open hslot hhome (slotOf_owed howed)
  · show execMemoryReadComplete id flips s = _
    rw [execMemoryReadComplete, hread]
  · exact settled ((if_neg (not_bool hon)).trans (if_pos rfl))
  · exact settled ((if_neg (not_bool hon)).trans (if_neg Bool.false_ne_true))
  · exact settled (if_pos ⟨hon, hhome⟩)
  · rw [exec_refreshInterval hon hbank hawake ht, if_pos hfull]
  · rw [exec_refreshInterval hon hbank hawake ht, if_neg hfree]
  · subst ht
    exact settled (if_neg (not_bool hon))
  · refine settled (if_neg ?_)
    rintro (h | h | h)
    · exact not_bool hon h
    · omega
    · rw [Option.isNone_iff_eq_none] at h
      rw [h] at hrow
      exact Bool.false_ne_true hrow
  · exact settled (if_pos hon)
  · refine settled ((if_neg (not_bool hon)).trans ?_)
    split
    case h_1 heq => exact absurd (hfold.symm.trans heq) (Option.some_ne_none t)
    case h_2 t' heq =>
      obtain rfl := Option.some.inj (hfold.symm.trans heq)
      rw [hu]
  · subst hi
    have hat : 16 + src - 16 = src := Nat.add_sub_cancel_left 16 src
    refine settled ((if_pos ⟨by omega, by omega, by rw [hat]; exact hstate⟩).trans ?_)
    rw [hat]
  · exact settled ((if_neg (by omega)).trans (if_pos ⟨hsrc, hstate⟩))

end Sys2Proof.Machine

/-! The events of memory training, of rate changes and of the clocks (R282-R305, R331-R337). -/

namespace Sys2Proof.Machine

/-! ## Training and rates (R296, R331-R337) -/

/-- Settles O31. The moments of due, counted and skipped steps follow R331, as log entry 120 reads it. -/
theorem memoryTrainingEventsComplete : Obligations.MemoryTrainingEventsComplete := by
  refine fun s pc band die => ⟨fun hon hdue hidle => ?_, fun t hon hdue hskips => ?_, fun hon hstep => ⟨?_, ?_⟩,
    fun hon hawake hidle hissued hqueued hdebt hwaiting => ?_, fun hband hold => ?_, fun hdie htarget hphase => ?_,
    fun mbit p hdie htarget hphase => ⟨?_, ?_⟩⟩
  · exact settled (if_neg (by simp [hon, hdue, hidle]))
  · show execRetrainStepSkip pc s = _
    rw [execRetrainStepSkip, hdue]
    exact settled (if_neg (by simp [hon, hskips]))
  · exact settled (if_neg (by simp [hon, hstep]))
  · exact settled (if_neg (by simp [hon, hstep]))
  · exact settled (if_neg (by simp only [hon, hawake, hidle, hissued, hqueued, hdebt, hwaiting]; decide))
  · refine ⟨(Config.freeWord s.freeCtr).toNat, ?_⟩
    show execTrainingCacheWrite band s = _
    rw [execTrainingCacheWrite]
    cases hcache : tfind s.mem.cache band with
    | none => exact settled (if_neg (by simp [hband]))
    | some e => exact settled (if_neg (by simp [hband, hold e hcache]))
  · exact settled (if_pos ⟨hdie, htarget, hphase⟩)
  · show execRateChangeVerified die none s = _
    rw [execRateChangeVerified, htarget]
    exact settled (if_neg (by simp [hdie, hphase]))
  · show execRateChangeVerified die (some p) s = _
    rw [execRateChangeVerified, htarget]
    exact settled (if_neg (by simp [hdie, hphase]))

/-! ## Clocks (R282, R286, R287, R291, R292, R297, R299-R305) -/

section
variable {s u : State} {k count h t key : Nat}

theorem watchdog_good (hon : s.clk.refOn = true) (hcount : 700 ≤ count ∧ count ≤ 830)
    (hu : u = { s with clk := { s.clk with refBad := 0, refGood := s.clk.refGood + 1 } }) :
    s.watchdog count = if s.clk.refLost ∧ 4 ≤ s.clk.refGood + 1 then u.refclkBack else u := by
  subst hu
  exact (if_neg (not_bool hon)).trans (if_pos hcount)

theorem watchdog_bad (hon : s.clk.refOn = true) (hcount : count < 700 ∨ 830 < count)
    (hu : u = { s with clk := { s.clk with refGood := 0, refBad := s.clk.refBad + 1 } }) :
    s.watchdog count = if !s.clk.refLost ∧ 2 ≤ s.clk.refBad + 1 then u.refclkLost else u := by
  subst hu
  exact (if_neg (not_bool hon)).trans (if_neg (by omega))

/-- A lock window of a synthesizer that is not parked, or is loading (R286). -/
theorem lockWindow_counted {y : Synth} (hu : u = s.modSynth k fun y => { y with count }) (hy : y = u.synth k)
    (hpark : y.src = 3 → y.loadTo ≠ none) :
    s.lockWindow k count = if y.near 1024 count 50 1000000 then
        (if 4 ≤ y.agree + 1 ∧ !y.lock then (u.setSynth k { y with agree := y.agree + 1, disagree := 0 }).lockDeclared k
         else u.setSynth k { y with agree := y.agree + 1, disagree := 0 })
      else
        (if 2 ≤ y.disagree + 1 ∧ y.lock then (u.setSynth k { y with agree := 0, disagree := y.disagree + 1 }).lockLost k
         else u.setSynth k { y with agree := 0, disagree := y.disagree + 1 }) := by
  have hbusy : ¬(y.src = 3 ∧ y.loadTo.isNone = true) := fun ⟨h3, hnone⟩ => hpark h3 (Option.isNone_iff_eq_none.mp hnone)
  subst hy hu
  exact if_neg hbusy

theorem lockTimeout_lost {at_ : Nat} (hlost : (s.synth h).lostAt = some at_)
    (hu : u = (advanceTo (at_ + 100000) s).modSynth h (fun y => { y with lostAt := none })) :
    s.lockTimeout h = if (u.head h).migration.isSome = true ∨ (u.head h).modeP.isNone = true then u
      else u.beginMigration h
        ((((u.cluster (h / 4)).plan.lookup h).getD none).filter fun t => u.freeHead t && !u.reserved t) := by
  rw [State.lockTimeout, hlost]
  dsimp only
  rw [← hu]

theorem steer_heel (s : State) (key tf i : Nat) : (s.steer key tf).heel i = s.heel i := by
  have hfold : ∀ (l : List Nat) (t : State), (l.foldl (fun s h => match (s.head h).mode with
      | some m => s.modSynth h fun y =>
          let a := synRound (2000000000 * m.htot * m.vtot) tf y.p
          if y.ramp.isSome ∨ y.frozen then y else { y with n := a.n, frac := a.f }
      | none => s) t).heel i = t.heel i := by
    intro l
    induction l with
    | nil => exact fun _ => rfl
    | cons a l ih =>
      intro t
      rw [List.foldl_cons, ih]
      split <;> rfl
  unfold State.steer
  split
  · rfl
  · exact hfold _ s

/-- A LOCKED follower stays so at an aligned event within 100 units (R300). -/
theorem alignedEvent_locked {e : Int} (hstate : (s.heel key).state = 3) (herr : e.natAbs ≤ 100) : s.alignedEvent key e = s := by
  unfold State.alignedEvent
  dsimp only
  rw [hstate, if_neg (by decide), if_neg (by omega)]

theorem clampI_self {v : Int} (h : v.natAbs ≤ 100) : clampI (-2147483647) 2147483647 v = v := by
  rw [clampI]
  omega

theorem leaderEvent_locked {p tl want : Nat} {l l' : Heel} {err : Int} (hl : l = s.heel key) (hleader : l.leader ≠ .none)
    (hvalid : s.leaderValid l.leader l.idx = true) (href : s.clk.refLost = false) (hstate : l.state = 3)
    (haligned : l.cycle % l.d = 0) (hlast : l.lastEvent = some p) (herr : err.natAbs ≤ 100)
    (hl' : l' = { l with periods := (l.periods ++ [t - p]).drop (l.periods.length - 3), lastEvent := some t,
                         cycle := (l.cycle + 1) % l.d, err := err })
    (hu : u = s.setHeel key l') (htl : tl = s.leaderPeriod l') (hpos : tl ≠ 0)
    (hnear : withinPpm (tl * l'.d, l'.m) (u.nominal key) 5000 = true) (hwant : want = (2 * tl * l'.d + l'.m) / (2 * l'.m)) :
    s.leaderEvent key t err =
      (u.setHeel key { l' with tf := want, applied := (l'.applied ++ [want]).drop (l'.applied.length - 15) }).steer
        key want := by
  have hstate' : l'.state = 3 := by rw [hl', ← hstate]
  have hd : l'.d = l.d := by rw [hl']
  have hm : l'.m = l.m := by rw [hl']
  rw [hd, hm] at hnear hwant
  have hgoing : ¬(l.state = 0 ∨ l.state = 4) := by omega
  have hready : ¬(l.leader = .none ∨ (!s.leaderValid l.leader l.idx) = true ∨ s.clk.refLost = true) := by
    simp [hleader, hvalid, href]
  have hperiod : l'.period want tl err = want := by
    rw [Heel.period, hstate', if_neg (by decide), if_neg (by omega)]
  unfold State.leaderEvent
  dsimp only
  rw [← hl, if_neg hready, hlast]
  simp only [haligned, if_true, clampI_self herr]
  rw [← hl', ← hu, ← htl, if_neg hpos, hnear, if_neg (by decide), ← hwant, if_neg hgoing, hperiod,
    if_neg (by rw [hstate']; decide)]
  refine alignedEvent_locked ?_ herr
  rw [steer_heel, State.heel, State.setHeel, tget_tset]
  exact hstate'

/-- The fourth good period in a row makes GENLOCK_IN valid (R304). -/
theorem genlockAcquire_fourth {g : Genlock} {p : Nat} (hg : g = s.clk.genlock) (hlast : g.last = some p)
    (hgood : offBy (t - p) (2 * g.tg) 200 = false) (hfourth : g.good + 1 = 4) :
    s.genlockAcquire t = ((s.setGenlock { g with
        last := some t, good := 0, sum := 0, rateCnt := 0, valid := true, state := 1,
        period := (g.sum + (t - p)) / 4 }).postGenlock 0).leaderBack .genlock 0 := by
  rw [State.genlockAcquire, ← hg, hlast]
  dsimp only
  rw [hgood, if_neg (by decide), if_neg (by omega)]

theorem genlockAcquire_counted {g : Genlock} {p : Nat} (hg : g = s.clk.genlock) (hlast : g.last = some p)
    (hgood : offBy (t - p) (2 * g.tg) 200 = false) (hfew : g.good + 1 < 4) :
    s.genlockAcquire t = s.setGenlock { g with last := some t, good := g.good + 1, sum := g.sum + (t - p) } := by
  rw [State.genlockAcquire, ← hg, hlast]
  dsimp only
  rw [hgood, if_neg (by decide), if_pos hfew]

end

/-- Settles O32. That a locked follower's period is the leader's by D / M is the reading of log entry 26, and the codes 0
and 2 that GENLOCK events carry are the model's choice of log entry 97. -/
theorem clockEventsComplete : Obligations.ClockEventsComplete := by
  refine fun s count k h t err => ⟨fun hon => ⟨fun hlow hhigh u hu => ?_, fun hcount u hu => ?_⟩,
    fun u y hk hdie hu hy hpark => ⟨fun hnear => ?_, fun hnear => ?_⟩, fun ok hk hdie hsrc hown hok => ?_,
    fun hk hramp => ?_, fun u at_ hh hlost hu => ⟨fun hstay => ?_, fun hmig hmode => ?_⟩, fun hk hdie => ?_,
    fun key p l l' u tl want hl hleader hvalid href hstate haligned hlast herr hl' hu htl hpos hnear hwant => ?_,
    fun kind => rfl, fun g p hg henable hvalid hon hlast hgood => ⟨fun hfourth => ?_, fun hfew => ?_⟩,
    fun g hg henable hvalid hon => ?_, fun g hg hvalid => ?_⟩
  · exact settled (watchdog_good hon ⟨hlow, hhigh⟩ hu)
  · exact settled (watchdog_bad hon hcount hu)
  · exact settled ((if_pos ⟨hk, hdie⟩).trans ((lockWindow_counted hu hy hpark).trans (if_pos hnear)))
  · exact settled ((if_pos ⟨hk, hdie⟩).trans ((lockWindow_counted hu hy hpark).trans (if_neg (by simp [hnear]))))
  · subst hok
    exact settled ((if_pos ⟨hk, hdie, hsrc⟩).trans (if_pos hown))
  · exact settled (if_pos ⟨hk, hramp⟩)
  · exact settled ((if_pos hh).trans ((lockTimeout_lost hlost hu).trans (if_pos (by simpa using hstay))))
  · exact settled ((if_pos hh).trans ((lockTimeout_lost hlost hu).trans (if_neg (by simp [hmig, hmode]))))
  · exact settled (if_pos ⟨hk, hdie⟩)
  · exact settled (leaderEvent_locked hl hleader hvalid href hstate haligned hlast herr hl' hu htl hpos hnear hwant)
  all_goals subst hg
  · have hedge : ¬(!s.clk.genlock.enable ∨ (!s.clk.genlock.falling) = s.clk.genlock.falling ∨ !s.clk.refOn) := by
      simp [henable, hon]
    exact settled ((if_neg hedge).trans ((if_neg (by simp [hvalid])).trans (genlockAcquire_fourth rfl hlast hgood hfourth)))
  · have hedge : ¬(!s.clk.genlock.enable ∨ (!s.clk.genlock.falling) = s.clk.genlock.falling ∨ !s.clk.refOn) := by
      simp [henable, hon]
    exact settled ((if_neg hedge).trans ((if_neg (by simp [hvalid])).trans (genlockAcquire_counted rfl hlast hgood hfew)))
  · exact settled ((if_neg (by simp [henable, hon])).trans (if_pos hvalid))
  · exact settled (if_pos hvalid)

end Sys2Proof.Machine

/-! The events of the output links (R222-R226, R232-R235, R245). -/

namespace Sys2Proof.Machine

section
variable {s t : State} {l phase : Nat} {x : Link} {k : Cand} {ks : List Cand}

theorem lockLoss_active (hx : x = s.link l) (hstate : x.state = 4) (ht : t = s.modLink l (fun x => { x with
      cands := s.recoverCands l, trained := none, retrainAll := false, irqLate := false, retrains := satInc 32 x.retrains })) :
    s.lockLoss l = (((t.stopStreams l).enterWork l 5).postU 0x0984 t.scopePkg [l]).linkBit l 2 := by
  subst hx ht
  exact if_neg (by simp [hstate])

/-- Of the candidates, the first is dropped, and the next is tried while there is one (R226). -/
theorem attemptFailed_cons (hx : x = s.link l) (hcands : x.cands = k :: ks)
    (ht : t = s.setLink l { x with attempts := satInc 32 x.attempts, cands := ks, irqLate := false }) :
    s.attemptFailed l phase = if ks = [] then t.linkFailed l 1 k phase else t := by
  subst hx ht
  unfold State.attemptFailed
  dsimp only
  rw [hcands]
  cases ks <;> rfl

end

/-- Settles O33. The kinds 0, 1 and 2 of a hot plug and the cause 1 of a failed training are the model's choice of log entry
31; that an unplug ends a waiting AUX with TIMEOUT is the reading of log entry 122. -/
theorem linkEventsComplete : Obligations.LinkEventsComplete := by
  rintro s l phase x sink data topo rfl hon
  refine ⟨fun hena hhpd t ht => ?_, fun hena hhpd => ?_, fun hena => ?_,
    fun hstate t ht => ?_, fun hena hhpd hstate => ⟨?_, ?_⟩, fun die w k hdie hw hk hplaces => ?_,
    fun hbusy => ⟨fun hstate => ?_, fun hstate => ⟨?_, ?_⟩, fun hfew => ?_, fun hmany => ?_, fun hfew => ?_, fun hmany => ?_⟩,
    fun hstate hdue => ?_, fun hstate hwait hdue t ht => ?_, fun k ks htraining hcands => ⟨?_, fun t ht => ⟨?_, ?_⟩⟩,
    fun hstate => ⟨fun hin => ?_, fun hin hsome => ?_⟩⟩
  · subst ht
    exact settled (if_neg (by simp [hon, hena, hhpd]))
  · exact settled (if_neg (by simp [hon, hena, hhpd]))
  · exact settled (if_pos ⟨hon, hena⟩)
  · exact settled ((if_pos hon).trans (lockLoss_active rfl hstate ht))
  · refine settled ((if_neg (by simp [hon, hena, hhpd])).trans ?_)
    dsimp only
    rw [hstate]
    rfl
  · refine settled ((if_neg (by simp [hon, hena, hhpd])).trans ?_)
    dsimp only
    rw [hstate]
    rfl
  · subst hw
    show execLinkTrainingSlotFree die s = _
    unfold execLinkTrainingSlotFree
    dsimp only
    rw [hk]
    exact settled (if_pos ⟨hdie, hplaces⟩)
  · exact settled ((if_neg (not_bool hbusy)).trans (if_pos hstate))
  · exact settled ((if_neg (not_bool hbusy)).trans (if_neg hstate))
  · exact settled ((if_neg (not_bool hbusy)).trans (if_neg hstate))
  · exact settled ((if_neg (not_bool hbusy)).trans (if_neg (by omega)))
  · exact settled ((if_neg (not_bool hbusy)).trans (if_pos hmany))
  · exact settled ((if_pos hbusy).trans (if_neg (by omega)))
  · exact settled ((if_pos hbusy).trans (if_pos hmany))
  · exact settled (if_pos ⟨hon, hstate, hdue⟩)
  · subst ht
    exact settled (if_pos (by simp [hon, hstate, hwait, hdue]))
  · show execTrainingAttemptEnd l true phase s = _
    rw [execTrainingAttemptEnd, hcands]
    exact settled ((if_neg (not_bool htraining)).trans (if_pos rfl))
  · intro hmore
    have hnext := (attemptFailed_cons (phase := phase) rfl hcands ht).trans (if_neg hmore)
    exact ⟨settled ((if_neg (not_bool htraining)).trans hnext), settled ((if_pos htraining).trans hnext)⟩
  · intro hlast
    have hnext := (attemptFailed_cons (phase := phase) rfl hcands ht).trans (if_pos hlast)
    exact ⟨settled ((if_neg (not_bool htraining)).trans hnext), settled ((if_pos htraining).trans hnext)⟩
  · exact settled ((if_neg (by simp [hon, hstate])).trans (if_pos hin))
  · exact settled ((if_neg (by simp [hon, hstate])).trans ((if_neg hin).trans (if_neg (by simpa using hsome))))

end Sys2Proof.Machine

/-! The events of the video inputs (R246-R248, R251-R259, R267) and of the audio sources (R270-R278). -/

namespace Sys2Proof.Machine

/-! ## Video inputs -/

section
variable {s : State} {v line period : Nat} {px : List Pix}

/-- A line after the first, of the right period and width, is captured and kept for the direct path (R252). -/
theorem lineEnd_regular {i : Input} (hi : i = s.input v) (hline : line ≠ 0) (hacq : i.acquired = true)
    (hlate : 100 * (period - i.linePs) ≤ i.linePs) (hearly : 100 * (i.linePs - period) ≤ i.linePs)
    (hwidth : px.length = i.msa.wa) :
    s.lineEnd v line period px =
      (s.captureRow v line px).modInput v fun i => { i with directLine := tset i.directLine line (i.lineComps px) } := by
  subst hi
  have hperiod : ¬((s.input v).linePs < 100 * (if (s.input v).linePs ≤ period then period - (s.input v).linePs
      else (s.input v).linePs - period) ∨ px.length ≠ (s.input v).msa.wa) := by
    rintro (h | h)
    · split at h <;> omega
    · exact h hwidth
  unfold State.lineEnd
  dsimp only
  rw [if_neg hline, if_neg (not_bool hacq), if_neg hperiod, List.take_of_length_le (Nat.le_of_eq hwidth)]

theorem frameEnd_cases {i : Input} {t : State} {f : InFrame} (hi : i = s.input v) (hstream : s.streamOn v = true)
    (ht : t = s.modInput v (fun i => { i with sinceStart := i.sinceStart.map (· + f.framePs) })) :
    exec (.inputFrameEnd v f) s = .next (settle (
      if !i.acquired then t.seekFrame v f
      else if !i.sameFormat f then t.formatChange v f
      else (t.rateCheck v f).hold v (i.holdReason f))) := by
  subst hi ht
  refine settled ((if_neg (not_bool hstream)).trans ?_)
  dsimp only
  rw [State.modInput, input_setInput]
  rfl

end

/-- Settles O34. The time of frame periods since a capture began and the judgement of a new format's first frame follow log
entry 64, and the order in which the ring's buffers are taken log entry 63. -/
theorem inputEventsComplete : Obligations.InputEventsComplete := by
  rintro s v rate lanes line period i px f rfl hon
  refine ⟨fun hhpd htrained hrate hlanes => ?_,
    fun hhpd htrained hrate => ?_, settled (if_pos hon), fun t hlost => ?_, settled (if_pos hon), fun htrained => ?_,
    fun t hwriting ht u hu => ?_⟩
  · refine settled ((if_neg (by simp [hon, hhpd])).trans ?_)
    dsimp only
    rw [htrained, Option.isSome_none, if_neg Bool.false_ne_true]
    exact if_pos ⟨List.contains_iff_mem.mpr hrate, List.contains_iff_mem.mpr hlanes⟩
  · refine settled ((if_neg (by simp [hon, hhpd])).trans ?_)
    dsimp only
    rw [htrained, Option.isSome_none, if_neg Bool.false_ne_true]
    exact if_neg fun h => hrate (List.contains_iff_mem.mp h.1)
  · show execInputNosignalTimeout v s = _
    rw [execInputNosignalTimeout, hlost]
    exact settled (if_pos hon)
  · have hstream : s.streamOn v = true := by
      simp [State.streamOn, hon, htrained]
    refine ⟨settled (if_pos hstream), settled (if_pos hstream), fun hline hacq hlate hearly hwidth => ?_,
      fun hline => ?_, fun t ht => ⟨fun hacq => ?_, fun hacq hdiff => ?_, fun hacq hsame => ?_⟩⟩
    · exact settled ((if_pos hstream).trans (lineEnd_regular rfl hline hacq hlate hearly hwidth))
    · subst hline
      exact settled (if_pos hstream)
    · rw [frameEnd_cases rfl hstream ht, if_pos (by simp [hacq])]
    · rw [frameEnd_cases rfl hstream ht, if_neg (by simp [hacq]), if_pos (by simp [hdiff])]
    · rw [frameEnd_cases rfl hstream ht, if_neg (by simp [hacq]), if_neg (by simp [hsame])]
  · subst hu ht
    exact settled ((if_pos ⟨hon, hwriting⟩).trans rfl)

/-! ## Audio sources -/

section
variable {s t u : State} {k ticks : Nat} {b1 b2 : List Bool} {a : Audio} {x y : Int}

theorem aud_slotErrors (ha : a = s.aud k) (ht : t = s.modAud k (fun a => { a with
      slotErrs := min 0xFFFFFFFF (a.slotErrs + a.slotErr k b1 + a.slotErr k b2) })) :
    t.aud k = { a with slotErrs := min 0xFFFFFFFF (a.slotErrs + a.slotErr k b1 + a.slotErr k b2) } := by
  rw [ht, State.modAud, aud_setAud, ha]

theorem audioWsPeriod_counted (ha : a = s.aud k) (hon : s.audioOn k = true)
    (ht : t = s.modAud k (fun a => { a with
      slotErrs := min 0xFFFFFFFF (a.slotErrs + a.slotErr k b1 + a.slotErr k b2) })) :
    exec (.audioWsPeriod k ticks b1 b2) s = .next (settle (if a.acquired then t.wsPeriod k ticks b1 b2 else t)) := by
  subst ha ht
  refine settled ((if_neg (not_bool hon)).trans ?_)
  dsimp only
  rw [State.modAud, aud_setAud]

/-- A WS period of the right length is decoded (R271). -/
theorem wsPeriod_decoded (hsame : a.isGlitch ticks = false) (hx : x = a.sampleOf (a.slotBits k b1))
    (hy : y = a.sampleOf (a.slotBits k b2)) (ha : a = t.aud k) :
    t.wsPeriod k ticks b1 b2 = ((t.setAud k { a with prev := [x, y] }).audioFrame k x y).audioToHeads k x y := by
  subst ha hx hy
  unfold State.wsPeriod
  dsimp only
  rw [hsame]
  rfl

/-- A glitch repeats the samples before it (R274). -/
theorem wsPeriod_glitch (hglitch : a.isGlitch ticks = true) (hprev : a.prev = [x, y]) (ha : a = t.aud k) :
    t.wsPeriod k ticks b1 b2 =
      ((t.setAud k { a with glitches := satInc 32 a.glitches }).audioFrame k x y).audioToHeads k x y := by
  subst ha
  unfold State.wsPeriod
  simp only [hglitch, if_true, hprev, List.getD_cons_zero, List.getD_cons_succ]

/-- The measured rate in mHz: exact, or rounded up by a free bit (R272). -/
def measuredRate (s : State) (edges ticks : Nat) : Nat :=
  (edges - 1) * 25000000000 / max 1 ticks +
    if (edges - 1) * 25000000000 % max 1 ticks = 0 then 0 else (Config.freeBool s.freeCtr).toNat

theorem audioWindowEnd_measured (hon : s.audioOn k = true) {edges lo hi : Nat} (hu : u = { s with freeCtr := s.freeCtr + 1 }) :
    exec (.audioWindowEnd k edges ticks lo hi) s =
      .next (settle (u.audioWindow k edges ticks lo hi (measuredRate s edges ticks))) := by
  subst hu
  exact settled (if_neg (not_bool hon))

end

/-- Settles O35. That the measured rate in mHz is rounded by a free value is the model's choice of log entry 17. -/
theorem audioEventsComplete : Obligations.AudioEventsComplete := by
  refine fun s k ticks edges lo hi h ch b1 b2 a ha hon => ⟨fun t ht => ⟨fun hacq => ?_, fun x y hacq hsame hx hy => ?_,
      fun x y hacq hglitch hprev => ?_⟩,
    ⟨measuredRate s edges ticks, fun hexact => ?_, ?_, fun u hu => ⟨fun hacq hrange hsteady => ?_, fun hacq hrange => ?_,
      fun hacq hrange hnear => ?_, fun hacq hrange hfar => ?_⟩⟩,
    settled (if_pos hon), fun t hblock => ?_, fun kind t u hwait hu hnone => ?_⟩
  · rw [audioWsPeriod_counted ha hon ht, if_neg (by simp [hacq])]
  · have haud := aud_slotErrors ha ht
    rw [audioWsPeriod_counted ha hon ht, if_pos hacq]
    exact settled (wsPeriod_decoded (by rw [haud]; exact hsame) (by rw [haud]; exact hx) (by rw [haud]; exact hy) rfl)
  · have haud := aud_slotErrors ha ht
    rw [audioWsPeriod_counted ha hon ht, if_pos hacq]
    have hglitches : (t.aud k).glitches = a.glitches := by rw [haud]
    rw [← hglitches]
    exact settled (wsPeriod_glitch (by rw [haud]; exact hglitch) (by rw [haud]; exact hprev) rfl)
  · rw [measuredRate, if_pos hexact, Nat.add_zero]
  · rw [measuredRate]
    cases Config.freeBool s.freeCtr <;> split <;> simp
  all_goals subst ha
  · subst hu
    rw [audioWindowEnd_measured hon rfl]
    exact settled ((if_neg (Bool.eq_false_iff.mp hacq)).trans (if_pos ⟨hrange, hsteady⟩))
  · subst hu
    rw [audioWindowEnd_measured hon rfl]
    exact settled ((if_pos hacq).trans (if_pos (by simp [hrange])))
  · subst hu
    rw [audioWindowEnd_measured hon rfl]
    exact settled ((if_pos hacq).trans ((if_neg (not_bool hrange)).trans (if_neg (Nat.not_lt.mpr hnear))))
  · subst hu
    rw [audioWindowEnd_measured hon rfl]
    exact settled ((if_pos hacq).trans ((if_neg (not_bool hrange)).trans (if_pos hfar)))
  · show execAudioPartialBlockTimer k s = _
    rw [execAudioPartialBlockTimer, hblock]
    exact settled (if_pos hon)
  · subst hu
    show execAudioChangeTimeout h ch s = _
    rw [execAudioChangeTimeout, hwait]
    exact settled (if_pos (.inl hnone))

end Sys2Proof.Machine

/-! The events of interrupts and faults (R464-R478, R490) and of the Mantel Engines (R136, R179, R184, R216). -/

namespace Sys2Proof.Machine

/-! ## Interrupts and faults -/

section
variable {s t : State} {rec b : Nat} {syn : Word} {holds : Bool}

/-- Where every pending source is masked, an evaluation delivers at most an urgent notification (R464). -/
theorem irqEvaluate_masked (hmasked : ∀ n, n < 512 → s.irq.pend.getLsbD n = true → s.irq.mask.getLsbD n = true) :
    s.irqEvaluate = s.deliverUrgent := by
  have hnone : (List.range 512).filter (fun n =>
      s.irq.pend.getLsbD n && !s.irq.mask.getLsbD n && s.srcLive n && !s.holding (groupOf n)) = [] := by
    refine List.filter_eq_nil_iff.mpr fun n hn => ?_
    cases hpend : s.irq.pend.getLsbD n with
    | false => simp
    | true => simp [hmasked n (List.mem_range.mp hn) hpend]
  unfold State.irqEvaluate
  dsimp only
  rw [hnone]
  rfl

theorem faultDetected_detected (hb : b < 64) (hrec : rec < 40) (hlive : s.recLive rec = true)
    (ht : t = s.detect rec b syn.toNat holds) :
    exec (.faultDetected rec b syn holds) s = .next (settle (if wasReset s t then t else t.faultWork rec b)) := by
  subst ht
  exact settled (if_neg (by simp [hlive]; omega))

theorem faultWork_other_record (hrec : 8 ≤ rec) : s.faultWork rec b = s := if_pos (.inl hrec)

/-- The further work of a fault of a cluster's record: a Blender's retires it, a Trestle's counts (R473, R475). -/
theorem faultWork_cluster (hrec : rec < 8) (hon : s.clusterState (4 * rec + b % 4) = 1) :
    s.faultWork rec b = if 8 ≤ b ∧ b ≤ 11 then s.retireCluster (4 * rec + b % 4)
      else if 28 ≤ b ∧ b ≤ 31 then s.trestleError (4 * rec + b % 4) else s :=
  if_neg (by rw [hon]; omega)

theorem resetTested_passed : s.resetTested rec b true = s := by
  simp only [State.resetTested, if_true, ite_self]

end

/-- Settles O36. A fault is detected first; the work of its bit follows where no reset came of it. -/
theorem faultAndInterruptEventsComplete : Obligations.FaultAndInterruptEventsComplete := by
  refine fun s group die core rec b syn holds ok => ⟨⟨rfl, fun hmasked => ?_⟩, fun e hrun t ht => ?_, rfl,
    fun hb hrec hlive t ht => ⟨fun hreset => ?_, fun hstay hother => ?_, fun hstay hcluster hon =>
      ⟨fun hlow hhigh => ?_, fun hlow hhigh => ?_, fun hout => ?_⟩⟩, fun o hopen => ⟨?_, ?_⟩, fun hlow t ht => ?_⟩
  · exact settled (congrArg (advance 2) (irqEvaluate_masked hmasked))
  · subst ht
    show execHoldoffExpiry group s = _
    rw [execHoldoffExpiry, hrun]
    exact settled (if_neg (by omega))
  · rw [faultDetected_detected hb hrec hlive ht, if_pos hreset]
  · rw [faultDetected_detected hb hrec hlive ht, if_neg (by simp [hstay]), faultWork_other_record hother]
  · rw [faultDetected_detected hb hrec hlive ht, if_neg (by simp [hstay]), faultWork_cluster hcluster hon,
      if_pos ⟨hlow, hhigh⟩]
  · rw [faultDetected_detected hb hrec hlive ht, if_neg (by simp [hstay]), faultWork_cluster hcluster hon,
      if_neg (by omega), if_pos ⟨hlow, hhigh⟩]
  · rw [faultDetected_detected hb hrec hlive ht, if_neg (by simp [hstay]), faultWork_cluster hcluster hon,
      if_neg (by omega), if_neg (by omega)]
  · show execBlockResetComplete rec ok s = _
    rw [execBlockResetComplete, hopen]
  · show execBlockResetComplete rec true s = _
    rw [execBlockResetComplete, hopen]
    exact settled (congrArg (·.faultOver rec o.2) resetTested_passed)
  · subst ht
    exact settled (if_pos hlow)

/-! ## Mantel Engines -/

section
variable {s t : State} {c h : Nat} {pass : Bool}

theorem miscompare_running (hpair : s.pairState c = 1) (hstate : (s.pair c).state = 0) :
    s.miscompare c = (((s.modPair c fun p => { p with tested := 1, firstFail := false }).markTest c).setPairState c
      1).clusterFault 3 c 0 0 true :=
  if_neg (by simp [hpair, hstate])

theorem pairTested_first (hon : s.clusterState c = 1) (hstate : (s.pair c).state = 1) (htested : (s.pair c).tested = 1) :
    s.pairTested c pass = if pass then s.modPair c (fun p => { p with tested := 0, firstFail := false }) else s.fenceFirst c :=
  (if_neg (by simp [hon, hstate])).trans (if_pos htested)

/-- The test of copy 0 while copy 1 has passed its own (R184). -/
theorem pairTested_second (hon : s.clusterState c = 1) (hstate : (s.pair c).state = 1) (htested : (s.pair c).tested ≠ 1)
    (hfirst : (s.pair c).firstFail = false) :
    s.pairTested c pass =
      if pass then (((s.modPair c fun p => { p with transients := p.transients + 1 }).setPairState c 0).endPairTest c)
      else (s.fenceCopy c 0).endPairTest c := by
  refine (if_neg (by simp [hon, hstate])).trans ((if_neg htested).trans ?_)
  dsimp only
  rw [hfirst]
  cases pass <;> simp only [if_true, Bool.false_eq_true, if_false]

/-- The test of copy 0 after copy 1 failed its own (R184). -/
theorem pairTested_single (hon : s.clusterState c = 1) (hstate : (s.pair c).state = 1) (htested : (s.pair c).tested ≠ 1)
    (hfirst : (s.pair c).firstFail = true) :
    s.pairTested c pass =
      if pass then (s.setPairState c 2).endPairTest c
      else ((s.clusterFault 4 c 0 0 true).fenceCopy c 0).endPairTest c := by
  refine (if_neg (by simp [hon, hstate])).trans ((if_neg htested).trans ?_)
  dsimp only
  rw [hfirst]
  cases pass <;> simp only [if_true, Bool.false_eq_true, if_false]

theorem lutRead_idle (hidle : (s.head h).lutBusy = none) : s.lutRead h = s := by
  rw [State.lutRead, hidle]

theorem lutRead_ok {a m : Nat} {r : DmaResp × List Byte × State} (hbusy : (s.head h).lutBusy = some (a, m))
    (hr : r = s.read a 287496 ⟨6, m, 0⟩) (hok : r.1 = .ok) :
    s.lutRead h = (r.2.2.modHead h fun d => { d with lutBusy := none }).modHead h
      (fun d => if d.running then { d with staged := some (lutOf r.2.1) } else { d with lut := lutOf r.2.1 }) := by
  rw [State.lutRead, hbusy]
  dsimp only
  rw [← hr, if_pos hok]

/-- Of a cluster's heads the first alone waits for its image: the reads of the others do nothing (R136). -/
theorem lutReads_first (ht : t = s.lutRead (4 * c)) (h1 : (t.head (4 * c + 1)).lutBusy = none)
    (h2 : (t.head (4 * c + 2)).lutBusy = none) (h3 : (t.head (4 * c + 3)).lutBusy = none) :
    ((List.range 4).map (4 * c + ·)).foldl State.lutRead s = t := by
  show (((s.lutRead (4 * c)).lutRead (4 * c + 1)).lutRead (4 * c + 2)).lutRead (4 * c + 3) = t
  rw [← ht, lutRead_idle h1, lutRead_idle h2, lutRead_idle h3]

end

/-- Settles O37. Copy 1 of a pair is tested before copy 0 (R184). -/
theorem mantelEventsComplete : Obligations.MantelEventsComplete := by
  refine fun s c hc => ⟨fun hpair hstate => ?_, fun hon hstate => ⟨fun htested => ⟨?_, ?_⟩, fun htested =>
    ⟨fun hfirst => ⟨?_, ?_⟩, fun hfirst => ⟨?_, ?_⟩⟩⟩, fun a b port tag hnew => ?_, fun port tag n hseal hn => ?_,
    fun a m r t hbusy hr hok ht h1 h2 h3 => ?_⟩
  · exact settled ((if_pos hc).trans (miscompare_running hpair hstate))
  · exact settled ((if_pos hc).trans ((pairTested_first hon hstate htested).trans (if_pos rfl)))
  · exact settled ((if_pos hc).trans ((pairTested_first hon hstate htested).trans (if_neg Bool.false_ne_true)))
  · exact settled ((if_pos hc).trans ((pairTested_second hon hstate htested hfirst).trans (if_pos rfl)))
  · exact settled ((if_pos hc).trans ((pairTested_second hon hstate htested hfirst).trans (if_neg Bool.false_ne_true)))
  · exact settled ((if_pos hc).trans ((pairTested_single hon hstate htested hfirst).trans (if_pos rfl)))
  · exact settled ((if_pos hc).trans ((pairTested_single hon hstate htested hfirst).trans (if_neg Bool.false_ne_true)))
  · have hcopied : s.areasCopied = ((s.moveAreas a b).markAreas).finishTag port tag [replyWord stOk false 0] := by
      rw [State.areasCopied, hnew]
    exact settled hcopied
  · subst hn
    refine settled (?_ : s.sealDone = _)
    rw [State.sealDone, hseal]
  · exact settled ((if_pos hc).trans (lutReads_first (ht.trans (lutRead_ok hbusy hr hok).symm) h1 h2 h3))

end Sys2Proof.Machine

/-! The events of the DMA channels (R446, R448-R454). -/

namespace Sys2Proof.Machine

section
variable {s : State} {ch : Nat} {c : Chan} {d : Desc} {resp : DmaResp} {sh dh host : List Byte} {link : DWord}

/-- A channel that may act without its host may act with it. -/
theorem chanGoes_of_package (hgoes : s.chanGoes ch false = true) (b : Bool) : s.chanGoes ch b = true := by
  simp only [State.chanGoes, Bool.false_or, Bool.and_eq_true] at hgoes ⊢
  exact ⟨hgoes.1, by rw [hgoes.2, Bool.or_true]⟩

/-- What a channel waits for with no request outstanding ends in an error where the answer is one (R454). -/
theorem dmaRequestResponse_fetch_error (hc : c = s.chan ch) (hgoes : s.chanGoes ch true = true) (hstate : c.state = 1)
    (hfetch : c.fetching = true) (hresp : resp ≠ .ok) :
    exec (.dmaRequestResponse ch resp sh dh) s = .next (settle (s.chanError ch resp)) := by
  subst hc
  exact settled ((if_neg (not_bool hgoes)).trans ((if_pos (.inl hfetch)).trans (if_pos ⟨hresp, .inl hstate⟩)))

/-- A request of a COPY or CHECK between package addresses (R449, R453). -/
theorem dmaRequest_package {r : DmaResp × List Byte × State} (hc : c = s.chan ch) (hbad : d.bad = false)
    (hsrc : d.srcHost = false) (hdst : d.dstHost = false) (hstore : c.storeDue d = false) (hremain : c.remain ≠ 0)
    (hop : d.op = 0 ∨ d.op = 3) (hflag : d.flag 7 = false) (hr : r = s.read c.src (c.reqBytes d) c.req) :
    s.dmaRequest ch d resp sh dh =
      (let e := if r.1 ≠ .ok then r.1 else resp
       if e = .ok then r.2.2.dmaMove ch d (c.reqBytes d) r.2.1 [] else r.2.2.chanError ch e) := by
  subst hc hr
  have hread : s.dmaRead ch false (s.chan ch).src ((s.chan ch).reqBytes d) sh =
      s.read (s.chan ch).src ((s.chan ch).reqBytes d) (s.chan ch).req := rfl
  have hfill : d.op ≠ 1 := by omega
  have hcompare : d.op ≠ 2 := by omega
  unfold State.dmaRequest
  simp only [hbad, hsrc, hdst, hstore, hremain, hflag, hfill, hcompare, hread, Bool.false_eq_true, false_or, false_and,
    if_false, ne_eq, not_true_eq_false]

theorem dmaRequestResponse_request (hc : c = s.chan ch) (hgoes : s.chanGoes ch false = true)
    (hstate : c.state = 1 ∨ c.state = 2) (hfetch : c.fetching = false) (hreread : c.reread = false)
    (hdesc : c.desc = some d) :
    exec (.dmaRequestResponse ch resp sh dh) s = .next (settle (s.dmaRequest ch d resp sh dh)) := by
  subst hc
  show execDmaRequestResponse ch resp sh dh s = _
  unfold execDmaRequestResponse
  dsimp only
  rw [if_neg (not_bool (chanGoes_of_package hgoes true)), if_neg (by simp [hfetch, hreread]), hdesc]
  exact settled (if_pos ⟨hstate, chanGoes_of_package hgoes _⟩)

/-- The word of a reread link: a descriptor to fetch, an append that came meanwhile, or the end of the chain (R448). -/
theorem dmaLinkRereadResult_host (hc : c = s.chan ch) (hgoes : s.chanGoes ch true = true) (hhost : c.curHost = true)
    (hreread : c.reread = true) (hstate : c.state = 1 ∨ c.state = 4) (hok : s.hostOk ch = true) :
    exec (.dmaLinkRereadResult ch link) s = .next (settle (s.linkWord ch link.toNat)) := by
  subst hc
  have hwaits : ¬(!(s.chanGoes ch (s.chan ch).curHost && (s.chan ch).reread &&
      (decide ((s.chan ch).state = 1) || decide ((s.chan ch).state = 4)))) = true := by
    rw [hhost, hgoes, hreread]
    rcases hstate with h | h <;> simp [h]
  exact settled ((if_neg hwaits).trans ((if_pos hhost).trans (if_pos hok)))

end

/-- Settles O38. A request is judged by its own read and by the answer (R454). -/
theorem dmaChannelEventsComplete : Obligations.DmaChannelEventsComplete := by
  rintro s ch c d host sh dh resp link rfl hch
  refine ⟨fun hgoes hstate hfetch => ⟨fun hhost hok => ?_, fun hhost hok => ?_,
      fun r hhost hr => ⟨fun hok => ?_, fun hok => ?_⟩⟩,
    dmaRequestResponse_fetch_error rfl,
    fun r hgoes hstate hfetch hreread hdesc hbad hsrc hdst hstore hremain hop hflag hr => ?_,
    settled (if_pos hch), fun hgoes hstate hfetch hdesc hremain hstore => ⟨fun hbad => ?_, fun hbad => ?_⟩,
    fun hgoes hhost hreread hstate hok => ?_, fun hstate hstop => ?_, fun hstop k hk => ?_⟩
  · exact settled ((if_pos ⟨hgoes, hstate, hfetch⟩).trans ((if_pos hhost).trans (if_pos hok)))
  · exact settled ((if_pos ⟨hgoes, hstate, hfetch⟩).trans ((if_pos hhost).trans (if_neg (by simp [hok]))))
  · subst hr
    exact settled ((if_pos ⟨hgoes, hstate, hfetch⟩).trans ((if_neg (by simp [hhost])).trans (if_pos hok)))
  · subst hr
    exact settled ((if_pos ⟨hgoes, hstate, hfetch⟩).trans ((if_neg (by simp [hhost])).trans (if_neg hok)))
  · rw [dmaRequestResponse_request rfl hgoes hstate hfetch hreread hdesc,
      dmaRequest_package rfl hbad hsrc hdst hstore hremain hop hflag hr]
    dsimp only
    refine ⟨fun hread hresp => ?_, fun hread hresp => ?_, fun hread => ?_⟩
    · rw [if_neg (not_not_intro hread), if_pos hresp]
    · rw [if_neg (not_not_intro hread), if_neg hresp]
    · rw [if_pos hread, if_neg hread]
  · show execDmaDescriptorComplete ch s = _
    unfold execDmaDescriptorComplete
    dsimp only
    rw [hdesc]
    exact settled ((if_pos (by simp [hgoes, hstate, hfetch, hremain, hstore])).trans (if_neg (by simp [hbad])))
  · show execDmaDescriptorComplete ch s = _
    unfold execDmaDescriptorComplete
    dsimp only
    rw [hdesc]
    exact settled ((if_pos (by simp [hgoes, hstate, hfetch, hremain, hstore])).trans (if_pos hbad))
  · rw [dmaLinkRereadResult_host rfl hgoes hhost hreread hstate hok]
    refine ⟨fun hlink => ?_, fun hlink happend => ?_, fun hlink happend => ?_⟩
    · exact settled (if_pos hlink)
    · exact settled ((if_neg (not_not_intro hlink)).trans (if_pos happend))
    · exact settled ((if_neg (not_not_intro hlink)).trans (if_neg (by simp [happend])))
  · exact settled (if_pos (by simp [hch, hstate, hstop]))
  · subst hk
    exact settled (if_pos ⟨hch, hstop⟩)

end Sys2Proof.Machine

/-! The events of self-repair (R481, R483-R488, R492, R494). -/

namespace Sys2Proof.Machine

section
variable {s t u : State} {c k o us die p : Nat} {pass : Bool}

theorem rotate_free (hkennel : s.kennelSlot c = some k) (hon : s.clusterState c = 1) (hwork : s.repairWork c = false)
    (hrole : (s.slot (9 * c + k)).role ≠ some 2) : s.rotate c = s.beginRotation c k := by
  rw [State.rotate, hkennel]
  exact (if_neg (not_not_intro hon)).trans (if_neg (by simp [hwork, hrole]))

theorem handCompared_judged (hhand : (s.cluster c).hand = some (o, k)) (hrole : (s.slot (9 * c + k)).role ≠ some 2) :
    s.handCompared c pass = if pass then
        ((s.modCluster c fun r => { (r.handOver o k) with hand := none, kennel := some o }).setRole c k 0).setRole c o 2
      else s.setRole c k 2 := by
  rw [State.handCompared, hhand]
  exact if_neg hrole

/-- A faulty slot is withheld, and a Kennel that is free takes it over (R484, R485). -/
theorem leFault_spare (hstate : s.slotState (9 * c + k) = 1) (hkennel : s.kennelSlot c ≠ some k)
    (hsound : (s.slot (9 * c + k)).faulty = false)
    (ht : t = (s.modSlot (9 * c + k) fun x => { x with faulty := true }).withhold c k)
    (hfree : (t.cluster c).takeover = none) (hspare : t.kennelSlot c = some o)
    (hu : u = (t.modCluster c fun r => { r with hand := none, takeover := some (k, o) }).setRole c o 1) :
    s.leFault c k = if rReset (s.react (leSource c)) = 1 then u.clusterFault 0 c k 0 true
      else (u.retireFaulty c k).clusterFault 0 c k 0 false := by
  have hjudged : ¬(s.slotState (9 * c + k) ≠ 1 ∨ s.kennelSlot c = some k ∨ (s.slot (9 * c + k)).faulty = true) := by
    simp [hstate, hkennel, hsound]
  unfold State.leFault
  dsimp only
  rw [if_neg hjudged, ← ht, hfree, Option.isNone_none, if_pos rfl, hspare]
  dsimp only [Option.map_some, Option.some_or]
  rw [← hu]
  by_cases htested : rReset (s.react (leSource c)) = 1 <;> simp [htested]

/-- Without a free Kennel the layers of a faulty slot are redistributed (R486). -/
theorem leFault_noSpare (hstate : s.slotState (9 * c + k) = 1) (hkennel : s.kennelSlot c ≠ some k)
    (hsound : (s.slot (9 * c + k)).faulty = false)
    (ht : t = (s.modSlot (9 * c + k) fun x => { x with faulty := true }).withhold c k)
    (hnone : (t.cluster c).takeover ≠ none ∨ t.kennelSlot c = none)
    (hu : u = t.modCluster c (fun r => { r with hand := none })) :
    s.leFault c k = if rReset (s.react (leSource c)) = 1 then (u.redistribute c).clusterFault 0 c k 0 true
      else (u.retireFaulty c k).clusterFault 0 c k 0 false := by
  have hjudged : ¬(s.slotState (9 * c + k) ≠ 1 ∨ s.kennelSlot c = some k ∨ (s.slot (9 * c + k)).faulty = true) := by
    simp [hstate, hkennel, hsound]
  have hspare : (if (t.cluster c).takeover.isNone = true then t.kennelSlot c else none) = none := by
    rcases hnone with h | h
    · exact if_neg (by simpa using h)
    · rw [h, ite_self]
  unfold State.leFault
  dsimp only
  rw [if_neg hjudged, ← ht, hspare]
  dsimp only [Option.map_none, Option.none_or]
  rw [← hu]
  by_cases htested : rReset (s.react (leSource c)) = 1 <;> simp [htested]

theorem takeoverDone_some (htake : (s.cluster c).takeover = some (k, o))
    (ht : t = ((s.modCluster c fun r => { (r.handOver k o) with takeover := none }).unwithhold c k).setRole c o 0)
    (hu : u = if t.slotState (9 * c + k) = 1 then (t.modCluster c fun r => { r with kennel := some k }).setRole c k 2 else t) :
    s.takeoverDone c us = (u.repairAction 0x30 (9 * c + k) 0 us).heldRotation c := by
  subst hu ht
  rw [State.takeoverDone, htake]

/-- The first transient of the day returns the slot that passes its test; anything else retires it (R487). -/
theorem shortTested_faulty (hfaulty : (s.slot (9 * c + k)).faulty = true) :
    s.shortTested c k pass =
      ((if pass = true ∧ (!(s.slot (9 * c + k)).transients.any (s.now < · + dayNs)) = true then s.slotReturns c k
        else s.retireFaulty c k).faultOver (c / 4) (clusterBit 0 c)).heldRotation c :=
  if_neg (not_bool hfaulty)

theorem kennelTested_failed (hkennel : s.kennelSlot c = some k) :
    s.kennelTested c false = (((s.modSlot (9 * c + k) fun x => { x with testOk := false }).retireSlot c k).clusterFault 1 c
      k 0 true).faultOver (c / 4) (clusterBit 1 c) := by
  rw [State.kennelTested, hkennel]
  exact if_pos rfl

theorem kennelTested_passed (hkennel : s.kennelSlot c = some k)
    (ht : t = s.modSlot (9 * c + k) (fun x => { x with testOk := true, role := some 1 })) (hhand : (t.cluster c).hand = none) :
    s.kennelTested c true = t.heldRotation c := by
  rw [State.kennelTested, hkennel]
  refine (if_neg Bool.false_ne_true).trans ?_
  dsimp only
  rw [← ht, hhand]

/-- The fault of the running Bureau pair, that a free bit may or may not record (R492). -/
def bureauNoted (s : State) (die : Nat) : State :=
  if Config.freeBool s.freeCtr then s.noteBit (dieRec die 0) 0 (s.bureau die).active else s

theorem bureauFails_standby (hsound : (s.bureau die).failedPair = none)
    (hstandby : (s.bureau die).retired.contains (1 - (s.bureau die).active) = false) :
    s.bureauFails die = (({ bureauNoted s die with freeCtr := s.freeCtr + 1 }).setBureau die { s.bureau die with
        active := 1 - (s.bureau die).active, failedPair := some (s.bureau die).active }).detect (dieRec die 0) 1
          (s.bureau die).active true := by
  have hctr : (bureauNoted s die).freeCtr = s.freeCtr := by
    unfold bureauNoted
    split <;> rfl
  have hjudged : ¬((s.bureau die).failedPair.isSome = true ∨
      (s.bureau die).retired.contains (1 - (s.bureau die).active) = true) := by
    rw [hsound, hstandby]
    decide
  unfold State.bureauFails
  dsimp only
  rw [if_neg hjudged]
  show (({ bureauNoted s die with freeCtr := (bureauNoted s die).freeCtr + 1 }).setBureau _ _).detect _ _ _ _ = _
  rw [hctr]

theorem pairSelfTested_passed (hfailed : (s.bureau die).failedPair = some p)
    (ht : t = (s.modBureau die fun b => { b with failedPair := none }).repaired 0x15 false die p (2 * die + p)) :
    s.pairSelfTested die true =
      ((List.range 16).map (16 * die + ·)).foldl State.heldRotation (t.faultOver (dieRec die 0) 1) := by
  subst ht
  rw [State.pairSelfTested, hfailed]
  rfl

theorem pairSelfTested_failed (hfailed : (s.bureau die).failedPair = some p)
    (ht : t = ((s.modBureau die fun b => { b with failedPair := none, retired := addTo b.retired p }).repaired 0x14 true
        die p (2 * die + p)).noteBit (dieRec die 0) 2 p) :
    s.pairSelfTested die false =
      ((List.range 16).map (16 * die + ·)).foldl State.heldRotation (t.faultOver (dieRec die 0) 1) := by
  subst ht
  rw [State.pairSelfTested, hfailed]
  rfl

end

/-- Settles O39. The free record of a miscompare at a failover is log entry 100's, the one result of comparison per cluster
log entry 108's, and the outcome 0 of a repair action log entry 14's: each is the model's choice. -/
theorem repairEventsComplete : Obligations.RepairEventsComplete := by
  refine fun s c k o us h die p => ⟨fun t hc ht hkennel hon hwork hrole => ?_, fun hc hhand hrole => ⟨?_, ?_⟩,
    fun t u hc hk hstate hkennel hsound ht => ⟨fun hfree hspare hu => ⟨fun hreset => ?_, fun hreset => ?_⟩,
      fun hnone hu => ⟨fun hreset => ?_, fun hreset => ?_⟩⟩,
    fun t u hc htake ht hu => ?_, fun hc hk hfaulty => ⟨fun hfirst => ?_, fun hagain => ?_, ?_⟩,
    fun hc hkennel => ⟨?_, fun t ht hhand => ?_⟩, fun m t hmig htarget => ⟨?_, fun hlocked => ?_⟩, rfl,
    fun hdie hsound hstandby => ?_, fun hdie hfailed => ⟨fun t ht => ?_, fun t ht => ?_⟩⟩
  · subst ht
    exact settled ((if_pos hc).trans (rotate_free hkennel hon hwork hrole))
  · exact settled ((if_pos hc).trans ((handCompared_judged hhand hrole).trans (if_pos rfl)))
  · exact settled ((if_pos hc).trans ((handCompared_judged hhand hrole).trans (if_neg Bool.false_ne_true)))
  · exact settled ((if_pos ⟨hc, hk⟩).trans ((leFault_spare hstate hkennel hsound ht hfree hspare hu).trans (if_pos hreset)))
  · exact settled ((if_pos ⟨hc, hk⟩).trans ((leFault_spare hstate hkennel hsound ht hfree hspare hu).trans (if_neg hreset)))
  · exact settled ((if_pos ⟨hc, hk⟩).trans ((leFault_noSpare hstate hkennel hsound ht hnone hu).trans (if_pos hreset)))
  · exact settled ((if_pos ⟨hc, hk⟩).trans ((leFault_noSpare hstate hkennel hsound ht hnone hu).trans (if_neg hreset)))
  · exact settled ((if_pos hc).trans (takeoverDone_some htake ht hu))
  · refine settled ((if_pos ⟨hc, hk⟩).trans ((shortTested_faulty hfaulty).trans ?_))
    rw [if_pos ⟨rfl, by simp [hfirst]⟩]
  · refine settled ((if_pos ⟨hc, hk⟩).trans ((shortTested_faulty hfaulty).trans ?_))
    rw [if_neg (by simp [hagain])]
  · refine settled ((if_pos ⟨hc, hk⟩).trans ((shortTested_faulty hfaulty).trans ?_))
    rw [if_neg fun h => Bool.false_ne_true h.1]
  · exact settled ((if_pos hc).trans (kennelTested_failed hkennel))
  · exact settled ((if_pos hc).trans (kennelTested_passed hkennel ht hhand))
  · show execMigrationSynthLocked h s = _
    rw [execMigrationSynthLocked, hmig]
    dsimp only
    rw [htarget]
  · show execMigrationLinkSwitch h s = _
    rw [execMigrationLinkSwitch, hmig]
    dsimp only
    rw [if_pos hlocked, htarget]
  · refine ⟨{ bureauNoted s die with freeCtr := s.freeCtr + 1 }, s.bureau die, rfl, rfl, ?_,
      settled ((if_pos hdie).trans (bureauFails_standby hsound hstandby))⟩
    unfold bureauNoted
    split
    · exact .inr rfl
    · exact .inl rfl
  · exact settled ((if_pos hdie).trans (pairSelfTested_passed hfailed ht))
  · exact settled ((if_pos hdie).trans (pairSelfTested_failed hfailed ht))

end Sys2Proof.Machine

/-! The events of background work (R496-R503, R569) and of power, supplies and resets (R510-R513, R555-R557). -/

namespace Sys2Proof.Machine

/-! ## Background work -/

section
variable {s t : State} {idx : Nat} {val : Int}

theorem railReading_kept {l v : List Nat} (hon : s.regionState idx = 1) (hl : l = tget [] s.telem.rails idx)
    (hv : v = if l.isEmpty then [val.toNat, val.toNat, val.toNat]
      else [val.toNat, min val.toNat (l.getD 1 val.toNat), max val.toNat (l.getD 2 val.toNat)])
    (ht : t = { s with telem := { s.telem with rails := tset s.telem.rails idx v } }) :
    s.railReading idx val = t.judgeReading (64 + idx) val := by
  subst ht hv hl
  exact if_neg (not_not_intro hon)

theorem thermalReading_kept (hidx : idx < 64) (hon : s.dieState (idx / 32) = 1)
    (hworks : s.telem.failed.contains idx = false) :
    s.thermalReading idx val =
      ((({ s with telem := s.telem.read idx val }).judgeReading idx val).junction (idx / 32) 2 100 val).junction
        (idx / 32) 1 105 val := by
  have hkept : ¬(64 ≤ idx ∨ s.dieState (idx / 32) ≠ 1 ∨ s.telem.failed.contains idx = true) := by
    simp only [hon, hworks, ne_eq, not_true_eq_false, Bool.false_eq_true, or_false]
    omega
  exact if_neg hkept

end

/-- Settles O40. The regions' pass of the Hound is the model's choice of log entry 111, wear of running heads alone that of
log entry 112, and the limits of the junction are the reading of log entry 114. -/
theorem backgroundEventsComplete : Obligations.BackgroundEventsComplete := by
  refine fun s addr h idx val flips errs => ⟨fun r t hr ht => ?_, fun bad t hbad ht => ?_, rfl, fun hh horbits => ?_,
    fun hperiod t ht => ?_, fun l v t hon hl hv ht => ?_, fun hidx hon hworks => ?_⟩
  · subst ht hr
    rfl
  · subst ht hbad
    rfl
  · exact settled (if_pos ⟨hh, horbits⟩)
  · subst ht
    exact settled (if_neg hperiod)
  · exact settled ((if_pos rfl).trans (railReading_kept hon hl hv ht))
  · exact settled ((if_neg Bool.false_ne_true).trans (thermalReading_kept hidx hon hworks))

/-! ## Power, supplies and resets -/

/-- A disabled wake source does nothing (R512). -/
theorem wake_disabled {s : State} {b : Nat} (hmask : bit s.pwr.wakeMask b = false) : s.wake b = s :=
  if_pos (.inr (by simp [hmask]))

theorem wake_asleep {s : State} {b : Nat} (hb : b < 6) (hmask : bit s.pwr.wakeMask b = true)
    (hasleep : s.pwr.state = .standby ∨ s.pwr.state = .retain) : s.wake b = s.beginWake b :=
  (if_neg (by rw [hmask]; simpa using hb)).trans (if_pos hasleep)

/-- Settles O41. That the drop of SUP_EN makes the switched supplies not good at once is the model's choice of log
entry 95. -/
theorem powerAndSupplyEventsComplete : Obligations.PowerAndSupplyEventsComplete := by
  refine fun s b ns rail => ⟨fun t htarget hmoves => ?_, fun hb hmask hasleep => ?_, fun hb hmask => ?_, fun hio => ?_, rfl,
    fun hio hen hstep => ⟨fun hpor => ?_, fun hpor => ?_⟩, fun hstandby => ?_, fun hstep hpor hbad => ?_,
    fun hpor => ⟨fun hretain => ?_, fun hstate hstep => ?_⟩, fun hpor => ⟨fun hlong => ?_, fun hshort => ?_,
      (Config.freeWord s.freeCtr).toNat, fun r hr => ?_⟩, rfl⟩
  · show execPowerTransitionComplete s = _
    rw [execPowerTransitionComplete, htarget]
    exact settled (if_pos hmoves)
  · exact settled (wake_asleep hb hmask hasleep)
  · exact settled (wake_disabled hmask)
  · exact settled (if_neg (by simp [hio]))
  · exact settled ((if_neg (by simp [hio, hen])).trans ((if_neg (not_not_intro hstep)).trans (if_pos hpor)))
  · exact settled ((if_neg (by simp [hio, hen])).trans ((if_neg (not_not_intro hstep)).trans (if_neg (by simp [hpor]))))
  · exact settled (if_pos hstandby)
  · exact settled (if_pos (by simp [hstep, hpor, hbad]))
  · exact settled ((if_neg (by simp [hpor, hretain])).trans (if_pos hretain))
  · simp only [List.mem_cons, List.not_mem_nil, or_false, not_or] at hstate
    obtain ⟨hoff, hstandby, hretain⟩ := hstate
    exact settled ((if_neg (by simp [hpor, hoff])).trans ((if_neg hretain).trans (if_neg (by simp [hstandby, hstep]))))
  · have hkept : ¬(s.pwr.por = true ∨ ns < 1000) := by
      rw [hpor]
      simp only [Bool.false_eq_true, false_or]
      omega
    exact settled ((if_neg hkept).trans (if_neg fun h => Nat.not_lt.mpr hlong h.1))
  · exact settled (if_pos (.inr hshort))
  · subst hr
    exact settled (if_neg (by simp [hpor]))

end Sys2Proof.Machine

/-! The steps of a start (R515-R520) and the events of the Birton links (R523-R532). -/

namespace Sys2Proof.Machine

/-! ## Start -/

/-- Settles O42. Each step of a start is guarded by the one that is in progress (R515). -/
theorem startStepsComplete : Obligations.StartStepsComplete := by
  refine fun s full => ⟨fun hpor hio hon hstep t ht => ?_, fun hstep htrip => ⟨?_, fun t u ht hu => ?_⟩,
    fun hstep t ht => ⟨fun hkind => ?_, fun hkind => ?_⟩, fun hstep t u ht hu => ?_, fun hstep t ht => ?_,
    fun hstep => settled (if_pos hstep), fun hstep => ?_, fun hstep t ht => ?_, fun hstep => ?_⟩
  · subst ht
    exact settled (if_pos ⟨hpor, hio, hon, hstep⟩)
  · exact settled (if_neg (by simp [hstep, htrip]))
  · subst hu ht
    exact settled (if_neg (by simp [hstep, htrip]))
  · subst ht
    refine settled ((if_neg (not_not_intro hstep)).trans ?_)
    dsimp only
    rw [if_neg hkind]
  · subst ht
    refine settled ((if_neg (not_not_intro hstep)).trans ?_)
    dsimp only
    rw [if_pos hkind]
  · subst hu ht
    exact settled (if_neg (not_not_intro hstep))
  · subst ht
    exact settled (if_neg (not_not_intro hstep))
  · show execWarmStartStepDone s = _
    rw [execWarmStartStepDone, hstep]
  · subst ht
    show execWarmStartStepDone s = _
    rw [execWarmStartStepDone, hstep]
  · show execWarmStartStepDone s = _
    rw [execWarmStartStepDone, hstep]

/-! ## Birton links -/

section
variable {s t : State} {b seq : Nat} {l : BLink} {id : Ident} {words : List (BitVec 72)} {ws : List Nat}

theorem linkLive_lt (hlive : s.linkLive b = true) : b < 8 := by
  simp only [State.linkLive, Bool.and_eq_true, decide_eq_true_eq] at hlive
  exact hlive.1.1.1

/-- The patterns of a partner start the training of a link that is DOWN (R523). -/
theorem birtonPartnerPatterns_down (hlive : s.linkLive b = true) (hdown : (s.birton b).state = 0) :
    exec (.birtonPartnerPatterns b) s = .next (settle
      (s.modBirton b fun l => { l with signal := true, state := 1, cand := 0 })) := by
  have hb : ¬8 ≤ b := Nat.not_le.mpr (linkLive_lt hlive)
  have hpresent : (s.modBirton b fun l => { l with signal := true }).birton b = { s.birton b with signal := true } := by
    rw [State.modBirton, State.birton, State.setBirton, tget_tset]
  refine settled ((if_neg hb).trans ((if_pos ⟨hlive, by rw [hpresent]; exact hdown⟩).trans ?_))
  rw [State.modBirton, hpresent]
  simp only [State.modBirton, State.setBirton, tset_tset]

/-- An identity that conflicts with nothing is judged by the package's role (R525). -/
theorem identIn_new (hother : id.pkg ≠ s.cfg.pkgId) (hstrap : s.cfg.cascMaster = false ∨ id.strapMaster = false)
    (ht : t = s.modBirton b (fun l => { l with partner := some id, rxSeq := (l.rxSeq + 1) % 65536 }))
    (hfresh : (List.range 8).find?
      (fun n => n ≠ b && t.birtonUp n && (t.birton n).partner.map (·.pkg) = some id.pkg) = none) :
    s.identIn b id = if t.isMaster then t.masterMeets b id else t.otherMeets b id := by
  have hmasters : ¬(t.cfg.cascMaster = true ∧ id.strapMaster = true) := by
    rw [ht]
    rintro ⟨hown, hpartner⟩
    rcases hstrap with h | h
    · exact Bool.false_ne_true (h.symm.trans hown)
    · exact Bool.false_ne_true (h.symm.trans hpartner)
  have hpkg : id.pkg ≠ t.cfg.pkgId := by
    rw [ht]
    exact hother
  unfold State.identIn
  dsimp only
  rw [← ht, if_neg hmasters, if_neg hpkg, hfresh]

/-- A frame whose words are readable is judged by its CRC, then by its number (R527). -/
theorem birtonFrameReceived_readable (hl : l = s.birton b) (hlive : s.linkLive b = true) (hlow : 2 ≤ l.state)
    (hhigh : l.state ≤ 4) (hws : frameWords words = some ws) :
    exec (.birtonFrameReceived b words) s = .next (settle (
      if !frameCrcOk ws then s.badFrame b ws.head?
      else if ws.headD 0 / 2 ^ 16 % 65536 ≠ l.rxSeq then s.sendNak b else s.goodFrame b ws)) := by
  subst hl
  refine settled ((if_neg ?_).trans (by rw [hws]))
  rw [hlive]
  simp
  omega

theorem birtonFrameReceived_unreadable (hl : l = s.birton b) (hlive : s.linkLive b = true) (hlow : 2 ≤ l.state)
    (hhigh : l.state ≤ 4) (hws : frameWords words = none) :
    exec (.birtonFrameReceived b words) s = .next (settle (s.badFrame b (words.head?.bind protectedWord))) := by
  subst hl
  refine settled ((if_neg ?_).trans (by rw [hws]))
  rw [hlive]
  simp
  omega

theorem nakIn_acked {n : Nat} (ht : t = s.acked b seq)
    (hn : n = if (t.birton b).nakFrom = some seq then (t.birton b).fails + 1 else 1) :
    s.nakIn b seq = if 3 ≤ n then t.linkFails b else t.setBirton b { t.birton b with
        fails := n, nakFrom := some seq, out := (t.birton b).out ++ (t.birton b).unacked.map (·.2) } := by
  subst hn ht
  rfl

end

/-- Settles O43. -/
theorem birtonLinkEventsComplete : Obligations.BirtonLinkEventsComplete := by
  rintro s b seq halfNs l id words rfl hlive
  refine ⟨fun hdown => ⟨?_, fun hsignal => ?_⟩,
    fun htraining => ⟨?_, fun hmore => ?_, fun hlast => ?_⟩, settled (if_pos hlive), fun hstate => ?_, fun hstate => ?_,
    fun t hstate hother hstrap ht hfresh => ⟨fun hmaster => ?_, fun hmaster => ?_⟩, fun hlow hhigh =>
      ⟨fun ws hws hcrc => ⟨fun hnumber => ?_, fun hnumber => ?_⟩, fun ws hws hcrc => ?_,
        birtonFrameReceived_unreadable rfl hlive hlow hhigh, fun t n ht hn => ⟨fun hthird => ?_, fun hfew => ?_⟩⟩⟩
  · exact birtonPartnerPatterns_down hlive hdown
  · exact settled (if_pos ⟨hlive, hdown, hsignal⟩)
  · exact settled ((if_neg (by simp [hlive, htraining])).trans (if_pos rfl))
  · refine settled ((if_neg (by simp [hlive, htraining])).trans ((if_neg Bool.false_ne_true).trans ?_))
    rw [State.modBirton, if_pos hmore]
  · refine settled ((if_neg (by simp [hlive, htraining])).trans ((if_neg Bool.false_ne_true).trans ?_))
    rw [State.modBirton, if_neg (Nat.not_lt.mpr hlast)]
  · exact settled (if_pos ⟨hlive, hstate⟩)
  · exact settled (if_pos ⟨hlive, hstate⟩)
  · exact settled ((if_pos ⟨hlive, hstate⟩).trans ((identIn_new hother hstrap ht hfresh).trans (if_pos hmaster)))
  · exact settled ((if_pos ⟨hlive, hstate⟩).trans
      ((identIn_new hother hstrap ht hfresh).trans (if_neg (by simp [hmaster]))))
  · rw [birtonFrameReceived_readable rfl hlive hlow hhigh hws, if_neg (by simp [hcrc]), if_neg (not_not_intro hnumber)]
  · rw [birtonFrameReceived_readable rfl hlive hlow hhigh hws, if_neg (by simp [hcrc]), if_pos hnumber]
  · rw [birtonFrameReceived_readable rfl hlive hlow hhigh hws, if_pos (by simp [hcrc])]
  · exact settled ((if_pos ⟨hlive, hlow, hhigh⟩).trans ((nakIn_acked ht hn).trans (if_pos hthird)))
  · exact settled ((if_pos ⟨hlive, hlow, hhigh⟩).trans ((nakIn_acked ht hn).trans (if_neg (Nat.not_le.mpr hfew))))

end Sys2Proof.Machine

/-! The events of the system of packages (R534-R548). -/

namespace Sys2Proof.Machine

section
variable {s t u : State} {group m k : Nat}

theorem sendTiming_group (hgroup : group < 32) (ht : t = s.modGrp group (fun g => { g with event := (g.event + 1) % 2 ^ 64 })) :
    s.sendTiming group = (List.range 8).foldl (fun s b =>
      if s.birtonUp b then s.frameOut b 0 0 true group [(t.grp group).event, 2 * s.refNs % 2 ^ 64] else s) t := by
  subst ht
  unfold State.sendTiming
  dsimp only
  rw [if_pos hgroup, if_pos hgroup, Nat.min_eq_left (Nat.le_of_lt hgroup)]

theorem sendTiming_system (ht : t = { s with casc := { s.casc with sysEvent := (s.casc.sysEvent + 1) % 2 ^ 64 } }) :
    s.sendTiming 32 = (List.range 8).foldl (fun s b =>
      if s.birtonUp b then s.frameOut b 0 0 true 32 [t.casc.sysEvent, 2 * s.refNs % 2 ^ 64] else s) t := by
  subst ht
  rfl

/-- Storing whole words reads no word first, and so leaves the block as it is. -/
theorem storeBlock_whole {g a : Nat} {data : List Byte} {pl : Place4} {q : Req} (ha : a % 8 = 0) (hlen : data.length % 8 = 0) :
    (s.storeBlock g a data pl q).2 =
      (({ s with mem := { s.mem with memory := (s.mem.memory.write a data).1 } }).modRegion g fun x =>
        { x with bytes := x.bytes + data.length }).mirrorStore a data := by
  unfold State.storeBlock
  dsimp only
  rw [if_pos ⟨ha, hlen⟩]

end

/-- Settles O44. That a link up without timing frames loses the master is the reading of log entry 88; the acknowledgement
of mirror writes rests on log entry 86 and the handing back of mastership on log entry 135. -/
theorem cascadeEventsComplete : Obligations.CascadeEventsComplete := by
  refine fun s b group count halfNs pkg addr layer h line first data ws no => ⟨fun t hmaster => ⟨fun hgroup ht => ?_,
      fun hgroup ht => ?_⟩, fun hlive => settled (if_pos hlive), fun hmaster hrole hlost hlast t ht => ?_,
    fun hmaster hmember hroute => ?_, fun m u t hm hu hrole hup hdown => ?_, fun m u hm hu hrole hup hlost => ?_,
    fun t u v k hlost hrole hnone hdeputy ht hu hv => ?_, fun hrole => settled (if_pos hrole), fun hrole hback => ?_,
    fun hlive hup hstep => ?_, rfl, fun g a pl q l hmaster hmembers hl hp ha hlen hr => ?_,
    fun hh => ⟨settled (if_pos hh), settled (if_pos hh)⟩⟩
  · exact settled ((if_pos hmaster).trans (sendTiming_group hgroup ht))
  · subst hgroup
    exact settled ((if_pos hmaster).trans (sendTiming_system ht))
  · subst ht
    exact settled (if_neg (by simp [hmaster, hrole, hlost, hlast]))
  · exact settled (if_pos (by simp [hmaster, hmember, hroute]))
  · show execMasterLost s = _
    rw [execMasterLost, hm, hu]
    dsimp only
    rw [if_neg (by simp [hrole, hup]), if_neg (by simp [hup]), hdown]
  · show execMasterLost s = _
    rw [execMasterLost, hm, hu]
    dsimp only
    rw [if_neg (by simp [hrole, hlost]), if_pos hup]
  · subst hv hu ht
    show execDeputyTakeover s = _
    rw [execDeputyTakeover, hlost]
    exact settled (if_pos ⟨hrole, by rw [hnone]; rfl, hdeputy⟩)
  · exact settled ((if_neg (by omega)).trans (if_pos ⟨hrole, hback⟩))
  · exact settled (if_pos (by simp [hlive, hup, hstep]))
  · rw [storeBlock_whole ha hlen]
    obtain ⟨r, hr, hfrom, hto⟩ := hr
    exact mirrorStore_sends _ hmaster hmembers hl hp hr hfrom hto

end Sys2Proof.Machine
